-- ==== Sys2Proof/Word.lean ====
section
/-!
DEFINITION. The word types of the PSM-8260 and their plainest arithmetic: 32-bit registers, 64-bit doublewords,
8-bit memory cells, and the number types that name cores, registers and rills.
-/
namespace Sys2Proof

/-- A 32-bit register or control register. -/
abbrev Word := BitVec 32

/-- A 64-bit doubleword, item, instant or place code. -/
abbrev DWord := BitVec 64

/-- One byte of memory. -/
abbrev Byte := BitVec 8

/-- The 24 Eddy cores (spec/02). -/
abbrev CoreId := Fin 24

/-- A word register number w0 to w31, or the raw 5-bit field that names a pair (R47). -/
abbrev RegNo := Fin 32

/-- A rill number (R1: 64 rills). -/
abbrev RillNo := Fin 64

/-- The high word of a doubleword. -/
def hiWord (d : DWord) : Word := d.extractLsb' 32 32

/-- The low word of a doubleword. -/
def loWord (d : DWord) : Word := d.extractLsb' 0 32

/-- A doubleword from its high and low words. -/
def joinWords (hi lo : Word) : DWord := hi ++ lo

/-- The `w` bits of the natural number `n` from bit `lo` up. -/
def natBits (n lo w : Nat) : Nat := n / 2 ^ lo % 2 ^ w

/-- A bit as a number. -/
def bit01 (b : Bool) : Nat := if b then 1 else 0

/-- A counter of `w` bits that stays at its largest value. -/
def satAdd (w a b : Nat) : Nat := min (a + b) (2 ^ w - 1)

/-- A two's complement reading of the low `w` bits of `n`. -/
def signedOf (w n : Nat) : Int :=
  let m := n % 2 ^ w
  if m < 2 ^ (w - 1) then (m : Int) else (m : Int) - (2 ^ w : Nat)

/-- The low `w` bits of the two's complement form of `z`. -/
def unsignedOf (w : Nat) (z : Int) : Nat := (z % ((2 ^ w : Nat) : Int)).toNat

/-- `z` clamped to the signed range of `w` bits. -/
def clampS (w : Nat) (z : Int) : Int :=
  max (-((2 ^ (w - 1) : Nat) : Int)) (min z ((2 ^ (w - 1) : Nat) - 1 : Int))

/-- `z` clamped to the unsigned range of `w` bits. -/
def clampU (w : Nat) (z : Int) : Int := max 0 (min z ((2 ^ w : Nat) - 1 : Int))

end Sys2Proof
end

