-- ==== Sys2Proof/Syntax.lean ====
section
/-!
DEFINITION. The commands of the module: one constructor for each row of the opcode table, with the row's operands. Instructions
carry the core that issues them and the raw fields of their word; commands of the blocks carry what reaches the block with them.
-/
namespace Sys2Proof

/-- A command: an instruction that a core issues, a write of a register that starts an operation, or an event. -/
inductive Instr where
  /-- `REGISTER_WRITE` (R11): A write to a register that has no row of its own sets its fields, subject to the type, reserved-bit
  and stop-only rules. -/
  | registerWrite (c : CoreId) (a v : Word)
  /-- `RUN_SET` (R12): A write that sets a block's RUN bit from 0 writes its stop-only CTRL fields and runs the block's
  configuration checks, refusing RUN on a breach. -/
  | runSet (n : BitVec 5) (v : Word)
  /-- `RUN_STOP_REQUEST` (R10): A write of 0 to a running block's RUN bit requests a stop. -/
  | runStopRequest (n : BitVec 5) (v : Word)
  /-- `BLOCK_STOPPED` (R10): A block finishes its current unit of work after a requested stop, and RUN then reads 0. -/
  | blockStopped (n : BitVec 5)
  /-- `TIMED_RESULT_RELEASE` (R16): A time island releases a result held in its crossing stage on the first island clock edge at
  or after the result's instant. -/
  | timedResultRelease (island : Fin 4)
  /-- `STORE_FAULT_RESPONSE` (R29): A store fault response reaches the core and raises an imprecise STORE_BUS or WRITE_NARROW at
  the next instruction boundary. -/
  | storeFaultResponse (c : CoreId)
  /-- `ADD` (R59): Adds two word registers. -/
  | add (c : CoreId) (d a b : RegNo) (S : Bool)
  /-- `SUB` (R59): Subtracts one word register from another. -/
  | sub (c : CoreId) (d a b : RegNo) (S : Bool)
  /-- `AND` (R59): Bitwise AND of two word registers. -/
  | and (c : CoreId) (d a b : RegNo) (S : Bool)
  /-- `OR` (R59): Bitwise OR of two word registers. -/
  | or (c : CoreId) (d a b : RegNo) (S : Bool)
  /-- `XOR` (R59): Bitwise XOR of two word registers. -/
  | xor (c : CoreId) (d a b : RegNo) (S : Bool)
  /-- `ANDN` (R59): ANDs wa with the complement of wb. -/
  | andn (c : CoreId) (d a b : RegNo) (S : Bool)
  /-- `SLT` (R59): Writes 1 if wa is less than wb signed, else 0. -/
  | slt (c : CoreId) (d a b : RegNo) (S : Bool)
  /-- `SLTU` (R59): Writes 1 if wa is less than wb unsigned, else 0. -/
  | sltu (c : CoreId) (d a b : RegNo) (S : Bool)
  /-- `SLL` (R59): Shifts wa left by the amount in wb. -/
  | sll (c : CoreId) (d a b : RegNo) (S : Bool)
  /-- `SRL` (R59): Shifts wa right with zero fill by the amount in wb. -/
  | srl (c : CoreId) (d a b : RegNo) (S : Bool)
  /-- `SRA` (R59): Shifts wa right with sign fill by the amount in wb. -/
  | sra (c : CoreId) (d a b : RegNo) (S : Bool)
  /-- `SLLI` (R59): Shifts wa left by an immediate amount. -/
  | slli (c : CoreId) (d a : RegNo) (n : Fin 32) (S : Bool)
  /-- `SRLI` (R59): Shifts wa right with zero fill by an immediate amount. -/
  | srli (c : CoreId) (d a : RegNo) (n : Fin 32) (S : Bool)
  /-- `SRAI` (R59): Shifts wa right with sign fill by an immediate amount. -/
  | srai (c : CoreId) (d a : RegNo) (n : Fin 32) (S : Bool)
  /-- `ROR` (R59): Rotates wa right by the amount in wb. -/
  | ror (c : CoreId) (d a b : RegNo) (S : Bool)
  /-- `RORI` (R59): Rotates wa right by an immediate amount. -/
  | rori (c : CoreId) (d a : RegNo) (n : Fin 32) (S : Bool)
  /-- `CLZ` (R59): Counts the leading zeros of wa. -/
  | clz (c : CoreId) (d a : RegNo) (S : Bool)
  /-- `POPC` (R59): Counts the ones in wa. -/
  | popc (c : CoreId) (d a : RegNo) (S : Bool)
  /-- `REV` (R59): Reverses the byte order of wa. -/
  | rev (c : CoreId) (d a : RegNo) (S : Bool)
  /-- `MIN` (R59): Writes the smaller of wa and wb, signed. -/
  | min (c : CoreId) (d a b : RegNo) (S : Bool)
  /-- `MAX` (R59): Writes the larger of wa and wb, signed. -/
  | max (c : CoreId) (d a b : RegNo) (S : Bool)
  /-- `MINU` (R59): Writes the smaller of wa and wb, unsigned. -/
  | minu (c : CoreId) (d a b : RegNo) (S : Bool)
  /-- `MAXU` (R59): Writes the larger of wa and wb, unsigned. -/
  | maxu (c : CoreId) (d a b : RegNo) (S : Bool)
  /-- `ADDC` (R59): Adds wa, wb and the carry flag. -/
  | addc (c : CoreId) (d a b : RegNo) (S : Bool)
  /-- `SUBC` (R59): Subtracts wb from wa with borrow. -/
  | subc (c : CoreId) (d a b : RegNo) (S : Bool)
  /-- `ADDP` (R59): Adds two register pairs as 64-bit values. -/
  | addp (c : CoreId) (d a b : RegNo) (S : Bool)
  /-- `SUBP` (R59): Subtracts one register pair from another as 64-bit values. -/
  | subp (c : CoreId) (d a b : RegNo) (S : Bool)
  /-- `SLLP` (R59): Shifts a register pair left. -/
  | sllp (c : CoreId) (d a b : RegNo) (S : Bool)
  /-- `SRLP` (R59): Shifts a register pair right with zero fill. -/
  | srlp (c : CoreId) (d a b : RegNo) (S : Bool)
  /-- `SRAP` (R59): Shifts a register pair right with sign fill. -/
  | srap (c : CoreId) (d a b : RegNo) (S : Bool)
  /-- `MOVP` (R59): Copies a register pair. -/
  | movp (c : CoreId) (d a : RegNo) (S : Bool)
  /-- `CMPP` (R59): Sets the flags from the 64-bit difference of two pairs. -/
  | cmpp (c : CoreId) (a b : RegNo)
  /-- `MUL` (R62): Writes the low word of the product of wa and wb. -/
  | mul (c : CoreId) (d a b : RegNo) (S : Bool)
  /-- `MULH` (R62): Writes the high word of the signed product. -/
  | mulh (c : CoreId) (d a b : RegNo) (S : Bool)
  /-- `MULHU` (R62): Writes the high word of the unsigned product. -/
  | mulhu (c : CoreId) (d a b : RegNo) (S : Bool)
  /-- `MULW` (R62): Writes the signed 64-bit product to a pair. -/
  | mulw (c : CoreId) (d a b : RegNo) (S : Bool)
  /-- `MULWU` (R62): Writes the unsigned 64-bit product to a pair. -/
  | mulwu (c : CoreId) (d a b : RegNo) (S : Bool)
  /-- `MAC` (R62): Adds the signed product to a pair, wrapping. -/
  | mac (c : CoreId) (d a b : RegNo) (S : Bool)
  /-- `MACU` (R62): Adds the unsigned product to a pair, wrapping. -/
  | macu (c : CoreId) (d a b : RegNo) (S : Bool)
  /-- `DIV` (R63): Signed division truncated toward zero, with defined results for division by zero. -/
  | div (c : CoreId) (d a b : RegNo) (S : Bool)
  /-- `DIVU` (R63): Unsigned division, with defined results for division by zero. -/
  | divu (c : CoreId) (d a b : RegNo) (S : Bool)
  /-- `REM` (R63): Signed remainder, taking the sign of wa. -/
  | rem (c : CoreId) (d a b : RegNo) (S : Bool)
  /-- `REMU` (R63): Unsigned remainder. -/
  | remu (c : CoreId) (d a b : RegNo) (S : Bool)
  /-- `ADDI` (R60): Adds a sign-extended immediate to wa. -/
  | addi (c : CoreId) (d a : RegNo) (imm : BitVec 16)
  /-- `ANDI` (R60): ANDs wa with a zero-extended immediate. -/
  | andi (c : CoreId) (d a : RegNo) (imm : BitVec 16)
  /-- `ORI` (R60): ORs wa with a zero-extended immediate. -/
  | ori (c : CoreId) (d a : RegNo) (imm : BitVec 16)
  /-- `XORI` (R60): XORs wa with a zero-extended immediate. -/
  | xori (c : CoreId) (d a : RegNo) (imm : BitVec 16)
  /-- `SLTI` (R60): Writes 1 if wa is less than a signed immediate. -/
  | slti (c : CoreId) (d a : RegNo) (imm : BitVec 16)
  /-- `SLTIU` (R60): Writes 1 if wa is less than an unsigned immediate. -/
  | sltiu (c : CoreId) (d a : RegNo) (imm : BitVec 16)
  /-- `LHI` (R60): Loads an immediate into the high half of wd. -/
  | lhi (c : CoreId) (d : RegNo) (imm : BitVec 16)
  /-- `CMPI` (R60): Sets the flags from wa minus a signed immediate. -/
  | cmpi (c : CoreId) (a : RegNo) (imm : BitVec 16)
  /-- `LI` (R60): Loads a sign-extended 21-bit immediate. -/
  | li (c : CoreId) (d : RegNo) (imm : BitVec 21)
  /-- `ADDIS` (R60): Adds a signed immediate and sets the flags. -/
  | addis (c : CoreId) (d a : RegNo) (imm : BitVec 16)
  /-- `QADD` (R64): Saturating signed add. -/
  | qadd (c : CoreId) (d a b : RegNo) (S : Bool)
  /-- `QSUB` (R64): Saturating signed subtract. -/
  | qsub (c : CoreId) (d a b : RegNo) (S : Bool)
  /-- `QADDU` (R64): Saturating unsigned add. -/
  | qaddu (c : CoreId) (d a b : RegNo) (S : Bool)
  /-- `QSUBU` (R64): Saturating unsigned subtract with a floor of 0. -/
  | qsubu (c : CoreId) (d a b : RegNo) (S : Bool)
  /-- `QMULQ31` (R64): Rounded, saturating Q1.31 product. -/
  | qmulq31 (c : CoreId) (d a b : RegNo) (S : Bool)
  /-- `QMUL1616` (R64): Rounded, saturating Q16.16 product. -/
  | qmul1616 (c : CoreId) (d a b : RegNo) (S : Bool)
  /-- `QNEG` (R64): Saturating negate. -/
  | qneg (c : CoreId) (d a : RegNo) (S : Bool)
  /-- `QABS` (R64): Saturating absolute value. -/
  | qabs (c : CoreId) (d a : RegNo) (S : Bool)
  /-- `SATS` (R64): Clamps wa to an n-bit signed range. -/
  | sats (c : CoreId) (d a : RegNo) (n : Fin 32) (S : Bool)
  /-- `SATU` (R64): Clamps wa to an n-bit unsigned range. -/
  | satu (c : CoreId) (d a : RegNo) (n : Fin 32) (S : Bool)
  /-- `QSHL` (R64): Saturating left shift. -/
  | qshl (c : CoreId) (d a : RegNo) (n : Fin 32) (S : Bool)
  /-- `RSHR` (R64): Rounding arithmetic right shift. -/
  | rshr (c : CoreId) (d a : RegNo) (n : Fin 32) (S : Bool)
  /-- `QMAC` (R64): Saturating 64-bit multiply-accumulate into a pair. -/
  | qmac (c : CoreId) (d a b : RegNo) (S : Bool)
  /-- `QNARROW` (R64): Rounds, shifts and saturates a pair to a word. -/
  | qnarrow (c : CoreId) (d a : RegNo) (n : Fin 32) (S : Bool)
  /-- `PADD16` (R64): Saturating add of each 16-bit lane. -/
  | padd16 (c : CoreId) (d a b : RegNo) (S : Bool)
  /-- `PSUB16` (R64): Saturating subtract of each 16-bit lane. -/
  | psub16 (c : CoreId) (d a b : RegNo) (S : Bool)
  /-- `PMULQ15` (R64): Rounded, saturating Q15 product of each 16-bit lane. -/
  | pmulq15 (c : CoreId) (d a b : RegNo) (S : Bool)
  /-- `LW` (R66): Loads a 32-bit word. -/
  | lw (c : CoreId) (d a : RegNo) (imm : BitVec 16)
  /-- `LD` (R66): Loads a 64-bit doubleword into a pair. -/
  | ld (c : CoreId) (d a : RegNo) (imm : BitVec 16)
  /-- `SW` (R66): Stores a 32-bit word. -/
  | sw (c : CoreId) (d a : RegNo) (imm : BitVec 16)
  /-- `SD` (R66): Stores a 64-bit pair. -/
  | sd (c : CoreId) (d a : RegNo) (imm : BitVec 16)
  /-- `LB` (R66): Loads a byte and sign-extends it. -/
  | lb (c : CoreId) (d a : RegNo) (imm : BitVec 12)
  /-- `LBU` (R66): Loads a byte and zero-extends it. -/
  | lbu (c : CoreId) (d a : RegNo) (imm : BitVec 12)
  /-- `LH` (R66): Loads a halfword and sign-extends it. -/
  | lh (c : CoreId) (d a : RegNo) (imm : BitVec 12)
  /-- `LHU` (R66): Loads a halfword and zero-extends it. -/
  | lhu (c : CoreId) (d a : RegNo) (imm : BitVec 12)
  /-- `SB` (R66): Stores a byte. -/
  | sb (c : CoreId) (d a : RegNo) (imm : BitVec 12)
  /-- `SH` (R66): Stores a halfword. -/
  | sh (c : CoreId) (d a : RegNo) (imm : BitVec 12)
  /-- `LWX` (R67): Indexed 32-bit load. -/
  | lwx (c : CoreId) (d a b : RegNo) (scaled : Bool)
  /-- `LDX` (R67): Indexed 64-bit load. -/
  | ldx (c : CoreId) (d a b : RegNo) (scaled : Bool)
  /-- `SWX` (R67): Indexed 32-bit store. -/
  | swx (c : CoreId) (d a b : RegNo) (scaled : Bool)
  /-- `SDX` (R67): Indexed 64-bit store. -/
  | sdx (c : CoreId) (d a b : RegNo) (scaled : Bool)
  /-- `LBX` (R67): Indexed byte load with sign extension. -/
  | lbx (c : CoreId) (d a b : RegNo) (scaled : Bool)
  /-- `LBUX` (R67): Indexed byte load with zero extension. -/
  | lbux (c : CoreId) (d a b : RegNo) (scaled : Bool)
  /-- `LHX` (R67): Indexed halfword load with sign extension. -/
  | lhx (c : CoreId) (d a b : RegNo) (scaled : Bool)
  /-- `LHUX` (R67): Indexed halfword load with zero extension. -/
  | lhux (c : CoreId) (d a b : RegNo) (scaled : Bool)
  /-- `SBX` (R67): Indexed byte store. -/
  | sbx (c : CoreId) (d a b : RegNo) (scaled : Bool)
  /-- `SHX` (R67): Indexed halfword store. -/
  | shx (c : CoreId) (d a b : RegNo) (scaled : Bool)
  /-- `LOAD_RETURN` (R44): A load that issued without waiting returns its data, and any instruction stalled on its destination
  proceeds. -/
  | loadReturn (c : CoreId) (n : Nat)
  /-- `AMOSWAP` (R71): Atomically swaps a Basin doubleword. -/
  | amoswap (c : CoreId) (d a b : RegNo)
  /-- `AMOADD` (R71): Atomically adds to a Basin doubleword. -/
  | amoadd (c : CoreId) (d a b : RegNo)
  /-- `AMOAND` (R71): Atomically ANDs into a Basin doubleword. -/
  | amoand (c : CoreId) (d a b : RegNo)
  /-- `AMOOR` (R71): Atomically ORs into a Basin doubleword. -/
  | amoor (c : CoreId) (d a b : RegNo)
  /-- `AMOCAS` (R71): Atomic compare-and-swap of a Basin doubleword. -/
  | amocas (c : CoreId) (d a b : RegNo)
  /-- `BC` (R75): Branches if a condition holds on the flags. -/
  | bc (c : CoreId) (cond : BitVec 5) (off : BitVec 16)
  /-- `BR` (R77): Branches on a signed test of a register. -/
  | br (c : CoreId) (cond : BitVec 5) (a : RegNo) (off : BitVec 16)
  /-- `J` (R75): Jumps to an absolute target. -/
  | j (c : CoreId) (t : BitVec 26)
  /-- `JAL` (R75): Jumps and writes the link address to w1. -/
  | jal (c : CoreId) (t : BitVec 26)
  /-- `JR` (R75): Jumps to the address in a register. -/
  | jr (c : CoreId) (a : RegNo)
  /-- `JALR` (R75): Jumps to a register address and writes the link address. -/
  | jalr (c : CoreId) (d a : RegNo)
  /-- `MFC` (R79): Reads a control register, subject to task-mode access rules. -/
  | mfc (c : CoreId) (d : RegNo) (n : BitVec 6)
  /-- `MTC` (R79): Writes a control register, subject to task-mode access rules. -/
  | mtc (c : CoreId) (a : RegNo) (n : BitVec 6)
  /-- `ERET` (R80): Returns from an exception, restoring st, the mode and pc. -/
  | eret (c : CoreId)
  /-- `TRAP` (R79): Raises TRAP with the given code. -/
  | trap (c : CoreId) (code : BitVec 10)
  /-- `BREAK` (R81): Raises BREAK, or stops the core for an attached debugger. -/
  | brk (c : CoreId)
  /-- `BUDGET_EXHAUSTED` (R54): The instruction budget reaches 0 while enabled, and the core raises BUDGET instead of issuing. -/
  | budgetExhausted (c : CoreId)
  /-- `LMIX` (R120): Converts a colour through a lamp record with full conversion, including derating. -/
  | lmix (c : CoreId) (d a b : RegNo)
  /-- `LMIXN` (R120): Converts a colour through a lamp record without thermal derating. -/
  | lmixn (c : CoreId) (d a b : RegNo)
  /-- `LTEMP` (R170): Reports a measured temperature and updates the record's thermal state. -/
  | ltemp (c : CoreId) (a b : RegNo)
  /-- `LAMP_INSTR_RETURN` (R121): The lamp engine returns the result of an LMIX or LMIXN, and cx.lstat takes its flags. -/
  | lampInstrReturn (c : CoreId) (n : Nat)
  /-- `LSUB` (R124): Submits a lamp batch descriptor and returns whether it was accepted. -/
  | lsub (c : CoreId) (d a : RegNo)
  /-- `PUSH` (R108): Writes an item into a rill, or appends a body word to an open packet. -/
  | push (c : CoreId) (n : RillNo) (a : RegNo)
  /-- `POP` (R107): Returns the item at the read position and advances the read position. -/
  | pop (c : CoreId) (d : RegNo) (n : RillNo)
  /-- `PEEK` (R107): Returns the item at the read position without advancing it. -/
  | peek (c : CoreId) (d : RegNo) (n : RillNo)
  /-- `TAKE_RILL` (R107): Pops an item from a rill, waiting while the rill is empty. -/
  | takeRill (c : CoreId) (d : RegNo) (n : RillNo)
  /-- `OPENP` (R109): Opens a packet on a rill by reserving its length slot, or opens it broken. -/
  | openp (c : CoreId) (n : RillNo)
  /-- `CLOSEP` (R111): Commits the open packet, making it visible in one step, or discards a broken one. -/
  | closep (c : CoreId) (n : RillNo) (a : RegNo)
  /-- `CANCELP` (R113): Discards the open packet. -/
  | cancelp (c : CoreId) (n : RillNo)
  /-- `MARK` (R107): Sets the rill's mark to the read position. -/
  | mark (c : CoreId) (n : RillNo)
  /-- `REWIND` (R107): Returns the read position to a valid mark. -/
  | rewind (c : CoreId) (n : RillNo)
  /-- `RELEASE` (R107): Frees the slots from the release position to the read position. -/
  | release (c : CoreId) (n : RillNo)
  /-- `TAKE_DISPATCH` (R98): An idle core asks Weir for a work item of its group and waits. -/
  | takeDispatch (c : CoreId)
  /-- `DONE` (R100): Ends the running item, cancels any open packet, reports completion to Weir and returns to its TAKE. -/
  | done (c : CoreId)
  /-- `SPAWN` (R101): Reads a descriptor and submits it to Weir, returning a status. -/
  | spawn (c : CoreId) (d a : RegNo)
  /-- `TNOW` (R115): Returns the time base. -/
  | tnow (c : CoreId) (d : RegNo)
  /-- `TWAIT` (R116): Waits until the time base reaches an instant, or returns at once with the lateness. -/
  | twait (c : CoreId) (d a : RegNo)
  /-- `TWAITD` (R116): Waits for a delay from now. -/
  | twaitd (c : CoreId) (d a : RegNo)
  /-- `TWAIT_RELEASE` (R116): The time base reaches a waiting core's instant, and its TWAIT returns with the lateness. -/
  | twaitRelease (c : CoreId)
  /-- `FENCE` (R117): Waits for all earlier accesses, raises pending store faults and makes instruction stores visible to fetch.
  -/
  | fence (c : CoreId)
  /-- `GCALL` (R126): Calls a Gauntlet service and waits for its status. -/
  | gcall (c : CoreId) (d a : RegNo) (service : BitVec 10)
  /-- `GPOST` (R127): Posts a Gauntlet call whose completion arrives through a rill. -/
  | gpost (c : CoreId) (d a : RegNo) (n : RillNo) (service : BitVec 10)
  /-- `GPOST_COMPLETION` (R127): The Gauntlet writes the status of a posted call and pushes its item once the rill has room. -/
  | gpostCompletion (n : Fin 16)
  /-- `WEIR_DISPATCH` (R138): Weir gives the chosen ready item of a group to its longest-waiting core. -/
  | weirDispatch
  /-- `WEIR_FLUSH` (R144): Removes every ready item of the flagged groups while Weir is stopped. -/
  | weirFlush (groups : BitVec 4)
  /-- `RILL_ENABLE` (R149): Enabling a rill resets its positions and mark and arms its brim mark. -/
  | rillEnable (n : RillNo)
  /-- `RILL_DISABLE` (R149): Disabling a rill discards its contents, breaks its open packets and fails waiting TAKEs. -/
  | rillDisable (n : RillNo)
  /-- `FEED_RILL_SUBMIT` (R155): The rill controller turns the next item of a feed rill into a descriptor for Weir once Weir has
  room. -/
  | feedRillSubmit
  /-- `CONVERT` (R174): A CONVERT batch converts its entries' colours to drive values. -/
  | convert (n : Nat)
  /-- `FADE` (R182): A FADE batch builds a step list for each entry from two colours. -/
  | fade (n : Nat)
  /-- `STEPS` (R181): A STEPS batch converts a step list of colours into drive values. -/
  | steps (n : Nat)
  /-- `LAMP_LOAD` (R165): A LOAD batch checks and stores lamp records. -/
  | lampLoad (n : Nat)
  /-- `LAMP_READ` (R177): A READ batch writes records and their thermal state to memory. -/
  | lampRead (n : Nat)
  /-- `BATCH_COMPLETION` (R176): The engine writes a batch's RESULT and pushes its completion item once the rill has room. -/
  | batchCompletion
  /-- `LAMP_CURVE_DATA` (R166): A curve entry is written or read through the window, and the index advances. -/
  | lampCurveData (write : Bool) (v : BitVec 17)
  /-- `TABLE_IMAGE_LOAD` (R195): CORR's table image load ends in success, which sets RUN, or in failure. -/
  | tableImageLoad
  /-- `CORR_TICK` (R206): At each 10 ms tick CORR fires schedule entries, lets held nodes fall and closes fault windows. -/
  | corrTick
  /-- `SOLAR_UPDATE` (R201): On each UTC second that is a multiple of PERIOD, the solar engine updates every site. -/
  | solarUpdate
  /-- `SOLAR_QUERY` (R204): A write of QT_HI starts a solar query, or is ignored while one runs. -/
  | solarQuery (v : Word)
  /-- `SOLAR_QUERY_DONE` (R204): A solar query completes, and its result is readable. -/
  | solarQueryDone
  /-- `PRESENCE_EVENT` (R211): CORR consumes a presence event and walks the road graph, raising the nodes ahead. -/
  | presenceEvent
  /-- `FAULT_REPORT` (R216): CORR consumes a fault report and coalesces it into the fault table. -/
  | faultReport
  /-- `CORR_RESULT_PUSH` (R214): CORR pushes a held result packet or item once its output rill has room. -/
  | corrResultPush
  /-- `CORR_FLT_FLUSH` (R220): Marks every open fault entry to close at the next tick. -/
  | corrFltFlush
  /-- `WALK_START` (R238): At T − L, PMAP takes the newest frames and begins walking the point list. -/
  | walkStart
  /-- `SEND_RING_SPACE` (R247): ETHB frees enough send ring space, and a walk waiting for it continues. -/
  | sendRingSpace
  /-- `WALK_DONE` (R227): PMAP reports the walk done once mapping, port buffers and the last sACN packet have finished. -/
  | walkDone
  /-- `COMMIT_INSTANT` (R227): At a commit instant FLK swaps buffers, starts the ports and releases the synchronization packet, or
  applies the late rule. -/
  | commitInstant
  /-- `SOURCE_REQUEST` (R230): A write of FLK_SRC.REQ requests a frame-lock source, or is refused for code 3. -/
  | sourceRequest (n : BitVec 2)
  /-- `SOURCE_SWITCH` (R230): FLK switches to a requested source once it is locked, choosing its first instant. -/
  | sourceSwitch
  /-- `GENLOCK_EDGE` (R231): An edge on GENLOCK_IN is stamped and accepted or rejected against the period. -/
  | genlockEdge
  /-- `SOURCE_MISS` (R231): No accepted edge arrives near its prediction, and FLK counts a miss and holds over. -/
  | sourceMiss (ltc : Bool)
  /-- `LTC_FRAME` (R258): A decoded LTC frame gives a count, and FLK fires the cues it reaches. -/
  | ltcFrame (hh mm ss ff : BitVec 6) (reverse : Bool)
  /-- `LTC_UNLOCK` (R256): Four nominal frame times without a valid frame unlock the LTC decoder. -/
  | ltcUnlock
  /-- `VIDEO_PACKET` (R235): PMAP takes an ST 2110-20 packet into its stream's frame buffer, or drops it. -/
  | videoPacket (n : Fin 2) (rtp : List Byte) (full : Bool)
  /-- `UNIVERSE_DISCOVERY` (R249): Every 10 s PMAP sends sACN universe discovery pages. -/
  | universeDiscovery
  /-- `PORT_FRAME_END` (R254): A pixel port finishes sending a frame. -/
  | portFrameEnd (p : Fin 16)
  /-- `RDM_REQUEST` (R255): A write of PXPp_RDM_CTL with GO queues an RDM request, or is ignored while one is busy. -/
  | rdmRequest (p : Fin 16) (v : Word)
  /-- `RDM_START` (R255): After a DMX frame ends with enough time to spare, PXP sends the queued RDM request. -/
  | rdmStart (p : Fin 16)
  /-- `RDM_RESPONSE_END` (R255): A captured response ends or times out, and PXP pushes the result item. -/
  | rdmResponseEnd (p : Fin 16) (kind : BitVec 2) (bytes : List Byte)
  /-- `RADIO_SLOT` (R271): At each ASN, RAD chooses a cell per radio and transmits, receives or idles. -/
  | radioSlot (late : BitVec 3)
  /-- `TX_REQUEST` (R275): RAD consumes a transmit descriptor and queues its frame. -/
  | txRequest
  /-- `FRAME_EXPIRE` (R277): A queued frame's EXPIRE passes, and it completes with status 2. -/
  | frameExpire (desc : Word)
  /-- `SLEEPY_MAXAGE` (R290): A frame for a sleepy neighbour exceeds MAXAGE and completes with status 2. -/
  | sleepyMaxage (desc : Word)
  /-- `RADIO_FRAME_RECEIVE` (R280): RAD checks, decrypts, acknowledges and delivers a received frame. -/
  | radioFrameReceive (r : Fin 3) (psdu : List Byte) (fcsGood : Bool) (sof : BitVec 64) (rssi : BitVec 16) (lqi : BitVec 8)
  /-- `RXFREE_BUFFER` (R278): RAD consumes a buffer index lent by firmware. -/
  | rxfreeBuffer
  /-- `SCHEDULE_BANK_REQUEST` (R270): A write of RAD_SCHED_BANK.NEXT starts loading a schedule bank. -/
  | scheduleBankRequest (next : Bool)
  /-- `SCHEDULE_BANK_LOADED` (R270): The schedule bank load ends, and a switch is pending or the load fails. -/
  | scheduleBankLoaded
  /-- `KEY_BLOCK_ARM` (R281): A write of NEXT_CEIL arms the next counter block, or is refused. -/
  | keyBlockArm (k : Fin 8) (v : Word)
  /-- `NEWKEY` (R283): Frees the counter slots of a key entry, zeroes its counters and flushes its queued frames. -/
  | newkey (v : Word)
  /-- `NBR_READ` (R284): Reads a neighbour entry into the window. -/
  | nbrRead
  /-- `NBR_WRITE_CONFIG` (R284): Writes a neighbour entry's configuration fields. -/
  | nbrWriteConfig
  /-- `NBR_WRITE_ALL` (R284): Writes the whole of a neighbour entry. -/
  | nbrWriteAll
  /-- `NBR_CLEAR` (R284): Clears a neighbour entry and completes its queued frames with status 5. -/
  | nbrClear
  /-- `NEIGHBOUR_ADRIFT` (R287): Nothing is accepted from a neighbour for 3 × KA, and RAD marks it adrift. -/
  | neighbourAdrift (n : Fin 512)
  /-- `SCAN_DWELL` (R288): A rescan's dwell on a channel ends, and RAD moves to the next channel. -/
  | scanDwell
  /-- `PARENT_ADOPT` (R288): A write of RAD_SYNC.PARENT adopts that neighbour as time parent. -/
  | parentAdopt (n : BitVec 10)
  /-- `RECAL_REQUEST` (R292): A write of RAD_CAL.GO requests radio recalibration under the interlock. -/
  | recalRequest (radio : BitVec 2)
  /-- `RECAL_END` (R292): A granted recalibration ends, and RAD posts event 10. -/
  | recalEnd
  /-- `ETH_FRAME_RECEIVE` (R301): A received Ethernet frame is filtered, steered, delivered, dropped or forwarded. -/
  | ethFrameReceive (x : Fin 2) (f : List Byte) (fcsGood full : Bool)
  /-- `PAUSE_END` (R299): A received pause expires, and the port may start frames again. -/
  | pauseEnd (x : Fin 2)
  /-- `ETH_SINGLE_FRAME` (R306): A kind 0 transmit descriptor sends one frame. -/
  | ethSingleFrame (x : Fin 2) (q : Fin 5)
  /-- `TCP_SEGMENTATION` (R307): A kind 1 descriptor sends its body as TCP segments. -/
  | tcpSegmentation (x : Fin 2) (q : Fin 4) (n : Nat)
  /-- `UDP_SEGMENTATION` (R308): A kind 2 descriptor sends its body as patched UDP datagrams. -/
  | udpSegmentation (x : Fin 2) (q : Fin 5) (n : Nat)
  /-- `ETH_TX_COMPLETE` (R309): A descriptor's last frame leaves, and the MAC writes RESULT and pushes a completion item. -/
  | ethTxComplete (x : Fin 2) (q : Fin 5)
  /-- `LINK_CHANGE` (R297): An Ethernet link goes up or down. -/
  | linkChange (x : Fin 2) (up : Bool) (speed : BitVec 2)
  /-- `MDIO_OPERATION` (R300): A write of ETHA_MDIO_CMD with GO starts an MDIO operation. -/
  | mdioOperation (v : Word)
  /-- `MDIO_DONE` (R300): An MDIO operation ends, and its data is readable. -/
  | mdioDone (data : BitVec 16)
  /-- `BRIDGE_AGE` (R313): A learned bridge entry ages out after AGE seconds. -/
  | bridgeAge
  /-- `TIME_SET` (R318): The SET command steps the time base to a new value and sets TSU_STAT.SET. -/
  | timeSet
  /-- `TIME_STEP` (R318): The STEP command steps the time base and passes the step to the blocks that hold instants. -/
  | timeStep
  /-- `TRACKER_ACQUIRE` (R322): TSU_CMD 3 puts the selected tracker in ACQUIRE. -/
  | trackerAcquire
  /-- `MEASUREMENT_SUBMIT` (R321): A write of MO_HI submits a tracker measurement, which updates the estimates and steers. -/
  | measurementSubmit (k : Fin 3) (hi : Word)
  /-- `PPS_IN_EDGE` (R320): An accepted PPS_IN edge gives tracker 2 a measurement. -/
  | ppsInEdge
  /-- `PPS_MISS` (R326): A second passes without a PPS_IN edge and counts in TSU_PPS_MISS. -/
  | ppsMiss
  /-- `PPS_OUT_EDGE` (R326): PPS_OUT rises at each second of the time base minus its offset. -/
  | ppsOutEdge
  /-- `TRACKER_TIMEOUT` (R322): A tracker receives no measurement for TIMEOUT and enters HOLDOVER. -/
  | trackerTimeout (k : Fin 3)
  /-- `SOURCE_SELECT` (R323): A write of TSU_SRC.SEL selects a source, starting acquisition or a seamless switch. -/
  | sourceSelect (sel : BitVec 2)
  /-- `CAN_TX_REQUEST` (R336): Writing 1 to a CAN_TX_REQ bit hands the entry to CAN, which checks it. -/
  | canTxRequest (v : Word)
  /-- `CAN_INTERMISSION` (R338): During intermission CAN chooses the pending entry that wins arbitration. -/
  | canIntermission (start other : Bool)
  /-- `CAN_TX_COMPLETE` (R337): A transmit entry completes, and CAN writes its status and pushes a completion item. -/
  | canTxComplete (lost : Bool)
  /-- `CAN_TX_CANCEL` (R339): Requests cancellation of a transmit entry. -/
  | canTxCancel (v : Word)
  /-- `ABORTALL` (R339): Cancels every pending transmit entry. -/
  | abortall
  /-- `RECOVER` (R343): Starts bus-off recovery. -/
  | recover
  /-- `RECOVERY_END` (R343): Bus-off recovery completes after 128 idle sequences, and CAN is error-active again. -/
  | recoveryEnd
  /-- `CAN_FRAME_RECEIVE` (R341): A valid received frame is filtered and written into a free receive entry. -/
  | canFrameReceive (id : BitVec 29) (xtd rtr : Bool) (dlc : BitVec 4) (fdf brs esi res : Bool) (data : List Byte) (sof : BitVec 64)
  /-- `CAN_ERROR` (R343): A detected bus error updates the error counters and the confinement state. -/
  | canError (tx : Bool) (code : BitVec 3) (data : Bool) (weight : BitVec 2)
  /-- `CAN_RX_RETURN` (R342): Firmware returns receive entries by writing 1 to their bits. -/
  | canRxReturn (hi : Bool) (v : Word)
  /-- `MET_SAMPLE` (R357): Each 125 µs sample is calibrated, and MET forms powers and accumulates energy. -/
  | metSample (raw : Vector (BitVec 24) 8) (lost : Bool)
  /-- `SETTLING_END` (R351): The 20 ms settling time after the modulators start ends. -/
  | settlingEnd
  /-- `MODULATOR_FAULT` (R353): A channel's ones density stays extreme for 1 ms, and it enters modulator fault. -/
  | modulatorFault (c : Fin 8)
  /-- `MODULATOR_RECOVER` (R353): After 10 ms of normal density a faulted channel recovers. -/
  | modulatorRecover (c : Fin 8)
  /-- `DEMAND_INTERVAL_END` (R363): A demand interval ends, and MET queues its record. -/
  | demandIntervalEnd
  /-- `DEMAND_RECORD_PUSH` (R363): A waiting demand record is pushed once the rill has room. -/
  | demandRecordPush
  /-- `SNAP` (R358): Captures all energy registers into the snapshot bank at the end of the next sample. -/
  | snap
  /-- `PRESET` (R359): Loads an energy register with a preset value while MET is stopped. -/
  | preset
  /-- `SUPPLY_CUT_THEFT` (R366): The supply-cut condition holds for HOLD seconds, and SUPPLYCUT sets. -/
  | supplyCutTheft
  /-- `RESIDUAL_THEFT` (R367): The residual condition holds for HOLD seconds, and RESIDUAL sets. -/
  | residualTheft
  /-- `MET_RESTORE` (R371): At D1 power-up MET restores its newest valid image from the commit store, or reports a failure. -/
  | metRestore
  /-- `EVENT_QUEUE_DRAIN` (R372): A block's queued event is pushed once its rill is usable and has room. -/
  | eventQueueDrain (n : BitVec 5)
  /-- `OWN_B_EDGE` (R376): An edge arrives on OWN_B, showing the partner as owning. -/
  | ownBEdge (periods : BitVec 16) (samePos : Bool)
  /-- `OWNERSHIP_LOSS` (R376): LOSS ms pass without an OWN_B edge, and the partner's ownership is declared lost. -/
  | ownershipLoss
  /-- `OXB_KICK` (R377): Any write restarts the Oxbow watchdog. -/
  | oxbKick
  /-- `OXB_WATCHDOG_EXPIRE` (R377): The Oxbow watchdog expires, and an owner yields. -/
  | oxbWatchdogExpire
  /-- `WAIT_END` (R379): START ms in WAIT end, and the module goes to STANDBY or may claim. -/
  | waitEnd
  /-- `GUARD_END` (R380): A claim ends its guard without an edge, and the module becomes OWNER, arming blocks and opening gates.
  -/
  | guardEnd (linkDown : Bool)
  /-- `CLAIM_RETRY` (R380): After a claim clash the random retry delay ends. -/
  | claimRetry
  /-- `HEALTH_SEND` (R384): Every 100 ms the module sends a HEALTH report. -/
  | healthSend
  /-- `HEALTH_FRAME` (R384): A received HEALTH report updates the peer registers and the high-water marks. -/
  | healthFrame (p : List Byte)
  /-- `YIELD_FRAME` (R380): A received YIELD frame lets the standby claim once OWN_B is quiet. -/
  | yieldFrame
  /-- `RESERVE_FRAME` (R392): The partner raises its mark durably and answers RES_ACK. -/
  | reserveFrame (k : Fin 8) (mark : Word)
  /-- `RES_ACK_FRAME` (R392): A RES_ACK completes a reservation, and the block is armed in RAD. -/
  | resAckFrame (k : Fin 8) (mark : Word)
  /-- `SYNC_FRAME` (R385): A SYNC exchange raises the marks and clears PEERLOST, STALE and SOLO.USED. -/
  | syncFrame (marks : Vector Word 8)
  /-- `APP_FRAME` (R395): A received APP frame is written into a free buffer and an item is pushed. -/
  | appFrame (p : List Byte)
  /-- `CLEAR_FRAME` (R394): The partner sets its mark to 0 durably and answers CLR_ACK. -/
  | clearFrame (k : Fin 8)
  /-- `CLR_ACK_FRAME` (R394): A CLR_ACK completes a CLEAR command with status 0. -/
  | clrAckFrame (k : Fin 8)
  /-- `LINK_FRAME_ERROR` (R382): A missing acknowledge or bad CRC ends a link frame and resynchronises the link. -/
  | linkFrameError (tx app : Bool)
  /-- `LINK_LOST` (R385): 300 ms without a valid frame mark the partner lost. -/
  | linkLost
  /-- `YIELD_CMD` (R386): OXB_CMD.YIELD makes an owner yield. -/
  | yieldCmd
  /-- `YIELD_CONDITION` (R386): An enabled condition persists for its hold, and the owner yields or counts a held yield. -/
  | yieldCondition (b : Fin 8)
  /-- `REVERT_READY` (R389): A revert hold of SECONDS passes, and REVERTREADY sets. -/
  | revertReady
  /-- `SAFEPOINT` (R389): A revert-ready secondary yields at a safe point. -/
  | safepoint
  /-- `RESERVE_CMD` (R392): Requests a counter block for a key entry. -/
  | reserveCmd (k : Fin 8)
  /-- `RESERVE_TIMEOUT` (R392): No RES_ACK arrives within 20 ms, and the reservation ends NOLINK. -/
  | reserveTimeout
  /-- `CLEAR_CMD` (R394): Sets a key entry's mark to 0 and sends CLEAR to the partner. -/
  | clearCmd (k : Fin 8)
  /-- `CLEAR_TIMEOUT` (R394): No CLR_ACK arrives within 20 ms, and the CLEAR ends NOLINK. -/
  | clearTimeout
  /-- `SETMIN` (R394): Raises a mark to OXB_RES_BASE and clears HWMLOST once all eight are set. -/
  | setmin (k : Fin 8)
  /-- `APP_SEND` (R395): OXB_TX_CTL.GO starts sending an APP frame. -/
  | appSend (v : Word)
  /-- `APP_SENT` (R395): An APP frame has been sent, and BUSY clears. -/
  | appSent
  /-- `OXB_RX_RETURN` (R395): Firmware returns APP receive buffers. -/
  | oxbRxReturn (v : Word)
  /-- `STANDBY_SELF_TEST_REQUEST` (R390): OXB_ST.GO or the period timer requests a standby self-test. -/
  | standbySelfTestRequest (go : Bool)
  /-- `STANDBY_SELF_TEST_END` (R390): A standby self-test ends, records its failure mask and releases its grant. -/
  | standbySelfTestEnd (fail : BitVec 5)
  /-- `UPD_VERIFY` (R409): Starts a background check of a slot. -/
  | updVerify (slot : Fin 2)
  /-- `UPD_VERIFY_DONE` (R409): A slot verification ends, and UPD_VSTAT takes the result. -/
  | updVerifyDone
  /-- `ARM` (R409): Makes a verified slot the trial slot for the next reset. -/
  | arm (slot : Fin 2)
  /-- `CANCEL` (R409): Clears an armed trial that has not yet booted. -/
  | cancel
  /-- `CONFIRM` (R407): Confirms the running trial slot and raises the security floor. -/
  | confirm
  /-- `REJECT` (R406): Fails the trial at once and requests an update reset. -/
  | reject
  /-- `UPD_RECOVER` (R409): Makes the next reset enter ROM recovery. -/
  | updRecover
  /-- `UPD_RESET` (R409): Requests an update reset after the other commands of the write. -/
  | updReset
  /-- `TRIAL_WINDOW_EXPIRE` (R408): The trial window ends without a confirmation, and an update reset follows. -/
  | trialWindowExpire
  /-- `BOOT_SLOT_CHOICE` (R405): Once COMMIT_BUSY reads 0, the ROM chooses and verifies the slot to boot, or enters recovery. -/
  | bootSlotChoice
  /-- `COMPAT_CHECK` (R413): UPD_CC_CTL.GO checks two compatibility vectors against each other. -/
  | compatCheck
  /-- `NOR_ERASE_PROGRAM` (R410): STO erases or programs NOR under the interlock, refusing protected slots. -/
  | norEraseProgram (erase : Bool) (off len : BitVec 27) (data : List Byte)
  /-- `HELLO` (R416): In recovery the ROM sends HELLO once a second until BEGIN. -/
  | hello
  /-- `BEGIN` (R417): The ROM chooses and erases a slot for the recovery image. -/
  | updBegin (eth : Bool) (seq : BitVec 8) (len : Word) (fails : Bool)
  /-- `DATA` (R417): The ROM programs a DATA frame's bytes into the slot and answers STATUS. -/
  | updData (eth : Bool) (seq : BitVec 8) (off : Word) (bytes : List Byte) (fails : Bool)
  /-- `END` (R417): The ROM checks the recovered slot and arms it as trial, or answers invalid. -/
  | updEnd (eth : Bool) (seq : BitVec 8)
  /-- `RANDOM` (R428): Writes random bytes from the DRBG. -/
  | random (n : Fin 16)
  /-- `HASH` (R428): Computes a SHA-256 digest. -/
  | hash (n : Fin 16)
  /-- `GNT_VERIFY` (R428): Verifies an ECDSA signature over a digest. -/
  | gntVerify (n : Fin 16)
  /-- `ENCRYPT` (R429): Encrypts or authenticates under an encrypt-only slot. -/
  | encrypt (n : Fin 16)
  /-- `DECRYPT` (R429): Decrypts or checks under a decrypt-only slot. -/
  | decrypt (n : Fin 16)
  /-- `KEY_GEN` (R428): Fills a slot with a key drawn from the DRBG. -/
  | keyGen (n : Fin 16)
  /-- `KEY_LOAD` (R428): Fills a slot with key bytes from memory. -/
  | keyLoad (n : Fin 16)
  /-- `WRAP` (R428): Exports an exportable key as a wrapped blob. -/
  | wrap (n : Fin 16)
  /-- `UNWRAP` (R428): Fills a slot from a wrapped blob. -/
  | unwrap (n : Fin 16)
  /-- `DERIVE` (R428): Fills a slot with an HKDF output. -/
  | derive (n : Fin 16)
  /-- `ECDH` (R428): Fills a slot from an ECDH shared secret. -/
  | ecdh (n : Fin 16)
  /-- `PUBKEY` (R428): Returns the public key of a type 4 slot. -/
  | pubkey (n : Fin 16)
  /-- `DESTROY` (R428): Empties a slot. -/
  | destroy (n : Fin 16)
  /-- `CRED_LOAD` (R442): Opens a sealed credential into the credential table. -/
  | credLoad (n : Fin 16)
  /-- `CRED_SEAL` (R442): Seals a credential under slot 0. -/
  | credSeal (n : Fin 16)
  /-- `SESS_CHALLENGE` (R443): Starts a session and writes a signed challenge. -/
  | sessChallenge (n : Fin 16)
  /-- `SESS_OPEN` (R444): Checks the host's proof and fills the session's key slots. -/
  | sessOpen (n : Fin 16)
  /-- `SESS_CLOSE` (R446): Closes a session and destroys its slots. -/
  | sessClose (n : Fin 16)
  /-- `SESSION_CHALLENGE_EXPIRE` (R445): A waiting session gets no response within 30 s and is freed. -/
  | sessionChallengeExpire (n : Fin 8)
  /-- `SESSION_TIMEOUT` (R446): An idle session closes after GNT_SESS_TIMEOUT. -/
  | sessionTimeout (n : Fin 8)
  /-- `CREDENTIAL_UNLOCK` (R445): A credential locked after five failures unlocks after 60 s. -/
  | credentialUnlock (n : Fin 16)
  /-- `LC_ADVANCE` (R438): Advances the life-cycle state, destroying keys, burning fuses and requesting a full reset. -/
  | lcAdvance (n : Fin 16)
  /-- `LC_UNLOCK` (R441): A JTAG unlock response opens debug or counts a failure. -/
  | lcUnlock (resp : List Byte)
  /-- `DEBUGON` (R440): Opens debug in PROVISION from system mode. -/
  | debugon (c : CoreId)
  /-- `DRBG_HEALTH_FAIL` (R433): A noise source health test fails, and the random services answer BUSY. -/
  | drbgHealthFail
  /-- `WRITEBACK` (R452): MEM writes back a corrected code word if it is unchanged. -/
  | writeback
  /-- `MEM_INIT` (R459): MEM_INIT_CTL.GO clears the valid bits of a range, or is refused. -/
  | memInit (v : Word)
  /-- `MEM_INIT_DONE` (R459): An initialisation ends, and INITBUSY clears. -/
  | memInitDone
  /-- `REMAP_INSTALL` (R460): Setting EN copies a line into a spare and redirects it. -/
  | remapInstall (dram : Bool) (e : Fin 16) (line : BitVec 25)
  /-- `REMAP_REMOVE` (R460): Clearing EN copies the spare back and ends the redirection. -/
  | remapRemove (dram : Bool) (e : Fin 16) (line : BitVec 25)
  /-- `SCRUB_READ` (R462): The scrubber reads a valid code word and corrects or reports its errors. -/
  | scrubRead (m : Fin 3)
  /-- `MAINT_REQUEST` (R465): A request for an intrusive activity is granted, queued or refused. -/
  | maintRequest (v : Word)
  /-- `GRANT_RELEASE` (R466): The holder releases its grant, and MEM grants the lowest-numbered waiting request. -/
  | grantRelease (req : Option Word) (cal : Option (BitVec 2)) (standby : Bool)
  /-- `RETRAINING_END` (R468): DRAM retraining ends and posts event 4. -/
  | retrainingEnd
  /-- `MEM_SELF_TEST_END` (R469): A memory self-test ends, reports its failing lines and releases its grant. -/
  | memSelfTestEnd (lines : List (BitVec 25))
  /-- `SUPPLY_SWITCH` (R473): The Bonnet switch changes its source between VAON and VBAT. -/
  | supplySwitch
  /-- `COMMIT_END` (R474): The commit completes, COMMIT_BUSY clears, and D1 may be switched off. -/
  | commitEnd
  /-- `RETENTION_LOSS` (R476): The Bonnet rail falls below retention, losing the RTC, alarms and backup SRAM. -/
  | retentionLoss
  /-- `RTC_SHADOW_READ` (R477): The first read of the RTC registers freezes the shadow. -/
  | rtcShadowRead
  /-- `RTC_RELEASE` (R477): A read of BON_RTC_RELEASE returns the pulses since the freeze and ends it. -/
  | rtcRelease
  /-- `RTC_SET` (R478): The SET command loads a value into the RTC. -/
  | rtcSet
  /-- `RTC_SYNC` (R478): The SYNC command loads the time base into the RTC, or is refused. -/
  | rtcSync
  /-- `TRIM_WRITE` (R479): A write of BON_TRIM sets the trim and restarts its window. -/
  | trimWrite (v : Word)
  /-- `ALARM_FIRE` (R480): An armed alarm reaches its instant and fires, posting an event and possibly waking. -/
  | alarmFire (a : Fin 4)
  /-- `ALARM_WRITE` (R480): A write to an alarm register clears FIRED and LATE. -/
  | alarmWrite (a r : Fin 4) (v : Word)
  /-- `TAMPER_DETECT` (R483): A debounced tamper input latches, erases or empties keys, and wakes as configured. -/
  | tamperDetect (t : Fin 2) (high : Bool)
  /-- `CS_WINDOW_WRITE` (R485): A word is written durably through the commit store window, or refused. -/
  | csWindowWrite (w : Fin 1024) (v : Word)
  /-- `RECORD_LOG` (R489): The event recorder accepts a record into its queue and writes it, or drops it. -/
  | recordLog
  /-- `REC_CURSOR` (R490): A write of REC_CURSOR loads that record into the window. -/
  | recCursor (v : Word)
  /-- `WINDOW_ADVANCE` (R490): A read of REC_WIN7 advances the cursor and loads the next record. -/
  | windowAdvance
  /-- `REC_SNAP` (R490): Captures the bounds of the held records. -/
  | recSnap
  /-- `FIRMWARE_RECORD` (R491): A write of REC_LOG_KIND logs a firmware record, or is refused. -/
  | firmwareRecord (kind : BitVec 16)
  /-- `VIN_WARNING` (R503): VIN crosses the warning level, and VIN_WARN and events 1 and 2 follow it. -/
  | vinWarning (below : Bool)
  /-- `VIN_GOOD_FALL` (R504): VIN_GOOD falls: failsafe asserts, D3–D15 lose power and MET turns to the cell. -/
  | vinGoodFall
  /-- `VBAT_CRIT_FALL` (R474): VBAT falls below VBAT_CRIT. -/
  | vbatCritFall
  /-- `POWER_ON_RESET` (R506): VIN_GOOD rises and the module makes a power-on reset. -/
  | powerOnReset (gpio23Low : Bool)
  /-- `COLD_RESET` (R506): The Bonnet rail returns from below retention, and every domain restarts. -/
  | coldReset (gpio23Low : Bool)
  /-- `BROWNOUT_RESET` (R506): VCORE falls below 580 mV, and D3–D15 are reset. -/
  | brownoutReset
  /-- `BANK_NOT_OK` (R519): A pad bank's supply leaves its range, and its pads become unusable. -/
  | bankNotOk (bankB : Bool) (mv : BitVec 12)
  /-- `SYSTEM_RESET` (R507): SYS_RST_CMD.SYSTEM with the key requests a system reset. -/
  | systemReset (key : BitVec 8)
  /-- `STANDBY` (R508): Switches off D3–D15 and waits for a wake source. -/
  | standby (key : BitVec 8)
  /-- `WAKE` (R508): A trigger edge, alarm or tamper wakes the module from standby with a reset of kind 7. -/
  | wake
  /-- `CORE_RESTART` (R509): Restarts a halted or disabled core through the boot ROM. -/
  | coreRestart (v : Word)
  /-- `CORE_RESTART_DONE` (R509): A restarted core reaches the dispatch TAKE, and its SYS_CORE_RST bit clears. -/
  | coreRestartDone (c : CoreId)
  /-- `DOMAIN_SWITCH` (R501): A write of SYS_PWR_EN switches domains on and off, refusing unsafe switch-offs. -/
  | domainSwitch (c : CoreId) (v : Word)
  /-- `DOMAIN_ON` (R502): A switched-on domain becomes usable with reset register values. -/
  | domainOn (d : Fin 16)
  /-- `PERF_WRITE` (R499): A write of SYS_PERF.MV sets VCORE, which slews to the new value. -/
  | perfWrite (v : Word)
  /-- `SYS_KICK` (R513): Any write restarts the system watchdog. -/
  | sysKick
  /-- `SYS_WATCHDOG_EXPIRE` (R513): The system watchdog expires, ALIVE clears and a reset may follow. -/
  | sysWatchdogExpire
  /-- `WATCHDOG_RESET` (R506): 1 ms after an expiry with RST set, the module makes a watchdog reset. -/
  | watchdogReset
  /-- `ALIVE_WRITE` (R513): A write of SYS_ALIVE sets or clears ALIVE, driving LIGHT_FAILSAFE. -/
  | aliveWrite (v : Word)
  /-- `WDOG_WRITE` (R513): A write of SYS_WDOG sets the period and restarts the count; a write of 0 clears ALIVE. -/
  | wdogWrite (v : Word)
  /-- `TRIGGER_EDGE` (R524): An edge on a trigger pad submits its bound descriptor to Weir, or merges with a pending one. -/
  | triggerEdge (n : Fin 4) (rising : Bool)
  /-- `ILLEGAL_INSTRUCTION` (R58): A core issues a word with a reserved or undefined major opcode, including 0x3F and erased NOR,
  and raises ILLEGAL with reason 1. -/
  | illegalInstruction (c : CoreId) (w : Word)
  /-- `DEBUGGER_HALT` (R116): A debugger attached through JTAG halts a core, which stops it and ends any TWAIT in progress. -/
  | debuggerHalt (c : CoreId)
  /-- `JTAG_RESET_INSTRUCTION` (R506): The JTAG reset instruction, while debug is open, makes a reset of kind 4. -/
  | jtagResetInstruction
  /-- `BUS_INTEGRATION` (R347): CAN sees 11 consecutive recessive bits, integrates on the bus (SYNCED) after RUN or leaves the
  protocol exception state. -/
  | busIntegration
  /-- `PPS_OUT_FALL` (R326): PPS_OUT falls after staying high for TSU_PPSO.WIDTH ms. -/
  | ppsOutFall
  /-- `DRBG_HEALTH_RECOVER` (R433): The noise source health tests pass again, DRBG_OK sets and RANDOM, KEY_GEN and SESS_CHALLENGE
  stop answering BUSY. -/
  | drbgHealthRecover
  /-- `VBAT_RECOVER` (R505): VBAT rises above 2.55 V: VBATLOW clears and the VHOLD top-up resumes. -/
  | vbatRecover
  /-- `USB_VBUS_CHANGE` (R520): USB_VBUS crosses 4.0 V, connecting or removing the USB_DP pull-up while the service block runs. -/
  | usbVbusChange (above : Bool)
  /-- `POWER_MANAGER_LOSS` (R500): VIN falls below 3.0 V, D2 loses power and LIGHT_FAILSAFE goes to high impedance, ending standby
  wake watching. -/
  | powerManagerLoss
  deriving DecidableEq, Repr

end Sys2Proof
end

