-- ==== Sys2Proof/Decode.lean ====
section
/-!
DEFINITION. The words of Ocvar instructions (spec/02, spec/03): the command that a word spells for the core that issues it, and the word of
a command (R55 to R60, R62, R64, R66, R67, R71, R75, R79, R93). The opcode table gives no row any bits: `decodeTableWord` answers none.
-/
namespace Sys2Proof

/-! ### Fields (R55) -/

/-- The `n` bits of an instruction word from bit `lo` up. -/
def wordField (w : Word) (lo n : Nat) : Nat := natBits w.toNat lo n

/-- A five-bit field. -/
def wordReg (w : Word) (lo : Nat) : Fin 32 := ⟨wordField w lo 5, Nat.mod_lt _ (by decide)⟩

/-- The rill field of format D. -/
def wordRill (w : Word) : RillNo := ⟨wordField w 10 6, Nat.mod_lt _ (by decide)⟩

/-- A command whose unused fields hold zero (R56). -/
def whenZero (zero : Bool) (i : Instr) : Option Instr := if zero then some i else none

/-! ### Reading a word -/

/-- Major 0x00 (R59); `b` is also the amount of an immediate shift. -/
def decodeInteger (c : CoreId) (d a b : Fin 32) (S : Bool) : Nat → Option Instr
  | 0x00 => some (.add c d a b S)
  | 0x01 => some (.sub c d a b S)
  | 0x02 => some (.and c d a b S)
  | 0x03 => some (.or c d a b S)
  | 0x04 => some (.xor c d a b S)
  | 0x05 => some (.andn c d a b S)
  | 0x06 => some (.slt c d a b S)
  | 0x07 => some (.sltu c d a b S)
  | 0x08 => some (.sll c d a b S)
  | 0x09 => some (.srl c d a b S)
  | 0x0A => some (.sra c d a b S)
  | 0x0B => some (.slli c d a b S)
  | 0x0C => some (.srli c d a b S)
  | 0x0D => some (.srai c d a b S)
  | 0x0E => some (.ror c d a b S)
  | 0x0F => some (.rori c d a b S)
  | 0x10 => whenZero (b == 0) (.clz c d a S)
  | 0x11 => whenZero (b == 0) (.popc c d a S)
  | 0x12 => whenZero (b == 0) (.rev c d a S)
  | 0x13 => some (.min c d a b S)
  | 0x14 => some (.max c d a b S)
  | 0x15 => some (.minu c d a b S)
  | 0x16 => some (.maxu c d a b S)
  | 0x20 => some (.addc c d a b S)
  | 0x21 => some (.subc c d a b S)
  | 0x30 => some (.addp c d a b S)
  | 0x31 => some (.subp c d a b S)
  | 0x32 => some (.sllp c d a b S)
  | 0x33 => some (.srlp c d a b S)
  | 0x34 => some (.srap c d a b S)
  | 0x35 => whenZero (b == 0) (.movp c d a S)
  | 0x36 => whenZero (d == 0) (.cmpp c a b)
  | _ => none

/-- Major 0x01 (R62). -/
def decodeMultiply (c : CoreId) (d a b : Fin 32) (S : Bool) : Nat → Option Instr
  | 0x0 => some (.mul c d a b S)
  | 0x1 => some (.mulh c d a b S)
  | 0x2 => some (.mulhu c d a b S)
  | 0x3 => some (.mulw c d a b S)
  | 0x4 => some (.mulwu c d a b S)
  | 0x5 => some (.mac c d a b S)
  | 0x6 => some (.macu c d a b S)
  | 0x8 => some (.div c d a b S)
  | 0x9 => some (.divu c d a b S)
  | 0xA => some (.rem c d a b S)
  | 0xB => some (.remu c d a b S)
  | _ => none

/-- Major 0x20 (R64); `b` is also a shift amount or a width. -/
def decodeFixed (c : CoreId) (d a b : Fin 32) (S : Bool) : Nat → Option Instr
  | 0x00 => some (.qadd c d a b S)
  | 0x01 => some (.qsub c d a b S)
  | 0x02 => some (.qaddu c d a b S)
  | 0x03 => some (.qsubu c d a b S)
  | 0x04 => some (.qmulq31 c d a b S)
  | 0x05 => some (.qmul1616 c d a b S)
  | 0x06 => whenZero (b == 0) (.qneg c d a S)
  | 0x07 => whenZero (b == 0) (.qabs c d a S)
  | 0x08 => some (.sats c d a b S)
  | 0x09 => some (.satu c d a b S)
  | 0x0A => some (.qshl c d a b S)
  | 0x0B => some (.rshr c d a b S)
  | 0x0C => some (.qmac c d a b S)
  | 0x0D => some (.qnarrow c d a b S)
  | 0x10 => some (.padd16 c d a b S)
  | 0x11 => some (.psub16 c d a b S)
  | 0x12 => some (.pmulq15 c d a b S)
  | _ => none

/-- Major 0x14, by the bits above the offset of 12 (R66). -/
def decodeNarrow (c : CoreId) (d a : Fin 32) (imm : BitVec 12) : Nat → Option Instr
  | 0 => some (.lb c d a imm)
  | 1 => some (.lbu c d a imm)
  | 2 => some (.lh c d a imm)
  | 3 => some (.lhu c d a imm)
  | 4 => some (.sb c d a imm)
  | 5 => some (.sh c d a imm)
  | _ => none

/-- Major 0x15: bits 3 to 0 of the function, with bit 4 as `scaled` (R67). -/
def decodeIndexed (c : CoreId) (d a b : Fin 32) (scaled : Bool) : Nat → Option Instr
  | 0 => some (.lwx c d a b scaled)
  | 1 => some (.ldx c d a b scaled)
  | 2 => some (.swx c d a b scaled)
  | 3 => some (.sdx c d a b scaled)
  | 4 => some (.lbx c d a b scaled)
  | 5 => some (.lbux c d a b scaled)
  | 6 => some (.lhx c d a b scaled)
  | 7 => some (.lhux c d a b scaled)
  | 8 => some (.sbx c d a b scaled)
  | 9 => some (.shx c d a b scaled)
  | _ => none

/-- Major 0x16 (R71). -/
def decodeAtomic (c : CoreId) (d a b : Fin 32) : Nat → Option Instr
  | 0 => some (.amoswap c d a b)
  | 1 => some (.amoadd c d a b)
  | 2 => some (.amoand c d a b)
  | 3 => some (.amoor c d a b)
  | 4 => some (.amocas c d a b)
  | _ => none

/-- Major 0x30: the operation on a rill (R93). -/
def decodeRill (c : CoreId) (d a : Fin 32) (n : RillNo) : Nat → Option Instr
  | 0 => whenZero (d == 0) (.push c n a)
  | 1 => whenZero (a == 0) (.pop c d n)
  | 2 => whenZero (a == 0) (.peek c d n)
  | 3 => whenZero (a == 0) (.takeRill c d n)
  | 4 => whenZero (d == 0 && a == 0) (.openp c n)
  | 5 => whenZero (d == 0) (.closep c n a)
  | 6 => whenZero (d == 0 && a == 0) (.cancelp c n)
  | 7 => whenZero (d == 0 && a == 0) (.mark c n)
  | 8 => whenZero (d == 0 && a == 0) (.rewind c n)
  | 9 => whenZero (d == 0 && a == 0) (.release c n)
  | _ => none

/-- Major 0x3E, by bits 10 to 6 (R79). -/
def decodeSystem (c : CoreId) (w : Word) : Nat → Option Instr
  | 0 => whenZero (wordField w 11 10 == 0) (.mfc c (wordReg w 21) (BitVec.ofNat 6 (wordField w 0 6)))
  | 1 => whenZero (wordField w 21 5 == 0 && wordField w 11 5 == 0) (.mtc c (wordReg w 16) (BitVec.ofNat 6 (wordField w 0 6)))
  | 2 => whenZero (wordField w 11 15 == 0 && wordField w 0 6 == 0) (.eret c)
  | 3 => whenZero (wordField w 21 5 == 0 && wordField w 0 6 == 0) (.trap c (BitVec.ofNat 10 (wordField w 11 10)))
  | 4 => whenZero (wordField w 11 15 == 0 && wordField w 0 6 == 0) (.brk c)
  | _ => none

/-- The words of format A without an `S` bit: the majors 0x15, 0x16, 0x1C, 0x28, 0x31, 0x38, 0x39 and 0x3C (R67, R71, R75, R93). -/
def decodePlainA (c : CoreId) (d a b : Fin 32) (fn : Nat) : Nat → Option Instr
  | 0x15 => if fn < 32 then decodeIndexed c d a b (16 ≤ fn) (fn % 16) else none
  | 0x16 => decodeAtomic c d a b fn
  | 0x1C =>
    match fn with
    | 0 => whenZero (d == 0 && b == 0) (.jr c a)
    | 1 => whenZero (b == 0) (.jalr c d a)
    | _ => none
  | 0x28 =>
    match fn with
    | 0 => some (.lmix c d a b)
    | 1 => some (.lmixn c d a b)
    | 2 => whenZero (d == 0) (.ltemp c a b)
    | 3 => whenZero (b == 0) (.lsub c d a)
    | _ => none
  | 0x31 =>
    match fn with
    | 0 => whenZero (d == 0 && a == 0 && b == 0) (.takeDispatch c)
    | 1 => whenZero (d == 0 && a == 0 && b == 0) (.done c)
    | 2 => whenZero (b == 0) (.spawn c d a)
    | _ => none
  | 0x38 =>
    match fn with
    | 0 => whenZero (a == 0 && b == 0) (.tnow c d)
    | 1 => whenZero (b == 0) (.twait c d a)
    | 2 => whenZero (b == 0) (.twaitd c d a)
    | _ => none
  | 0x39 => if fn = 0 then whenZero (d == 0 && a == 0 && b == 0) (.fence c) else none
  | 0x3C => whenZero (b == 0) (.gcall c d a (BitVec.ofNat 10 fn))
  | _ => none

/-- The command that a word spells for core `c` (R55, R58, R93); nothing where the word is no instruction (R56, R57). What an
instruction makes of its operands, such as an odd pair or an undefined condition, is the instruction's own matter. -/
def decodeInstr (c : CoreId) (w : Word) : Option Instr :=
  let d := wordReg w 21
  let a := wordReg w 16
  let b := wordReg w 11
  let fn := wordField w 0 10
  let S := w.getLsbD 10
  let imm := BitVec.ofNat 16 (wordField w 0 16)
  match wordField w 26 6 with
  | 0x00 => decodeInteger c d a b S fn
  | 0x01 => decodeMultiply c d a b S fn
  | 0x04 => some (.addi c d a imm)
  | 0x05 => some (.andi c d a imm)
  | 0x06 => some (.ori c d a imm)
  | 0x07 => some (.xori c d a imm)
  | 0x08 => some (.slti c d a imm)
  | 0x09 => some (.sltiu c d a imm)
  | 0x0A => whenZero (a == 0) (.lhi c d imm)
  | 0x0B => whenZero (d == 0) (.cmpi c a imm)
  | 0x0C => some (.li c d (BitVec.ofNat 21 (wordField w 0 21)))
  | 0x0D => some (.addis c d a imm)
  | 0x10 => some (.lw c d a imm)
  | 0x11 => some (.ld c d a imm)
  | 0x12 => some (.sw c d a imm)
  | 0x13 => some (.sd c d a imm)
  | 0x14 => decodeNarrow c d a (BitVec.ofNat 12 (wordField w 0 12)) (wordField w 12 4)
  | 0x18 => whenZero (a == 0) (.bc c (BitVec.ofNat 5 d.val) imm)
  | 0x19 => some (.br c (BitVec.ofNat 5 d.val) a imm)
  | 0x1A => some (.j c (BitVec.ofNat 26 (wordField w 0 26)))
  | 0x1B => some (.jal c (BitVec.ofNat 26 (wordField w 0 26)))
  | 0x20 => decodeFixed c d a b S fn
  | 0x30 => decodeRill c d a (wordRill w) fn
  | 0x3D => some (.gpost c d a (wordRill w) (BitVec.ofNat 10 fn))
  | 0x3E => decodeSystem c w (wordField w 6 5)
  | major => if S then none else decodePlainA c d a b fn major

/-! ### Writing a word -/

/-- A word of format A (R55); `fn` holds the `S` bit too. -/
def wordA (major d a b fn : Nat) : Word := BitVec.ofNat 32 (major * 2 ^ 26 + d * 2 ^ 21 + a * 2 ^ 16 + b * 2 ^ 11 + fn)

/-- A word of format A with the `S` bit. -/
def wordS (major : Nat) (d a b : Fin 32) (fn : Nat) (S : Bool) : Word := wordA major d.val a.val b.val (bit01 S * 2 ^ 10 + fn)

/-- A word of format B or C. -/
def wordB (major d a : Nat) (imm : BitVec 16) : Word := BitVec.ofNat 32 (major * 2 ^ 26 + d * 2 ^ 21 + a * 2 ^ 16 + imm.toNat)

/-- A word of format D. -/
def wordD (major d a : Nat) (n : RillNo) (op : Nat) : Word :=
  BitVec.ofNat 32 (major * 2 ^ 26 + d * 2 ^ 21 + a * 2 ^ 16 + n.val * 2 ^ 10 + op)

/-- A narrow access: the operation stands above an offset of 12 bits (R66). -/
def wordN (d a : Fin 32) (op : Nat) (imm : BitVec 12) : Word :=
  BitVec.ofNat 32 (0x14 * 2 ^ 26 + d.val * 2 ^ 21 + a.val * 2 ^ 16 + op * 2 ^ 12 + imm.toNat)

/-- The core that issues an instruction, and the instruction's word; nothing for a command that is no instruction. -/
def encodeInstr : Instr → Option (CoreId × Word)
  | .add c d a b S => some (c, wordS 0 d a b 0x00 S)
  | .sub c d a b S => some (c, wordS 0 d a b 0x01 S)
  | .and c d a b S => some (c, wordS 0 d a b 0x02 S)
  | .or c d a b S => some (c, wordS 0 d a b 0x03 S)
  | .xor c d a b S => some (c, wordS 0 d a b 0x04 S)
  | .andn c d a b S => some (c, wordS 0 d a b 0x05 S)
  | .slt c d a b S => some (c, wordS 0 d a b 0x06 S)
  | .sltu c d a b S => some (c, wordS 0 d a b 0x07 S)
  | .sll c d a b S => some (c, wordS 0 d a b 0x08 S)
  | .srl c d a b S => some (c, wordS 0 d a b 0x09 S)
  | .sra c d a b S => some (c, wordS 0 d a b 0x0A S)
  | .slli c d a n S => some (c, wordS 0 d a n 0x0B S)
  | .srli c d a n S => some (c, wordS 0 d a n 0x0C S)
  | .srai c d a n S => some (c, wordS 0 d a n 0x0D S)
  | .ror c d a b S => some (c, wordS 0 d a b 0x0E S)
  | .rori c d a n S => some (c, wordS 0 d a n 0x0F S)
  | .clz c d a S => some (c, wordS 0 d a 0 0x10 S)
  | .popc c d a S => some (c, wordS 0 d a 0 0x11 S)
  | .rev c d a S => some (c, wordS 0 d a 0 0x12 S)
  | .min c d a b S => some (c, wordS 0 d a b 0x13 S)
  | .max c d a b S => some (c, wordS 0 d a b 0x14 S)
  | .minu c d a b S => some (c, wordS 0 d a b 0x15 S)
  | .maxu c d a b S => some (c, wordS 0 d a b 0x16 S)
  | .addc c d a b S => some (c, wordS 0 d a b 0x20 S)
  | .subc c d a b S => some (c, wordS 0 d a b 0x21 S)
  | .addp c d a b S => some (c, wordS 0 d a b 0x30 S)
  | .subp c d a b S => some (c, wordS 0 d a b 0x31 S)
  | .sllp c d a b S => some (c, wordS 0 d a b 0x32 S)
  | .srlp c d a b S => some (c, wordS 0 d a b 0x33 S)
  | .srap c d a b S => some (c, wordS 0 d a b 0x34 S)
  | .movp c d a S => some (c, wordS 0 d a 0 0x35 S)
  | .cmpp c a b => some (c, wordS 0 0 a b 0x36 false)
  | .mul c d a b S => some (c, wordS 1 d a b 0x0 S)
  | .mulh c d a b S => some (c, wordS 1 d a b 0x1 S)
  | .mulhu c d a b S => some (c, wordS 1 d a b 0x2 S)
  | .mulw c d a b S => some (c, wordS 1 d a b 0x3 S)
  | .mulwu c d a b S => some (c, wordS 1 d a b 0x4 S)
  | .mac c d a b S => some (c, wordS 1 d a b 0x5 S)
  | .macu c d a b S => some (c, wordS 1 d a b 0x6 S)
  | .div c d a b S => some (c, wordS 1 d a b 0x8 S)
  | .divu c d a b S => some (c, wordS 1 d a b 0x9 S)
  | .rem c d a b S => some (c, wordS 1 d a b 0xA S)
  | .remu c d a b S => some (c, wordS 1 d a b 0xB S)
  | .addi c d a imm => some (c, wordB 0x04 d a imm)
  | .andi c d a imm => some (c, wordB 0x05 d a imm)
  | .ori c d a imm => some (c, wordB 0x06 d a imm)
  | .xori c d a imm => some (c, wordB 0x07 d a imm)
  | .slti c d a imm => some (c, wordB 0x08 d a imm)
  | .sltiu c d a imm => some (c, wordB 0x09 d a imm)
  | .lhi c d imm => some (c, wordB 0x0A d 0 imm)
  | .cmpi c a imm => some (c, wordB 0x0B 0 a imm)
  | .li c d imm => some (c, BitVec.ofNat 32 (0x0C * 2 ^ 26 + d.val * 2 ^ 21 + imm.toNat))
  | .addis c d a imm => some (c, wordB 0x0D d a imm)
  | .qadd c d a b S => some (c, wordS 0x20 d a b 0x00 S)
  | .qsub c d a b S => some (c, wordS 0x20 d a b 0x01 S)
  | .qaddu c d a b S => some (c, wordS 0x20 d a b 0x02 S)
  | .qsubu c d a b S => some (c, wordS 0x20 d a b 0x03 S)
  | .qmulq31 c d a b S => some (c, wordS 0x20 d a b 0x04 S)
  | .qmul1616 c d a b S => some (c, wordS 0x20 d a b 0x05 S)
  | .qneg c d a S => some (c, wordS 0x20 d a 0 0x06 S)
  | .qabs c d a S => some (c, wordS 0x20 d a 0 0x07 S)
  | .sats c d a n S => some (c, wordS 0x20 d a n 0x08 S)
  | .satu c d a n S => some (c, wordS 0x20 d a n 0x09 S)
  | .qshl c d a n S => some (c, wordS 0x20 d a n 0x0A S)
  | .rshr c d a n S => some (c, wordS 0x20 d a n 0x0B S)
  | .qmac c d a b S => some (c, wordS 0x20 d a b 0x0C S)
  | .qnarrow c d a n S => some (c, wordS 0x20 d a n 0x0D S)
  | .padd16 c d a b S => some (c, wordS 0x20 d a b 0x10 S)
  | .psub16 c d a b S => some (c, wordS 0x20 d a b 0x11 S)
  | .pmulq15 c d a b S => some (c, wordS 0x20 d a b 0x12 S)
  | .lw c d a imm => some (c, wordB 0x10 d a imm)
  | .ld c d a imm => some (c, wordB 0x11 d a imm)
  | .sw c d a imm => some (c, wordB 0x12 d a imm)
  | .sd c d a imm => some (c, wordB 0x13 d a imm)
  | .lb c d a imm => some (c, wordN d a 0 imm)
  | .lbu c d a imm => some (c, wordN d a 1 imm)
  | .lh c d a imm => some (c, wordN d a 2 imm)
  | .lhu c d a imm => some (c, wordN d a 3 imm)
  | .sb c d a imm => some (c, wordN d a 4 imm)
  | .sh c d a imm => some (c, wordN d a 5 imm)
  | .lwx c d a b scaled => some (c, wordA 0x15 d a b (bit01 scaled * 16 + 0))
  | .ldx c d a b scaled => some (c, wordA 0x15 d a b (bit01 scaled * 16 + 1))
  | .swx c d a b scaled => some (c, wordA 0x15 d a b (bit01 scaled * 16 + 2))
  | .sdx c d a b scaled => some (c, wordA 0x15 d a b (bit01 scaled * 16 + 3))
  | .lbx c d a b scaled => some (c, wordA 0x15 d a b (bit01 scaled * 16 + 4))
  | .lbux c d a b scaled => some (c, wordA 0x15 d a b (bit01 scaled * 16 + 5))
  | .lhx c d a b scaled => some (c, wordA 0x15 d a b (bit01 scaled * 16 + 6))
  | .lhux c d a b scaled => some (c, wordA 0x15 d a b (bit01 scaled * 16 + 7))
  | .sbx c d a b scaled => some (c, wordA 0x15 d a b (bit01 scaled * 16 + 8))
  | .shx c d a b scaled => some (c, wordA 0x15 d a b (bit01 scaled * 16 + 9))
  | .amoswap c d a b => some (c, wordA 0x16 d a b 0)
  | .amoadd c d a b => some (c, wordA 0x16 d a b 1)
  | .amoand c d a b => some (c, wordA 0x16 d a b 2)
  | .amoor c d a b => some (c, wordA 0x16 d a b 3)
  | .amocas c d a b => some (c, wordA 0x16 d a b 4)
  | .bc c cond off => some (c, wordB 0x18 cond.toNat 0 off)
  | .br c cond a off => some (c, wordB 0x19 cond.toNat a off)
  | .j c t => some (c, BitVec.ofNat 32 (0x1A * 2 ^ 26 + t.toNat))
  | .jal c t => some (c, BitVec.ofNat 32 (0x1B * 2 ^ 26 + t.toNat))
  | .jr c a => some (c, wordA 0x1C 0 a 0 0)
  | .jalr c d a => some (c, wordA 0x1C d a 0 1)
  | .mfc c d n => some (c, wordA 0x3E d 0 0 n.toNat)
  | .mtc c a n => some (c, wordA 0x3E 0 a 0 (1 * 2 ^ 6 + n.toNat))
  | .eret c => some (c, wordA 0x3E 0 0 0 (2 * 2 ^ 6))
  | .trap c code => some (c, BitVec.ofNat 32 (0x3E * 2 ^ 26 + code.toNat * 2 ^ 11 + 3 * 2 ^ 6))
  | .brk c => some (c, wordA 0x3E 0 0 0 (4 * 2 ^ 6))
  | .lmix c d a b => some (c, wordA 0x28 d a b 0)
  | .lmixn c d a b => some (c, wordA 0x28 d a b 1)
  | .ltemp c a b => some (c, wordA 0x28 0 a b 2)
  | .lsub c d a => some (c, wordA 0x28 d a 0 3)
  | .push c n a => some (c, wordD 0x30 0 a n 0)
  | .pop c d n => some (c, wordD 0x30 d 0 n 1)
  | .peek c d n => some (c, wordD 0x30 d 0 n 2)
  | .takeRill c d n => some (c, wordD 0x30 d 0 n 3)
  | .openp c n => some (c, wordD 0x30 0 0 n 4)
  | .closep c n a => some (c, wordD 0x30 0 a n 5)
  | .cancelp c n => some (c, wordD 0x30 0 0 n 6)
  | .mark c n => some (c, wordD 0x30 0 0 n 7)
  | .rewind c n => some (c, wordD 0x30 0 0 n 8)
  | .release c n => some (c, wordD 0x30 0 0 n 9)
  | .takeDispatch c => some (c, wordA 0x31 0 0 0 0)
  | .done c => some (c, wordA 0x31 0 0 0 1)
  | .spawn c d a => some (c, wordA 0x31 d a 0 2)
  | .tnow c d => some (c, wordA 0x38 d 0 0 0)
  | .twait c d a => some (c, wordA 0x38 d a 0 1)
  | .twaitd c d a => some (c, wordA 0x38 d a 0 2)
  | .fence c => some (c, wordA 0x39 0 0 0 0)
  | .gcall c d a service => some (c, wordA 0x3C d a 0 service.toNat)
  | .gpost c d a n service => some (c, wordD 0x3D d a n service.toNat)
  | _ => none

/-! ### The opcode table -/

/-- The command that a word of `nbits` bits spells by the opcode table: none, since no row of the table has bits. -/
def decodeTableWord (_nbits _w : Nat) : Option Instr := none

end Sys2Proof
end

