-- ==== Sys2Proof/Config.lean ====
section
/-!
DEFINITION. What an implementation fixes and the spec leaves open: free values. Each is a constant with no body, so nothing
can be proved of its value; the argument `n` is the count of free values drawn so far, which makes each draw a value of its own.
-/
namespace Sys2Proof

/-- The outcome of reading a code word with three or more bits in error (R451): 0 reported as correctable with wrong data,
1 reported as uncorrectable, 2 not reported with wrong data. Log entry 2. -/
opaque Config.eccOutcome : Nat → Fin 3

/-- The data such a read returns where it returns data. Log entry 2. -/
opaque Config.eccData : Nat → DWord

/-- The contents of the boot ROM, which the spec does not give. Log entry 3. -/
opaque Config.romByte : Nat → Byte

/-- The address of the dispatch TAKE in the boot ROM, at which cores wait after a start or a restart (R408, R509). Log entry 3. -/
opaque Config.romTake : Word

/-- The value of a field whose contents the spec leaves to the block (a "block-specific" DETAIL of R488 that no chapter
gives). Log entry 4. -/
opaque Config.freeDword : Nat → DWord

/-- The last byte of the record kind 0x0100 to 0x01FF under which a street or show block logs a refused presence event or
fault (R488), by block number. Log entry 4. -/
opaque Config.refusedKind : Nat → Fin 256

/-- The true geometric elevation and azimuth of the sun's centre in 0.001°, for a latitude and longitude (10⁻⁶ degree) and an
instant in ns UTC since the PTP epoch (R202). Log entry 5. -/
opaque Config.trueElevation : Word → Word → Int → Int
opaque Config.trueAzimuth : Word → Word → Int → Fin 360000

/-- By how much the engine's elevation and azimuth differ from the true ones, in 0.001°, counted from the lower end of the
range that R202 allows: 0.05° and 0.1° to either side. Log entry 5. -/
opaque Config.elevationError : Word → Word → Int → Fin 101
opaque Config.azimuthError : Word → Word → Int → Fin 201

/-- What the engine gives where R202 states no accuracy: outside the years 2020 to 2099, and the azimuth of a sun at or above
80°. Log entry 5. -/
opaque Config.sunElevation : Word → Word → Int → Int
opaque Config.sunAzimuth : Word → Word → Int → Fin 360000

/-- The standard refraction term for a geometric elevation, in 0.001°; the spec names it and gives no formula (R202). Log entry 5. -/
opaque Config.refraction : Int → Int

/-- The output of the Gauntlet's random generator (R433). Log entry 8. -/
opaque Config.random : Nat → DWord

/-- The published test root, whose value the spec does not give (spec/14, Roots). Log entry 9. -/
opaque Config.testRoot : Nat → Byte

/-- Of the 42 bytes of Ethernet, IPv4 and UDP header that PMAP puts before an E1.31 packet, those other than the type, the version and
length of the IPv4 header, and the protocol; ETHB patches some of them (R246). Log entry 6. -/
opaque Config.sacnHeader : Nat → Byte

/-- The IPv4 identification of a send of PMAP (R246). Log entry 6. -/
opaque Config.sacnIpId : Nat → BitVec 16

/-- The output of MET's first-order high-pass, from its last output, its last input and its input; the spec gives its corner
frequency alone (R354). Log entry 14. -/
opaque Config.metHighpass : Int → Int → Int → Int

/-- The reference frequency in mHz that MET measures from the calibrated reference voltage, newest sample first; the spec does not say
how (R355). Log entry 14. -/
opaque Config.metFrequency : List Int → BitVec 20

/-- The bytes of code that the baseband of a radio can hold; the spec gives no size (R411). Log entry 16. -/
opaque Config.basebandSize : Fin 3 → Nat

end Sys2Proof
end

