-- ==== Sys2Proof/Machine/Crypto.lean ====
section
/-!
DEFINITION. The algorithms that the Gauntlet, RAD and UPD name (R401, R428, R429): SHA-256, HMAC, HKDF, AES with its modes,
key wrap with padding, ECDSA and ECDH on P-256, CRC-32. Each is the algorithm of the standard that the rule cites.
-/
namespace Sys2Proof.Machine

/-! ### Bytes as numbers -/

/-- The `n` bytes of a number, the most significant first. -/
def cBytes (n v : Nat) : List Nat := (List.range n).map fun i => v / 256 ^ (n - 1 - i) % 256

/-- The number that bytes spell, the most significant first. -/
def cNat (l : List Nat) : Nat := l.foldl (fun a b => a * 256 + b) 0

/-- Bytes xored pairwise. -/
def cXor (a b : List Nat) : List Nat := List.zipWith (· ^^^ ·) a b

/-- A list cut into pieces of `m`; `n` bounds their number. -/
def cChunks (m : Nat) : Nat → List Nat → List (List Nat)
  | 0, _ => []
  | _, [] => []
  | n + 1, l => l.take m :: cChunks m n (l.drop m)

def cBlocks (m : Nat) (l : List Nat) : List (List Nat) := cChunks m (l.length + 1) l

/-- Bytes filled up with zeros to a multiple of `m`. -/
def cPad (m : Nat) (l : List Nat) : List Nat := l ++ List.replicate ((m - l.length % m) % m) 0

/-! ### SHA-256 (FIPS 180-4), HMAC, HKDF -/

def rotr (x n : Nat) : Nat := (x >>> n) ||| (x <<< (32 - n)) % 2 ^ 32

/-- The first 32 bits of the fractional part of the `k`-th root of `p`: the root of `p` × 2^(32 `k`) is built from its highest bit on. -/
def rootBits (k p : Nat) : Nat :=
  (List.range 37).foldr (fun i r => if (r + 2 ^ i) ^ k ≤ p * 2 ^ (32 * k) then r + 2 ^ i else r) 0 % 2 ^ 32

/-- The primes below 312, which are the first 64. -/
def shaPrimes : List Nat := (List.range 312).filter fun n => 2 ≤ n && (List.range n).all fun m => m < 2 || n % m != 0

/-- The constants of the rounds: cube roots of the first 64 primes. -/
def shaK : List Nat := shaPrimes.map (rootBits 3)

/-- The hash before the first block: square roots of the first eight primes. -/
def shaInit : List Nat := (shaPrimes.take 8).map (rootBits 2)

/-- The message schedule, newest word first. -/
def shaExpand : Nat → List Nat → List Nat
  | 0, w => w
  | n + 1, w =>
    let g (i : Nat) : Nat := w.getD (i - 1) 0
    let s0 := rotr (g 15) 7 ^^^ rotr (g 15) 18 ^^^ (g 15 >>> 3)
    let s1 := rotr (g 2) 17 ^^^ rotr (g 2) 19 ^^^ (g 2 >>> 10)
    shaExpand n ((g 16 + s0 + g 7 + s1) % 2 ^ 32 :: w)

def shaRound (h : List Nat) (kw : Nat × Nat) : List Nat :=
  match h with
  | [a, b, c, d, e, f, g, i] =>
    let s1 := rotr e 6 ^^^ rotr e 11 ^^^ rotr e 25
    let ch := (e &&& f) ^^^ ((0xFFFFFFFF - e) &&& g)
    let t1 := i + s1 + ch + kw.1 + kw.2
    let s0 := rotr a 2 ^^^ rotr a 13 ^^^ rotr a 22
    let maj := (a &&& b) ^^^ (a &&& c) ^^^ (b &&& c)
    [(t1 + s0 + maj) % 2 ^ 32, a, b, c, (d + t1) % 2 ^ 32, e, f, g]
  | _ => h

def shaBlock (h block : List Nat) : List Nat :=
  let w := (shaExpand 48 ((cBlocks 4 block).map cNat).reverse).reverse
  List.zipWith (fun a b => (a + b) % 2 ^ 32) h ((shaK.zip w).foldl shaRound h)

/-- SHA-256. -/
def sha256 (m : List Nat) : List Nat :=
  let padded := m ++ [0x80] ++ List.replicate ((119 - m.length % 64) % 64) 0 ++ cBytes 8 (8 * m.length)
  ((cBlocks 64 padded).foldl shaBlock shaInit).flatMap (cBytes 4)

/-- HMAC-SHA-256. -/
def hmac (key m : List Nat) : List Nat :=
  let k := cPad 64 (if key.length > 64 then sha256 key else key)
  let k := if k.isEmpty then List.replicate 64 0 else k
  sha256 (k.map (· ^^^ 0x5C) ++ sha256 (k.map (· ^^^ 0x36) ++ m))

def hkdfExpand (prk info : List Nat) : Nat → Nat → List Nat → List Nat
  | 0, _, _ => []
  | n + 1, i, t =>
    let u := hmac prk (t ++ info ++ [i])
    u ++ hkdfExpand prk info n (i + 1) u

/-- HKDF-SHA-256, `n` bytes of output. -/
def hkdf (ikm salt info : List Nat) (n : Nat) : List Nat :=
  (hkdfExpand (hmac (if salt.isEmpty then List.replicate 32 0 else salt) ikm) info ((n + 31) / 32) 1 []).take n

/-! ### AES (FIPS 197) -/

def xtime (a : Nat) : Nat := if a < 128 then 2 * a else (2 * a ^^^ 0x11B) % 256

/-- Multiplication in the field of AES. -/
def gfMul (a b : Nat) : Nat :=
  ((List.range 8).foldl (fun (p : Nat × Nat) i => (if b.testBit i then p.1 ^^^ p.2 else p.1, xtime p.2)) (0, a)).1

/-- The 254th power: the inverse. -/
def gfInv (a : Nat) : Nat := ((List.range 253).foldl (fun p _ => gfMul p a) a)

def rotl8 (a n : Nat) : Nat := ((a <<< n) ||| (a >>> (8 - n))) % 256

def sboxOf (a : Nat) : Nat :=
  let i := gfInv a
  i ^^^ rotl8 i 1 ^^^ rotl8 i 2 ^^^ rotl8 i 3 ^^^ rotl8 i 4 ^^^ 0x63

def sboxTable : List Nat := (List.range 256).map sboxOf
def sbox (a : Nat) : Nat := sboxTable.getD a 0
def invSbox (a : Nat) : Nat := (sboxTable.findIdx? (· == a)).getD 0

/-- The key schedule in 4-byte words, newest first; `i` counts words. -/
def keyWords (nk : Nat) : Nat → Nat → Nat → List (List Nat) → List (List Nat)
  | 0, _, _, w => w
  | n + 1, i, rcon, w =>
    let t := w.headD []
    let old := w.getD (nk - 1) []
    let t' := if i % nk = 0 then cXor ((t.drop 1 ++ t.take 1).map sbox) [rcon, 0, 0, 0]
      else if nk > 6 ∧ i % nk = 4 then t.map sbox else t
    keyWords nk n (i + 1) (if i % nk = 0 then xtime rcon else rcon) (cXor old t' :: w)

/-- The round keys of a key of 16 or 32 bytes. -/
def roundKeys (key : List Nat) : List (List Nat) :=
  let nk := key.length / 4
  let words := (keyWords nk (4 * (nk + 7) - nk) nk 1 (cBlocks 4 key).reverse).reverse
  (cBlocks 16 words.flatten)

def shiftRows (s : List Nat) : List Nat := (List.range 16).map fun i => s.getD ((i + 4 * (i % 4)) % 16) 0
def invShiftRows (s : List Nat) : List Nat := (List.range 16).map fun i => s.getD ((i + 16 - 4 * (i % 4)) % 16) 0

def mixWith (m : List Nat) (s : List Nat) : List Nat :=
  (List.range 16).map fun i =>
    ((List.range 4).map fun j => gfMul (m.getD ((4 + j - i % 4) % 4) 0) (s.getD (i / 4 * 4 + j) 0)).foldl (· ^^^ ·) 0

def aesRounds : List (List Nat) → List Nat → List Nat
  | [], s => s
  | [k], s => cXor (shiftRows (s.map sbox)) k
  | k :: ks, s => aesRounds ks (cXor (mixWith [2, 3, 1, 1] (shiftRows (s.map sbox))) k)

/-- AES encryption of a block. -/
def aes (key block : List Nat) : List Nat :=
  match roundKeys key with
  | k :: ks => aesRounds ks (cXor block k)
  | [] => block

def aesInvRounds : List (List Nat) → List Nat → List Nat
  | [], s => s
  | [k], s => cXor ((invShiftRows s).map invSbox) k
  | k :: ks, s => aesInvRounds ks (mixWith [14, 11, 13, 9] (cXor ((invShiftRows s).map invSbox) k))

/-- AES decryption of a block. -/
def aesInv (key block : List Nat) : List Nat :=
  match (roundKeys key).reverse with
  | k :: ks => aesInvRounds ks (cXor block k)
  | [] => block

/-- CTR from a 16-byte counter block. -/
def aesCtr (key ctr data : List Nat) : List Nat :=
  let n := cNat ctr
  ((cBlocks 16 data).zipIdx.map fun (b, i) => cXor b (aes key (cBytes 16 ((n + i) % 2 ^ 128)))).flatten

/-- CBC-MAC over padded data. -/
def cbcMac (key data : List Nat) : List Nat :=
  (cBlocks 16 data).foldl (fun x b => aes key (cXor x b)) (List.replicate 16 0)

/-- The CMAC subkey after one doubling. -/
def cmacDouble (v : Nat) : Nat := if v < 2 ^ 127 then 2 * v else (2 * v % 2 ^ 128) ^^^ 0x87

/-- AES-CMAC (SP 800-38B). -/
def cmac (key m : List Nat) : List Nat :=
  let k1 := cmacDouble (cNat (aes key (List.replicate 16 0)))
  let n := if m.isEmpty then 0 else (m.length - 1) / 16 * 16
  let last := m.drop n
  let fin := if last.length = 16 then cXor last (cBytes 16 k1)
    else cXor (cPad 16 (last ++ [0x80])) (cBytes 16 (cmacDouble k1))
  cbcMac key (m.take n ++ fin)

/-- The counter block and the first block of CCM* with a 13-byte nonce. -/
def ccmA (nonce : List Nat) (i : Nat) : List Nat := 1 :: nonce ++ cBytes 2 i

/-- The authentication value of CCM* before encryption. -/
def ccmMac (key nonce aad m : List Nat) (tag : Nat) : List Nat :=
  let flags := (if aad.isEmpty then 0 else 64) + (if tag = 0 then 0 else 8 * ((tag - 2) / 2)) + 1
  let la := if aad.length < 0xFF00 then cBytes 2 aad.length else [0xFF, 0xFE] ++ cBytes 4 aad.length
  let a := if aad.isEmpty then [] else cPad 16 (la ++ aad)
  cbcMac key (flags :: nonce ++ cBytes 2 m.length ++ a ++ cPad 16 m)

/-- CCM* seal: ciphertext, then tag. -/
def ccmSeal (key nonce aad m : List Nat) (tag : Nat) : List Nat :=
  aesCtr key (ccmA nonce 1) m ++ cXor ((ccmMac key nonce aad m tag).take tag) (aes key (ccmA nonce 0))

/-- CCM* open: the plaintext, where the tag at the end of the input is right. -/
def ccmOpen (key nonce aad c : List Nat) (tag : Nat) : Option (List Nat) :=
  let n := c.length - tag
  let m := aesCtr key (ccmA nonce 1) (c.take n)
  if tag ≤ c.length ∧ ccmSeal key nonce aad m tag = c then some m else none

/-- Multiplication in the field of GCM, bits numbered from the most significant. -/
def ghashMul (x y : Nat) : Nat :=
  ((List.range 128).foldl (fun (p : Nat × Nat) i =>
    (if x.testBit (127 - i) then p.1 ^^^ p.2 else p.1,
     if p.2 % 2 = 0 then p.2 / 2 else (p.2 / 2) ^^^ 0xE1000000000000000000000000000000)) (0, y)).1

/-- AES-GCM seal with a 12-byte IV: ciphertext, then 16-byte tag. -/
def gcmSeal (key iv aad m : List Nat) : List Nat :=
  let h := cNat (aes key (List.replicate 16 0))
  let c := aesCtr key (iv ++ cBytes 4 2) m
  let g := (cBlocks 16 (cPad 16 aad ++ cPad 16 c ++ cBytes 8 (8 * aad.length) ++ cBytes 8 (8 * c.length))).foldl
    (fun x b => ghashMul (x ^^^ cNat b) h) 0
  c ++ cXor (cBytes 16 g) (aes key (iv ++ cBytes 4 1))

/-- AES-GCM open. -/
def gcmOpen (key iv aad c : List Nat) : Option (List Nat) :=
  let m := aesCtr key (iv ++ cBytes 4 2) (c.take (c.length - 16))
  if 16 ≤ c.length ∧ gcmSeal key iv aad m = c then some m else none

/-- The steps of key wrap: `t` counts from 1. -/
def wrapSteps (key : List Nat) (n : Nat) : Nat → Nat → List Nat × List (List Nat) → List Nat × List (List Nat)
  | 0, _, p => p
  | k + 1, t, (a, r) =>
    let i := (t - 1) % n
    let b := aes key (a ++ r.getD i [])
    wrapSteps key n k (t + 1) (cXor (b.take 8) (cBytes 8 t), r.set i (b.drop 8))

def unwrapSteps (key : List Nat) (n : Nat) : Nat → List Nat × List (List Nat) → List Nat × List (List Nat)
  | 0, p => p
  | k + 1, (a, r) =>
    let t := k + 1
    let i := (t - 1) % n
    let b := aesInv key (cXor a (cBytes 8 t) ++ r.getD i [])
    unwrapSteps key n k (b.take 8, r.set i (b.drop 8))

/-- AES key wrap with padding (RFC 5649) of more than 8 bytes. -/
def keyWrap (key m : List Nat) : List Nat :=
  let r := cBlocks 8 (cPad 8 m)
  let (a, r) := wrapSteps key r.length (6 * r.length) 1 ([0xA6, 0x59, 0x59, 0xA6] ++ cBytes 4 m.length, r)
  a ++ r.flatten

/-- Its inverse, where the integrity check passes. -/
def keyUnwrap (key c : List Nat) : Option (List Nat) :=
  let r := cBlocks 8 (c.drop 8)
  let (a, r) := unwrapSteps key r.length (6 * r.length) (c.take 8, r)
  let n := cNat (a.drop 4)
  let m := r.flatten
  if a.take 4 = [0xA6, 0x59, 0x59, 0xA6] ∧ n ≤ m.length ∧ m.length < n + 8 ∧ (m.drop n).all (· == 0) then some (m.take n) else none

/-! ### P-256 (FIPS 186-5) -/

def pP : Nat := 0xffffffff00000001000000000000000000000000ffffffffffffffffffffffff
def pN : Nat := 0xffffffff00000000ffffffffffffffffbce6faada7179e84f3b9cac2fc632551
def pB : Nat := 0x5ac635d8aa3a93e7b3ebbd55769886bc651d06b0cc53b0f63bce3c3e27d2604b
def pG : Nat × Nat :=
  (0x6b17d1f2e12c4247f8bce6e563a440f277037d812deb33a0f4a13945d898c296,
   0x4fe342e2fe1a7f9b8ee7eb4a7c0f9e162bce33576b315ececbb6406837bf51f5)

/-- `a` to the power `e` below 2²⁵⁶, modulo `m`. -/
def powMod (a e m : Nat) : Nat :=
  (List.range 256).foldl (fun p i => let q := p * p % m; if e.testBit (255 - i) then q * a % m else q) 1

def invMod (a m : Nat) : Nat := powMod (a % m) (m - 2) m

/-- The sum of two points; none is the point at infinity. -/
def ecAdd : Option (Nat × Nat) → Option (Nat × Nat) → Option (Nat × Nat)
  | none, q => q
  | p, none => p
  | some (x1, y1), some (x2, y2) =>
    if x1 = x2 ∧ (y1 + y2) % pP = 0 then none
    else
      let l := if x1 = x2 then (3 * x1 * x1 + (pP - 3)) * invMod (2 * y1) pP % pP
        else (y2 + pP - y1) * invMod (x2 + pP - x1) pP % pP
      let x := (l * l + 2 * pP - x1 - x2) % pP
      some (x, (l * (x1 + pP - x) + pP - y1) % pP)

/-- A multiple of a point. -/
def ecMul (k : Nat) (q : Option (Nat × Nat)) : Option (Nat × Nat) :=
  (List.range 256).foldl (fun r i => let d := ecAdd r r; if k.testBit (255 - i) then ecAdd d q else d) none

/-- Whether a point lies on the curve. -/
def onCurve (x y : Nat) : Bool := x < pP && y < pP && y * y % pP == (x * x * x + (pP - 3) * x + pB) % pP

/-- X then Y of the public key of a private key. -/
def publicKey (d : Nat) : List Nat :=
  match ecMul d (some pG) with
  | some (x, y) => cBytes 32 x ++ cBytes 32 y
  | none => List.replicate 64 0

/-- A scalar from 40 bytes (FIPS 186-5 A.2.1). -/
def scalarOf (l : List Nat) : Nat := cNat l % (pN - 1) + 1

/-- Candidates k of RFC 6979, with K and V; `n` bounds the attempts. -/
def signWith (d z : Nat) : Nat → List Nat → List Nat → List Nat
  | 0, _, _ => List.replicate 64 0
  | n + 1, key, v =>
    let v := hmac key v
    let k := cNat v
    let r := (match ecMul k (some pG) with | some (x, _) => x | none => 0) % pN
    let s := invMod k pN * (z + r * d) % pN
    if 0 < k ∧ k < pN ∧ r ≠ 0 ∧ s ≠ 0 then cBytes 32 r ++ cBytes 32 s
    else
      let key := hmac key (v ++ [0])
      signWith d z n key (hmac key v)

/-- ECDSA signature of a digest, r then s, with the deterministic k of RFC 6979. -/
def ecdsaSign (d : Nat) (digest : List Nat) : List Nat :=
  let z := cNat digest
  let x := cBytes 32 d ++ cBytes 32 (z % pN)
  let v := List.replicate 32 1
  let k := hmac (List.replicate 32 0) (v ++ [0] ++ x)
  let v := hmac k v
  let k := hmac k (v ++ [1] ++ x)
  signWith d z 8 k (hmac k v)

/-- Whether a signature over a digest verifies under a public key, X then Y. -/
def ecdsaVerify (pub digest sig : List Nat) : Bool :=
  let x := cNat (pub.take 32)
  let y := cNat (pub.drop 32)
  let r := cNat (sig.take 32)
  let s := cNat (sig.drop 32)
  let w := invMod s pN
  onCurve x y && 0 < r && r < pN && 0 < s && s < pN &&
    (match ecAdd (ecMul (cNat digest * w % pN) (some pG)) (ecMul (r * w % pN) (some (x, y))) with
      | some (a, _) => a % pN == r
      | none => false)

/-- The X coordinate of the shared point; none where the peer's key is no point of the curve. -/
def ecdhX (d : Nat) (pub : List Nat) : Option (List Nat) :=
  let x := cNat (pub.take 32)
  let y := cNat (pub.drop 32)
  if onCurve x y then (ecMul d (some (x, y))).map fun p => cBytes 32 p.1 else none

/-! ### CRC-32 (IEEE 802.3) -/

def crcStep (c : Nat) : Nat := if c % 2 = 0 then c / 2 else (c / 2) ^^^ 0xEDB88320
def crcByte (c b : Nat) : Nat := (List.range 8).foldl (fun c _ => crcStep c) (c ^^^ b)

/-- The CRC-32 of bytes. -/
def crc32 (l : List Nat) : Nat := l.foldl crcByte 0xFFFFFFFF ^^^ 0xFFFFFFFF

/-- Bytes of memory as the numbers used here, and back. -/
def nums (l : List Byte) : List Nat := l.map (·.toNat)
def octets (l : List Nat) : List Byte := l.map (BitVec.ofNat 8)

/-- The keys of the four root slots (R434): from the root secret, the serial number and the state code. -/
def rootKeys (ikm serial : List Nat) (c : Nat) : List (List Nat) :=
  let info (i : Nat) : List Nat := [0x70, 0x6C, 0x79, 0x6E, 0x73, 0x79, 0x6E, 0x2D, 0x72, 0x6F, 0x6F, 0x74, i, c]
  let okm (i n : Nat) : List Nat := hkdf ikm serial (info i) n
  [okm 0 32, okm 1 32, cBytes 32 (scalarOf (okm 2 40)), cBytes 32 (scalarOf (okm 3 40))]

/-- The attributes of the root slots (R434). -/
def rootAttrs : List Nat := [0x22, 0x33, 0x04, 0x34]

end Sys2Proof.Machine
end

