-- ==== Sys2Proof/Machine/Regs.lean ====
section
/-!
DEFINITION. What a register map is: a field's place, its type (R7), its reset value and whether it is stop-only (R11),
and a register family (one register or an array of them). The maps themselves stand in the RegTable files.
-/
namespace Sys2Proof.Machine

/-- The place of a register field: the register's address, the field's lowest bit and its width. -/
structure Fld where
  addr : Nat
  lo : Nat
  w : Nat
  deriving DecidableEq, Repr

/-- The register types of R7. -/
inductive FieldType where
  | rw | ro | wo | w1c | w1s | rc | rl
  deriving DecidableEq, Repr

/-- One field of a register map: name, lowest bit, width, type (R7), reset value, stop-only (R11). -/
structure FieldD where
  name : String
  lo : Nat
  w : Nat
  ty : FieldType
  reset : Nat
  stop : Bool
  deriving DecidableEq, Repr

/-- A register family: name, offset in its block, number of registers, distance between them, fields. -/
structure RegD where
  name : String
  off : Nat
  count : Nat
  stride : Nat
  fields : List FieldD
  deriving DecidableEq, Repr

/-- A field row of a register map. -/
def fd (name : String) (lo w : Nat) (ty : FieldType) (reset : Nat) (stop : Bool) : FieldD :=
  ⟨name, lo, w, ty, reset, stop⟩

/-- A register row of a register map. -/
def reg (name : String) (off count stride : Nat) (fields : List FieldD) : RegD :=
  ⟨name, off, count, stride, fields⟩

/-- Whether the family has a register at the block offset `off`. -/
def RegD.holds (r : RegD) (off : Nat) : Bool :=
  if r.stride = 0 then off == r.off
  else r.off ≤ off && (off - r.off) % r.stride == 0 && (off - r.off) / r.stride < r.count

/-- The ones of a field, in place. -/
def fieldMask (lo w : Nat) : Word := BitVec.ofNat 32 ((2 ^ w - 1) * 2 ^ lo)

/-- The bits of a word that lie in a field. -/
def fieldOf (x : Word) (lo w : Nat) : Nat := natBits x.toNat lo w

/-- A word with the field `lo`, `w` replaced by the low bits of `v`. -/
def withField (x : Word) (lo w v : Nat) : Word :=
  (x &&& ~~~ fieldMask lo w) ||| (BitVec.ofNat 32 (v * 2 ^ lo) &&& fieldMask lo w)

/-- The reset value of a register, from its fields. -/
def RegD.resetWord (r : RegD) : Word :=
  r.fields.foldl (fun x f => withField x f.lo f.w f.reset) 0

/-- The bits of a register that belong to some field; the others are reserved (R8). -/
def RegD.mask (r : RegD) : Word :=
  r.fields.foldl (fun x f => x ||| fieldMask f.lo f.w) 0

end Sys2Proof.Machine
end

