-- ==== Sys2Proof/Machine/RegTableLink.lean ====
section
/-!
DEFINITION. The register maps of RAD, ETHA/ETHB, ETHA, TSU, CAN, written from the register tables of spec/:
the address `A.<REGISTER>` of each register (a function of its index where it is an array, and of the port for
ETHA and ETHB), the place `F.<REGISTER>_<FIELD>` of each field, and per block the list of its register families.
-/
namespace Sys2Proof.Machine
/-! ## RAD (spec/08_mesh_radio.md) -/
def A.RAD_CTRL : Nat := 0x40080000
def F.RAD_CTRL_RUN : Fld := ⟨A.RAD_CTRL, 0, 1⟩
def F.RAD_CTRL_ROLE : Fld := ⟨A.RAD_CTRL, 1, 1⟩
def F.RAD_CTRL_RADIO_EN : Fld := ⟨A.RAD_CTRL, 2, 3⟩
def A.RAD_STAT : Nat := 0x40080004
def F.RAD_STAT_SYNCED : Fld := ⟨A.RAD_STAT, 0, 1⟩
def F.RAD_STAT_SCANNING : Fld := ⟨A.RAD_STAT, 1, 1⟩
def F.RAD_STAT_SWITCHPEND : Fld := ⟨A.RAD_STAT, 2, 1⟩
def F.RAD_STAT_BANK : Fld := ⟨A.RAD_STAT, 3, 1⟩
def F.RAD_STAT_FCWAIT : Fld := ⟨A.RAD_STAT, 4, 1⟩
def F.RAD_STAT_CALBUSY : Fld := ⟨A.RAD_STAT, 5, 1⟩
def A.RAD_ERR : Nat := 0x40080008
def F.RAD_ERR_STOPONLY : Fld := ⟨A.RAD_ERR, 0, 1⟩
def F.RAD_ERR_CONFIG : Fld := ⟨A.RAD_ERR, 1, 1⟩
def F.RAD_ERR_TXBUS : Fld := ⟨A.RAD_ERR, 2, 1⟩
def F.RAD_ERR_RXBUS : Fld := ⟨A.RAD_ERR, 3, 1⟩
def F.RAD_ERR_CEIL : Fld := ⟨A.RAD_ERR, 4, 1⟩
def F.RAD_ERR_CFG_CAUSE : Fld := ⟨A.RAD_ERR, 8, 4⟩
def F.RAD_ERR_CFG_INDEX : Fld := ⟨A.RAD_ERR, 16, 16⟩
def A.RAD_PHY : Nat := 0x4008000c
def F.RAD_PHY_BAND : Fld := ⟨A.RAD_PHY, 0, 1⟩
def F.RAD_PHY_RATE : Fld := ⟨A.RAD_PHY, 1, 2⟩
def F.RAD_PHY_FCS4 : Fld := ⟨A.RAD_PHY, 3, 1⟩
def F.RAD_PHY_WHITEN : Fld := ⟨A.RAD_PHY, 4, 1⟩
def F.RAD_PHY_SEP : Fld := ⟨A.RAD_PHY, 12, 4⟩
def F.RAD_PHY_MAXPSDU : Fld := ⟨A.RAD_PHY, 16, 11⟩
def A.RAD_TMPL_A : Nat := 0x40080010
def F.RAD_TMPL_A_SLOT : Fld := ⟨A.RAD_TMPL_A, 0, 16⟩
def F.RAD_TMPL_A_TXOFF : Fld := ⟨A.RAD_TMPL_A, 16, 16⟩
def A.RAD_TMPL_B : Nat := 0x40080014
def F.RAD_TMPL_B_RXWAIT : Fld := ⟨A.RAD_TMPL_B, 0, 16⟩
def F.RAD_TMPL_B_ACKDELAY : Fld := ⟨A.RAD_TMPL_B, 16, 16⟩
def A.RAD_TMPL_C : Nat := 0x40080018
def F.RAD_TMPL_C_ACKWAIT : Fld := ⟨A.RAD_TMPL_C, 0, 16⟩
def F.RAD_TMPL_C_PREP : Fld := ⟨A.RAD_TMPL_C, 16, 16⟩
def A.RAD_ASN_EPOCH_LO : Nat := 0x4008001c
def F.RAD_ASN_EPOCH_LO_VALUE : Fld := ⟨A.RAD_ASN_EPOCH_LO, 0, 32⟩
def A.RAD_ASN_EPOCH_HI : Nat := 0x40080020
def F.RAD_ASN_EPOCH_HI_VALUE : Fld := ⟨A.RAD_ASN_EPOCH_HI, 0, 32⟩
def A.RAD_ASN_LO : Nat := 0x40080024
def F.RAD_ASN_LO_VALUE : Fld := ⟨A.RAD_ASN_LO, 0, 32⟩
def A.RAD_ASN_HI : Nat := 0x40080028
def F.RAD_ASN_HI_VALUE : Fld := ⟨A.RAD_ASN_HI, 0, 8⟩
def A.RAD_SCHED_BASE0 : Nat := 0x4008002c
def F.RAD_SCHED_BASE0_ADDR : Fld := ⟨A.RAD_SCHED_BASE0, 0, 32⟩
def A.RAD_SCHED_BASE1 : Nat := 0x40080030
def F.RAD_SCHED_BASE1_ADDR : Fld := ⟨A.RAD_SCHED_BASE1, 0, 32⟩
def A.RAD_SCHED_BANK : Nat := 0x40080034
def F.RAD_SCHED_BANK_NEXT : Fld := ⟨A.RAD_SCHED_BANK, 0, 1⟩
def A.RAD_RILLS : Nat := 0x40080038
def F.RAD_RILLS_TXREQ : Fld := ⟨A.RAD_RILLS, 0, 6⟩
def F.RAD_RILLS_TXDONE : Fld := ⟨A.RAD_RILLS, 8, 6⟩
def F.RAD_RILLS_RXFREE : Fld := ⟨A.RAD_RILLS, 16, 6⟩
def F.RAD_RILLS_EVT : Fld := ⟨A.RAD_RILLS, 24, 6⟩
def A.RAD_RXBUF_BASE : Nat := 0x4008003c
def F.RAD_RXBUF_BASE_ADDR : Fld := ⟨A.RAD_RXBUF_BASE, 0, 32⟩
def A.RAD_RXBUF_CNT : Nat := 0x40080040
def F.RAD_RXBUF_CNT_COUNT : Fld := ⟨A.RAD_RXBUF_CNT, 0, 13⟩
def A.RAD_PAN : Nat := 0x40080044
def F.RAD_PAN_PANID : Fld := ⟨A.RAD_PAN, 0, 16⟩
def F.RAD_PAN_SHORT : Fld := ⟨A.RAD_PAN, 16, 16⟩
def A.RAD_EXT_LO : Nat := 0x40080048
def F.RAD_EXT_LO_VALUE : Fld := ⟨A.RAD_EXT_LO, 0, 32⟩
def A.RAD_EXT_HI : Nat := 0x4008004c
def F.RAD_EXT_HI_VALUE : Fld := ⟨A.RAD_EXT_HI, 0, 32⟩
def A.RAD_RX_CFG : Nat := 0x40080050
def F.RAD_RX_CFG_DEFRILL : Fld := ⟨A.RAD_RX_CFG, 0, 6⟩
def F.RAD_RX_CFG_FLT_RILL : Fld := ⟨A.RAD_RX_CFG, 8, 6⟩
def A.RAD_DRIFT : Nat := 0x40080054
def F.RAD_DRIFT_SHIFT : Fld := ⟨A.RAD_DRIFT, 0, 4⟩
def F.RAD_DRIFT_FLOOR : Fld := ⟨A.RAD_DRIFT, 8, 24⟩
def A.RAD_GUARD : Nat := 0x40080058
def F.RAD_GUARD_BASE : Fld := ⟨A.RAD_GUARD, 0, 16⟩
def A.RAD_SYNC : Nat := 0x4008005c
def F.RAD_SYNC_PARENT : Fld := ⟨A.RAD_SYNC, 0, 10⟩
def F.RAD_SYNC_MISS : Fld := ⟨A.RAD_SYNC, 16, 8⟩
def A.RAD_SCAN : Nat := 0x40080060
def F.RAD_SCAN_DWELL : Fld := ⟨A.RAD_SCAN, 0, 16⟩
def A.RAD_EB : Nat := 0x40080064
def F.RAD_EB_EN : Fld := ⟨A.RAD_EB, 0, 1⟩
def F.RAD_EB_KEY : Fld := ⟨A.RAD_EB, 1, 3⟩
def F.RAD_EB_SECURE : Fld := ⟨A.RAD_EB, 4, 1⟩
def F.RAD_EB_LEN : Fld := ⟨A.RAD_EB, 16, 11⟩
def A.RAD_EB_TPL : Nat := 0x40080068
def F.RAD_EB_TPL_ADDR : Fld := ⟨A.RAD_EB_TPL, 0, 32⟩
def A.RAD_SLEEPY : Nat := 0x4008006c
def F.RAD_SLEEPY_HOLD : Fld := ⟨A.RAD_SLEEPY, 0, 16⟩
def F.RAD_SLEEPY_MAXAGE : Fld := ⟨A.RAD_SLEEPY, 16, 16⟩
def A.RAD_BACKOFF : Nat := 0x40080070
def F.RAD_BACKOFF_MINBE : Fld := ⟨A.RAD_BACKOFF, 0, 4⟩
def F.RAD_BACKOFF_MAXBE : Fld := ⟨A.RAD_BACKOFF, 4, 4⟩
def A.RAD_CAL : Nat := 0x40080074
def F.RAD_CAL_RADIO : Fld := ⟨A.RAD_CAL, 0, 2⟩
def F.RAD_CAL_GO : Fld := ⟨A.RAD_CAL, 2, 1⟩
def A.RAD_KEY_CMD : Nat := 0x40080078
def F.RAD_KEY_CMD_KEY : Fld := ⟨A.RAD_KEY_CMD, 0, 3⟩
def F.RAD_KEY_CMD_NEWKEY : Fld := ⟨A.RAD_KEY_CMD, 3, 1⟩
def A.RAD_NBR_SEL : Nat := 0x40080080
def F.RAD_NBR_SEL_INDEX : Fld := ⟨A.RAD_NBR_SEL, 0, 9⟩
def A.RAD_NBR_CMD : Nat := 0x40080084
def F.RAD_NBR_CMD_CMD : Fld := ⟨A.RAD_NBR_CMD, 0, 3⟩
def A.RAD_NBR_D (n : Nat) : Nat := 0x400800c0 + 0x4 * n
def F.RAD_NBR_D_DATA (n : Nat) : Fld := ⟨A.RAD_NBR_D n, 0, 32⟩
def A.RAD_KEY_CFG (n : Nat) : Nat := 0x40080200 + 0x20 * n
def F.RAD_KEY_CFG_VALID (n : Nat) : Fld := ⟨A.RAD_KEY_CFG n, 0, 1⟩
def F.RAD_KEY_CFG_IDMODE (n : Nat) : Fld := ⟨A.RAD_KEY_CFG n, 1, 2⟩
def F.RAD_KEY_CFG_LOW (n : Nat) : Fld := ⟨A.RAD_KEY_CFG n, 4, 4⟩
def F.RAD_KEY_CFG_INDEX (n : Nat) : Fld := ⟨A.RAD_KEY_CFG n, 8, 8⟩
def F.RAD_KEY_CFG_ENC_SLOT (n : Nat) : Fld := ⟨A.RAD_KEY_CFG n, 16, 8⟩
def F.RAD_KEY_CFG_DEC_SLOT (n : Nat) : Fld := ⟨A.RAD_KEY_CFG n, 24, 8⟩
def A.RAD_KEY_SRC (n : Nat) : Nat := 0x40080204 + 0x20 * n
def F.RAD_KEY_SRC_SOURCE (n : Nat) : Fld := ⟨A.RAD_KEY_SRC n, 0, 32⟩
def A.RAD_KEY_FC (n : Nat) : Nat := 0x40080208 + 0x20 * n
def F.RAD_KEY_FC_VALUE (n : Nat) : Fld := ⟨A.RAD_KEY_FC n, 0, 32⟩
def A.RAD_KEY_CEIL (n : Nat) : Nat := 0x4008020c + 0x20 * n
def F.RAD_KEY_CEIL_VALUE (n : Nat) : Fld := ⟨A.RAD_KEY_CEIL n, 0, 32⟩
def A.RAD_KEY_NEXT_BASE (n : Nat) : Nat := 0x40080210 + 0x20 * n
def F.RAD_KEY_NEXT_BASE_VALUE (n : Nat) : Fld := ⟨A.RAD_KEY_NEXT_BASE n, 0, 32⟩
def A.RAD_KEY_NEXT_CEIL (n : Nat) : Nat := 0x40080214 + 0x20 * n
def F.RAD_KEY_NEXT_CEIL_VALUE (n : Nat) : Fld := ⟨A.RAD_KEY_NEXT_CEIL n, 0, 32⟩
def A.RAD_CLASS (n : Nat) : Nat := 0x40080300 + 0x4 * n
def F.RAD_CLASS_VALUE (n : Nat) : Fld := ⟨A.RAD_CLASS n, 0, 8⟩
def F.RAD_CLASS_MASK (n : Nat) : Fld := ⟨A.RAD_CLASS n, 8, 8⟩
def F.RAD_CLASS_FTYPE (n : Nat) : Fld := ⟨A.RAD_CLASS n, 16, 2⟩
def F.RAD_CLASS_SECREQ (n : Nat) : Fld := ⟨A.RAD_CLASS n, 18, 1⟩
def F.RAD_CLASS_FAULT (n : Nat) : Fld := ⟨A.RAD_CLASS n, 19, 1⟩
def F.RAD_CLASS_EN (n : Nat) : Fld := ⟨A.RAD_CLASS n, 20, 1⟩
def F.RAD_CLASS_RILL (n : Nat) : Fld := ⟨A.RAD_CLASS n, 22, 6⟩
def A.RAD_RX_OK : Nat := 0x40080100
def F.RAD_RX_OK_COUNT : Fld := ⟨A.RAD_RX_OK, 0, 32⟩
def A.RAD_TX_OK : Nat := 0x40080104
def F.RAD_TX_OK_COUNT : Fld := ⟨A.RAD_TX_OK, 0, 32⟩
def A.RAD_TX_NOACK : Nat := 0x40080108
def F.RAD_TX_NOACK_COUNT : Fld := ⟨A.RAD_TX_NOACK, 0, 32⟩
def A.RAD_STAT_DUPS : Nat := 0x4008010c
def F.RAD_STAT_DUPS_COUNT : Fld := ⟨A.RAD_STAT_DUPS, 0, 32⟩
def A.RAD_RX_REPLAY : Nat := 0x40080110
def F.RAD_RX_REPLAY_COUNT : Fld := ⟨A.RAD_RX_REPLAY, 0, 32⟩
def A.RAD_RX_SECERR : Nat := 0x40080114
def F.RAD_RX_SECERR_COUNT : Fld := ⟨A.RAD_RX_SECERR, 0, 32⟩
def A.RAD_RX_UNKNOWN : Nat := 0x40080118
def F.RAD_RX_UNKNOWN_COUNT : Fld := ⟨A.RAD_RX_UNKNOWN, 0, 32⟩
def A.RAD_RX_FMT : Nat := 0x4008011c
def F.RAD_RX_FMT_COUNT : Fld := ⟨A.RAD_RX_FMT, 0, 32⟩
def A.RAD_RX_FCS : Nat := 0x40080120
def F.RAD_RX_FCS_COUNT : Fld := ⟨A.RAD_RX_FCS, 0, 32⟩
def A.RAD_RX_NOBUF : Nat := 0x40080124
def F.RAD_RX_NOBUF_COUNT : Fld := ⟨A.RAD_RX_NOBUF, 0, 32⟩
def A.RAD_RX_RILLFULL : Nat := 0x40080128
def F.RAD_RX_RILLFULL_COUNT : Fld := ⟨A.RAD_RX_RILLFULL, 0, 32⟩
def A.RAD_LATE : Nat := 0x4008012c
def F.RAD_LATE_COUNT : Fld := ⟨A.RAD_LATE, 0, 32⟩
def A.RAD_DUAL_CLASH : Nat := 0x40080130
def F.RAD_DUAL_CLASH_COUNT : Fld := ⟨A.RAD_DUAL_CLASH, 0, 32⟩
def A.RAD_GUARD_CAP : Nat := 0x40080134
def F.RAD_GUARD_CAP_COUNT : Fld := ⟨A.RAD_GUARD_CAP, 0, 32⟩
def A.RAD_FC_STALL : Nat := 0x40080138
def F.RAD_FC_STALL_COUNT : Fld := ⟨A.RAD_FC_STALL, 0, 32⟩
def A.RAD_FLT_LOST : Nat := 0x4008013c
def F.RAD_FLT_LOST_COUNT : Fld := ⟨A.RAD_FLT_LOST, 0, 32⟩
def A.RAD_EVT_LOST : Nat := 0x40080140
def F.RAD_EVT_LOST_COUNT : Fld := ⟨A.RAD_EVT_LOST, 0, 32⟩
def A.RAD_CAL_SKIP : Nat := 0x40080144
def F.RAD_CAL_SKIP_COUNT : Fld := ⟨A.RAD_CAL_SKIP, 0, 32⟩
def regs_rad_0 : List RegD := [
  reg "RAD_CTRL" 0x0 1 0x0 [fd "RUN" 0 1 .rw 0 false, fd "ROLE" 1 1 .rw 0 true, fd "RADIO_EN" 2 3 .rw 0 true],
  reg "RAD_STAT" 0x4 1 0x0 [fd "SYNCED" 0 1 .ro 0 false, fd "SCANNING" 1 1 .ro 0 false, fd "SWITCHPEND" 2 1 .ro 0 false, fd "BANK" 3 1 .ro 0 false, fd "FCWAIT" 4 1 .ro 0 false, fd "CALBUSY" 5 1 .ro 0 false],
  reg "RAD_ERR" 0x8 1 0x0 [fd "STOPONLY" 0 1 .w1c 0 false, fd "CONFIG" 1 1 .w1c 0 false, fd "TXBUS" 2 1 .w1c 0 false, fd "RXBUS" 3 1 .w1c 0 false, fd "CEIL" 4 1 .w1c 0 false, fd "CFG_CAUSE" 8 4 .ro 0 false, fd "CFG_INDEX" 16 16 .ro 0 false],
  reg "RAD_PHY" 0xc 1 0x0 [fd "BAND" 0 1 .ro 0 false, fd "RATE" 1 2 .rw 1 true, fd "FCS4" 3 1 .rw 1 true, fd "WHITEN" 4 1 .rw 1 true, fd "SEP" 12 4 .rw 2 true, fd "MAXPSDU" 16 11 .rw 0x7f true],
  reg "RAD_TMPL_A" 0x10 1 0x0 [fd "SLOT" 0 16 .rw 0x4e20 true, fd "TXOFF" 16 16 .rw 0x848 true],
  reg "RAD_TMPL_B" 0x14 1 0x0 [fd "RXWAIT" 0 16 .rw 0x898 true, fd "ACKDELAY" 16 16 .rw 0x3e8 true],
  reg "RAD_TMPL_C" 0x18 1 0x0 [fd "ACKWAIT" 0 16 .rw 0x190 true, fd "PREP" 16 16 .rw 0xc8 true],
  reg "RAD_ASN_EPOCH_LO" 0x1c 1 0x0 [fd "VALUE" 0 32 .rw 0 true],
  reg "RAD_ASN_EPOCH_HI" 0x20 1 0x0 [fd "VALUE" 0 32 .rw 0 true],
  reg "RAD_ASN_LO" 0x24 1 0x0 [fd "VALUE" 0 32 .rl 0 false],
  reg "RAD_ASN_HI" 0x28 1 0x0 [fd "VALUE" 0 8 .ro 0 false],
  reg "RAD_SCHED_BASE0" 0x2c 1 0x0 [fd "ADDR" 0 32 .rw 0 false]]
def regs_rad_1 : List RegD := [
  reg "RAD_SCHED_BASE1" 0x30 1 0x0 [fd "ADDR" 0 32 .rw 0 false],
  reg "RAD_SCHED_BANK" 0x34 1 0x0 [fd "NEXT" 0 1 .rw 0 false],
  reg "RAD_RILLS" 0x38 1 0x0 [fd "TXREQ" 0 6 .rw 0 true, fd "TXDONE" 8 6 .rw 0 true, fd "RXFREE" 16 6 .rw 0 true, fd "EVT" 24 6 .rw 0 true],
  reg "RAD_RXBUF_BASE" 0x3c 1 0x0 [fd "ADDR" 0 32 .rw 0 true],
  reg "RAD_RXBUF_CNT" 0x40 1 0x0 [fd "COUNT" 0 13 .rw 0 true],
  reg "RAD_PAN" 0x44 1 0x0 [fd "PANID" 0 16 .rw 0xffff true, fd "SHORT" 16 16 .rw 0xfffe true],
  reg "RAD_EXT_LO" 0x48 1 0x0 [fd "VALUE" 0 32 .rw 0 true],
  reg "RAD_EXT_HI" 0x4c 1 0x0 [fd "VALUE" 0 32 .rw 0 true],
  reg "RAD_RX_CFG" 0x50 1 0x0 [fd "DEFRILL" 0 6 .rw 0 true, fd "FLT_RILL" 8 6 .rw 0 true],
  reg "RAD_DRIFT" 0x54 1 0x0 [fd "SHIFT" 0 4 .rw 2 true, fd "FLOOR" 8 24 .rw 0x2710 true],
  reg "RAD_GUARD" 0x58 1 0x0 [fd "BASE" 0 16 .rw 0xc8 true],
  reg "RAD_SYNC" 0x5c 1 0x0 [fd "PARENT" 0 10 .rw 0x3ff false, fd "MISS" 16 8 .ro 0 false]]
def regs_rad_2 : List RegD := [
  reg "RAD_SCAN" 0x60 1 0x0 [fd "DWELL" 0 16 .rw 0x3e8 true],
  reg "RAD_EB" 0x64 1 0x0 [fd "EN" 0 1 .rw 0 true, fd "KEY" 1 3 .rw 0 true, fd "SECURE" 4 1 .rw 0 true, fd "LEN" 16 11 .rw 0 true],
  reg "RAD_EB_TPL" 0x68 1 0x0 [fd "ADDR" 0 32 .rw 0 true],
  reg "RAD_SLEEPY" 0x6c 1 0x0 [fd "HOLD" 0 16 .rw 0xc8 true, fd "MAXAGE" 16 16 .rw 0x258 true],
  reg "RAD_BACKOFF" 0x70 1 0x0 [fd "MINBE" 0 4 .rw 1 true, fd "MAXBE" 4 4 .rw 5 true],
  reg "RAD_CAL" 0x74 1 0x0 [fd "RADIO" 0 2 .rw 0 false, fd "GO" 2 1 .wo 0 false],
  reg "RAD_KEY_CMD" 0x78 1 0x0 [fd "KEY" 0 3 .wo 0 false, fd "NEWKEY" 3 1 .wo 0 false],
  reg "RAD_NBR_SEL" 0x80 1 0x0 [fd "INDEX" 0 9 .rw 0 false],
  reg "RAD_NBR_CMD" 0x84 1 0x0 [fd "CMD" 0 3 .wo 0 false],
  reg "RAD_NBR_Dw" 0xc0 16 0x4 [fd "DATA" 0 32 .rw 0 false],
  reg "RAD_KEYk_CFG" 0x200 8 0x20 [fd "VALID" 0 1 .rw 0 true, fd "IDMODE" 1 2 .rw 1 true, fd "LOW" 4 4 .rw 4 true, fd "INDEX" 8 8 .rw 0 true, fd "ENC_SLOT" 16 8 .rw 0 true, fd "DEC_SLOT" 24 8 .rw 0 true],
  reg "RAD_KEYk_SRC" 0x204 8 0x20 [fd "SOURCE" 0 32 .rw 0 true]]
def regs_rad_3 : List RegD := [
  reg "RAD_KEYk_FC" 0x208 8 0x20 [fd "VALUE" 0 32 .rw 0 true],
  reg "RAD_KEYk_CEIL" 0x20c 8 0x20 [fd "VALUE" 0 32 .rw 0 true],
  reg "RAD_KEYk_NEXT_BASE" 0x210 8 0x20 [fd "VALUE" 0 32 .rw 0 false],
  reg "RAD_KEYk_NEXT_CEIL" 0x214 8 0x20 [fd "VALUE" 0 32 .rw 0 false],
  reg "RAD_CLASSc" 0x300 8 0x4 [fd "VALUE" 0 8 .rw 0 true, fd "MASK" 8 8 .rw 0 true, fd "FTYPE" 16 2 .rw 0 true, fd "SECREQ" 18 1 .rw 0 true, fd "FAULT" 19 1 .rw 0 true, fd "EN" 20 1 .rw 0 true, fd "RILL" 22 6 .rw 0 true],
  reg "RAD_RX_OK" 0x100 1 0x0 [fd "COUNT" 0 32 .rc 0 false],
  reg "RAD_TX_OK" 0x104 1 0x0 [fd "COUNT" 0 32 .rc 0 false],
  reg "RAD_TX_NOACK" 0x108 1 0x0 [fd "COUNT" 0 32 .rc 0 false],
  reg "RAD_STAT_DUPS" 0x10c 1 0x0 [fd "COUNT" 0 32 .rc 0 false],
  reg "RAD_RX_REPLAY" 0x110 1 0x0 [fd "COUNT" 0 32 .rc 0 false],
  reg "RAD_RX_SECERR" 0x114 1 0x0 [fd "COUNT" 0 32 .rc 0 false],
  reg "RAD_RX_UNKNOWN" 0x118 1 0x0 [fd "COUNT" 0 32 .rc 0 false]]
def regs_rad_4 : List RegD := [
  reg "RAD_RX_FMT" 0x11c 1 0x0 [fd "COUNT" 0 32 .rc 0 false],
  reg "RAD_RX_FCS" 0x120 1 0x0 [fd "COUNT" 0 32 .rc 0 false],
  reg "RAD_RX_NOBUF" 0x124 1 0x0 [fd "COUNT" 0 32 .rc 0 false],
  reg "RAD_RX_RILLFULL" 0x128 1 0x0 [fd "COUNT" 0 32 .rc 0 false],
  reg "RAD_LATE" 0x12c 1 0x0 [fd "COUNT" 0 32 .rc 0 false],
  reg "RAD_DUAL_CLASH" 0x130 1 0x0 [fd "COUNT" 0 32 .rc 0 false],
  reg "RAD_GUARD_CAP" 0x134 1 0x0 [fd "COUNT" 0 32 .rc 0 false],
  reg "RAD_FC_STALL" 0x138 1 0x0 [fd "COUNT" 0 32 .rc 0 false],
  reg "RAD_FLT_LOST" 0x13c 1 0x0 [fd "COUNT" 0 32 .rc 0 false],
  reg "RAD_EVT_LOST" 0x140 1 0x0 [fd "COUNT" 0 32 .rc 0 false],
  reg "RAD_CAL_SKIP" 0x144 1 0x0 [fd "COUNT" 0 32 .rc 0 false]]
/-- The registers of RAD. -/
def regs_rad : List RegD := regs_rad_0 ++ regs_rad_1 ++ regs_rad_2 ++ regs_rad_3 ++ regs_rad_4
/-! ## ETHx (spec/09_ethernet_time.md) -/
def A.ETH_CTRL (x : Nat) : Nat := 0x40090000 + 0x10000 * x + 0x0
def F.ETH_CTRL_RUN (x : Nat) : Fld := ⟨A.ETH_CTRL x, 0, 1⟩
def A.ETH_STAT (x : Nat) : Nat := 0x40090000 + 0x10000 * x + 0x4
def F.ETH_STAT_LINK (x : Nat) : Fld := ⟨A.ETH_STAT x, 0, 1⟩
def F.ETH_STAT_SPEED (x : Nat) : Fld := ⟨A.ETH_STAT x, 1, 2⟩
def F.ETH_STAT_PAUSED (x : Nat) : Fld := ⟨A.ETH_STAT x, 3, 1⟩
def A.ETH_ERR (x : Nat) : Nat := 0x40090000 + 0x10000 * x + 0x8
def F.ETH_ERR_STOPONLY (x : Nat) : Fld := ⟨A.ETH_ERR x, 0, 1⟩
def F.ETH_ERR_CONFIG (x : Nat) : Fld := ⟨A.ETH_ERR x, 1, 1⟩
def F.ETH_ERR_RXBUS (x : Nat) : Fld := ⟨A.ETH_ERR x, 2, 1⟩
def F.ETH_ERR_TXBUS (x : Nat) : Fld := ⟨A.ETH_ERR x, 3, 1⟩
def F.ETH_ERR_CFG_CAUSE (x : Nat) : Fld := ⟨A.ETH_ERR x, 8, 8⟩
def A.ETH_CFG (x : Nat) : Nat := 0x40090000 + 0x10000 * x + 0xc
def F.ETH_CFG_IF (x : Nat) : Fld := ⟨A.ETH_CFG x, 0, 2⟩
def F.ETH_CFG_STRIP (x : Nat) : Fld := ⟨A.ETH_CFG x, 2, 1⟩
def F.ETH_CFG_ALLMC (x : Nat) : Fld := ⟨A.ETH_CFG x, 3, 1⟩
def F.ETH_CFG_MAXLEN (x : Nat) : Fld := ⟨A.ETH_CFG x, 16, 14⟩
def A.ETH_MAC_LO (x : Nat) : Nat := 0x40090000 + 0x10000 * x + 0x10
def F.ETH_MAC_LO_ADDR (x : Nat) : Fld := ⟨A.ETH_MAC_LO x, 0, 32⟩
def A.ETH_MAC_HI (x : Nat) : Nat := 0x40090000 + 0x10000 * x + 0x14
def F.ETH_MAC_HI_ADDR (x : Nat) : Fld := ⟨A.ETH_MAC_HI x, 0, 16⟩
def A.ETH_TSLAT (x : Nat) : Nat := 0x40090000 + 0x10000 * x + 0x18
def F.ETH_TSLAT_RX (x : Nat) : Fld := ⟨A.ETH_TSLAT x, 0, 16⟩
def F.ETH_TSLAT_TX (x : Nat) : Fld := ⟨A.ETH_TSLAT x, 16, 16⟩
def A.ETH_TXORD (x : Nat) : Nat := 0x40090000 + 0x10000 * x + 0x1c
def F.ETH_TXORD_BRPOS (x : Nat) : Fld := ⟨A.ETH_TXORD x, 0, 3⟩
def A.ETH_PTPQ (x : Nat) : Nat := 0x40090000 + 0x10000 * x + 0x20
def F.ETH_PTPQ_QUEUE (x : Nat) : Fld := ⟨A.ETH_PTPQ x, 0, 3⟩
def F.ETH_PTPQ_EN (x : Nat) : Fld := ⟨A.ETH_PTPQ x, 8, 1⟩
def A.ETH_MC_SEL (x : Nat) : Nat := 0x40090000 + 0x10000 * x + 0x24
def F.ETH_MC_SEL_INDEX (x : Nat) : Fld := ⟨A.ETH_MC_SEL x, 0, 10⟩
def A.ETH_MC_DATA (x : Nat) : Nat := 0x40090000 + 0x10000 * x + 0x28
def F.ETH_MC_DATA_GROUP (x : Nat) : Fld := ⟨A.ETH_MC_DATA x, 0, 32⟩
def A.ETH_RQ_BASE (x : Nat) (n : Nat) : Nat := 0x40090000 + 0x10000 * x + 0x40 + 0x8 * n
def F.ETH_RQ_BASE_ADDR (x : Nat) (n : Nat) : Fld := ⟨A.ETH_RQ_BASE x n, 0, 32⟩
def A.ETH_RQ_CFG (x : Nat) (n : Nat) : Nat := 0x40090000 + 0x10000 * x + 0x44 + 0x8 * n
def F.ETH_RQ_CFG_COUNT (x : Nat) (n : Nat) : Fld := ⟨A.ETH_RQ_CFG x n, 0, 13⟩
def F.ETH_RQ_CFG_BIG (x : Nat) (n : Nat) : Fld := ⟨A.ETH_RQ_CFG x n, 13, 1⟩
def F.ETH_RQ_CFG_FREE (x : Nat) (n : Nat) : Fld := ⟨A.ETH_RQ_CFG x n, 16, 6⟩
def F.ETH_RQ_CFG_DONE (x : Nat) (n : Nat) : Fld := ⟨A.ETH_RQ_CFG x n, 24, 6⟩
def F.ETH_RQ_CFG_EN (x : Nat) (n : Nat) : Fld := ⟨A.ETH_RQ_CFG x n, 31, 1⟩
def A.ETH_TQ_CFG (x : Nat) (n : Nat) : Nat := 0x40090000 + 0x10000 * x + 0x80 + 0x4 * n
def F.ETH_TQ_CFG_REQ (x : Nat) (n : Nat) : Fld := ⟨A.ETH_TQ_CFG x n, 0, 6⟩
def F.ETH_TQ_CFG_DONE (x : Nat) (n : Nat) : Fld := ⟨A.ETH_TQ_CFG x n, 8, 6⟩
def F.ETH_TQ_CFG_EN (x : Nat) (n : Nat) : Fld := ⟨A.ETH_TQ_CFG x n, 16, 1⟩
def A.ETH_RULE_A (x : Nat) (n : Nat) : Nat := 0x40090000 + 0x10000 * x + 0x100 + 0x10 * n
def F.ETH_RULE_A_EN (x : Nat) (n : Nat) : Fld := ⟨A.ETH_RULE_A x n, 0, 1⟩
def F.ETH_RULE_A_M_ETYPE (x : Nat) (n : Nat) : Fld := ⟨A.ETH_RULE_A x n, 1, 1⟩
def F.ETH_RULE_A_M_IPDST (x : Nat) (n : Nat) : Fld := ⟨A.ETH_RULE_A x n, 2, 1⟩
def F.ETH_RULE_A_M_UDP (x : Nat) (n : Nat) : Fld := ⟨A.ETH_RULE_A x n, 3, 1⟩
def F.ETH_RULE_A_M_VID (x : Nat) (n : Nat) : Fld := ⟨A.ETH_RULE_A x n, 4, 1⟩
def F.ETH_RULE_A_QUEUE (x : Nat) (n : Nat) : Fld := ⟨A.ETH_RULE_A x n, 8, 3⟩
def F.ETH_RULE_A_ETYPE (x : Nat) (n : Nat) : Fld := ⟨A.ETH_RULE_A x n, 16, 16⟩
def A.ETH_RULE_B (x : Nat) (n : Nat) : Nat := 0x40090000 + 0x10000 * x + 0x104 + 0x10 * n
def F.ETH_RULE_B_IPDST (x : Nat) (n : Nat) : Fld := ⟨A.ETH_RULE_B x n, 0, 32⟩
def A.ETH_RULE_C (x : Nat) (n : Nat) : Nat := 0x40090000 + 0x10000 * x + 0x108 + 0x10 * n
def F.ETH_RULE_C_UDP (x : Nat) (n : Nat) : Fld := ⟨A.ETH_RULE_C x n, 0, 16⟩
def F.ETH_RULE_C_VID (x : Nat) (n : Nat) : Fld := ⟨A.ETH_RULE_C x n, 16, 12⟩
def A.ETH_RX_FRAMES (x : Nat) : Nat := 0x40090000 + 0x10000 * x + 0x200
def F.ETH_RX_FRAMES_COUNT (x : Nat) : Fld := ⟨A.ETH_RX_FRAMES x, 0, 32⟩
def A.ETH_RX_FCS (x : Nat) : Nat := 0x40090000 + 0x10000 * x + 0x204
def F.ETH_RX_FCS_COUNT (x : Nat) : Fld := ⟨A.ETH_RX_FCS x, 0, 32⟩
def A.ETH_RX_RUNT (x : Nat) : Nat := 0x40090000 + 0x10000 * x + 0x208
def F.ETH_RX_RUNT_COUNT (x : Nat) : Fld := ⟨A.ETH_RX_RUNT x, 0, 32⟩
def A.ETH_RX_TOOLONG (x : Nat) : Nat := 0x40090000 + 0x10000 * x + 0x20c
def F.ETH_RX_TOOLONG_COUNT (x : Nat) : Fld := ⟨A.ETH_RX_TOOLONG x, 0, 32⟩
def A.ETH_RX_FILTERED (x : Nat) : Nat := 0x40090000 + 0x10000 * x + 0x210
def F.ETH_RX_FILTERED_COUNT (x : Nat) : Fld := ⟨A.ETH_RX_FILTERED x, 0, 32⟩
def A.ETH_RX_NOBUF (x : Nat) : Nat := 0x40090000 + 0x10000 * x + 0x214
def F.ETH_RX_NOBUF_COUNT (x : Nat) : Fld := ⟨A.ETH_RX_NOBUF x, 0, 32⟩
def A.ETH_RX_RILLFULL (x : Nat) : Nat := 0x40090000 + 0x10000 * x + 0x218
def F.ETH_RX_RILLFULL_COUNT (x : Nat) : Fld := ⟨A.ETH_RX_RILLFULL x, 0, 32⟩
def A.ETH_RX_FIFO (x : Nat) : Nat := 0x40090000 + 0x10000 * x + 0x21c
def F.ETH_RX_FIFO_COUNT (x : Nat) : Fld := ⟨A.ETH_RX_FIFO x, 0, 32⟩
def A.ETH_RX_CTRL (x : Nat) : Nat := 0x40090000 + 0x10000 * x + 0x220
def F.ETH_RX_CTRL_COUNT (x : Nat) : Fld := ⟨A.ETH_RX_CTRL x, 0, 32⟩
def A.ETH_RX_CSUMERR (x : Nat) : Nat := 0x40090000 + 0x10000 * x + 0x224
def F.ETH_RX_CSUMERR_COUNT (x : Nat) : Fld := ⟨A.ETH_RX_CSUMERR x, 0, 32⟩
def A.ETH_TX_FRAMES (x : Nat) : Nat := 0x40090000 + 0x10000 * x + 0x228
def F.ETH_TX_FRAMES_COUNT (x : Nat) : Fld := ⟨A.ETH_TX_FRAMES x, 0, 32⟩
def A.ETH_TX_LINKDOWN (x : Nat) : Nat := 0x40090000 + 0x10000 * x + 0x22c
def F.ETH_TX_LINKDOWN_COUNT (x : Nat) : Fld := ⟨A.ETH_TX_LINKDOWN x, 0, 32⟩
def A.ETH_LAUNCH_LATE (x : Nat) : Nat := 0x40090000 + 0x10000 * x + 0x230
def F.ETH_LAUNCH_LATE_COUNT (x : Nat) : Fld := ⟨A.ETH_LAUNCH_LATE x, 0, 32⟩
def A.ETHA_BR_DROP (x : Nat) : Nat := 0x40090000 + 0x10000 * x + 0x234
def F.ETHA_BR_DROP_COUNT (x : Nat) : Fld := ⟨A.ETHA_BR_DROP x, 0, 32⟩
def A.ETHA_BR_STOMP (x : Nat) : Nat := 0x40090000 + 0x10000 * x + 0x238
def F.ETHA_BR_STOMP_COUNT (x : Nat) : Fld := ⟨A.ETHA_BR_STOMP x, 0, 32⟩
def A.ETHA_TC_CORR (x : Nat) : Nat := 0x40090000 + 0x10000 * x + 0x23c
def F.ETHA_TC_CORR_COUNT (x : Nat) : Fld := ⟨A.ETHA_TC_CORR x, 0, 32⟩
def regs_eth_0 : List RegD := [
  reg "ETHx_CTRL" 0x0 1 0x0 [fd "RUN" 0 1 .rw 0 false],
  reg "ETHx_STAT" 0x4 1 0x0 [fd "LINK" 0 1 .ro 0 false, fd "SPEED" 1 2 .ro 0 false, fd "PAUSED" 3 1 .ro 0 false],
  reg "ETHx_ERR" 0x8 1 0x0 [fd "STOPONLY" 0 1 .w1c 0 false, fd "CONFIG" 1 1 .w1c 0 false, fd "RXBUS" 2 1 .w1c 0 false, fd "TXBUS" 3 1 .w1c 0 false, fd "CFG_CAUSE" 8 8 .ro 0 false],
  reg "ETHx_CFG" 0xc 1 0x0 [fd "IF" 0 2 .rw 0 true, fd "STRIP" 2 1 .rw 0 true, fd "ALLMC" 3 1 .rw 0 true, fd "MAXLEN" 16 14 .rw 0x5ee true],
  reg "ETHx_MAC_LO" 0x10 1 0x0 [fd "ADDR" 0 32 .rw 0 true],
  reg "ETHx_MAC_HI" 0x14 1 0x0 [fd "ADDR" 0 16 .rw 0 true],
  reg "ETHx_TSLAT" 0x18 1 0x0 [fd "RX" 0 16 .rw 0 true, fd "TX" 16 16 .rw 0 true],
  reg "ETHx_TXORD" 0x1c 1 0x0 [fd "BRPOS" 0 3 .rw 0 true],
  reg "ETHx_PTPQ" 0x20 1 0x0 [fd "QUEUE" 0 3 .rw 0 true, fd "EN" 8 1 .rw 0 true],
  reg "ETHx_MC_SEL" 0x24 1 0x0 [fd "INDEX" 0 10 .rw 0 false],
  reg "ETHx_MC_DATA" 0x28 1 0x0 [fd "GROUP" 0 32 .rw 0 true],
  reg "ETHx_RQq_BASE" 0x40 8 0x8 [fd "ADDR" 0 32 .rw 0 true]]
def regs_eth_1 : List RegD := [
  reg "ETHx_RQq_CFG" 0x44 8 0x8 [fd "COUNT" 0 13 .rw 0 true, fd "BIG" 13 1 .rw 0 true, fd "FREE" 16 6 .rw 0 true, fd "DONE" 24 6 .rw 0 true, fd "EN" 31 1 .rw 0 true],
  reg "ETHx_TQq_CFG" 0x80 4 0x4 [fd "REQ" 0 6 .rw 0 true, fd "DONE" 8 6 .rw 0 true, fd "EN" 16 1 .rw 0 true],
  reg "ETHx_RULEr_A" 0x100 16 0x10 [fd "EN" 0 1 .rw 0 true, fd "M_ETYPE" 1 1 .rw 0 true, fd "M_IPDST" 2 1 .rw 0 true, fd "M_UDP" 3 1 .rw 0 true, fd "M_VID" 4 1 .rw 0 true, fd "QUEUE" 8 3 .rw 0 true, fd "ETYPE" 16 16 .rw 0 true],
  reg "ETHx_RULEr_B" 0x104 16 0x10 [fd "IPDST" 0 32 .rw 0 true],
  reg "ETHx_RULEr_C" 0x108 16 0x10 [fd "UDP" 0 16 .rw 0 true, fd "VID" 16 12 .rw 0 true],
  reg "ETHx_RX_FRAMES" 0x200 1 0x0 [fd "COUNT" 0 32 .rc 0 false],
  reg "ETHx_RX_FCS" 0x204 1 0x0 [fd "COUNT" 0 32 .rc 0 false],
  reg "ETHx_RX_RUNT" 0x208 1 0x0 [fd "COUNT" 0 32 .rc 0 false],
  reg "ETHx_RX_TOOLONG" 0x20c 1 0x0 [fd "COUNT" 0 32 .rc 0 false],
  reg "ETHx_RX_FILTERED" 0x210 1 0x0 [fd "COUNT" 0 32 .rc 0 false],
  reg "ETHx_RX_NOBUF" 0x214 1 0x0 [fd "COUNT" 0 32 .rc 0 false],
  reg "ETHx_RX_RILLFULL" 0x218 1 0x0 [fd "COUNT" 0 32 .rc 0 false]]
def regs_eth_2 : List RegD := [
  reg "ETHx_RX_FIFO" 0x21c 1 0x0 [fd "COUNT" 0 32 .rc 0 false],
  reg "ETHx_RX_CTRL" 0x220 1 0x0 [fd "COUNT" 0 32 .rc 0 false],
  reg "ETHx_RX_CSUMERR" 0x224 1 0x0 [fd "COUNT" 0 32 .rc 0 false],
  reg "ETHx_TX_FRAMES" 0x228 1 0x0 [fd "COUNT" 0 32 .rc 0 false],
  reg "ETHx_TX_LINKDOWN" 0x22c 1 0x0 [fd "COUNT" 0 32 .rc 0 false],
  reg "ETHx_LAUNCH_LATE" 0x230 1 0x0 [fd "COUNT" 0 32 .rc 0 false],
  reg "ETHA_BR_DROP" 0x234 1 0x0 [fd "COUNT" 0 32 .rc 0 false],
  reg "ETHA_BR_STOMP" 0x238 1 0x0 [fd "COUNT" 0 32 .rc 0 false],
  reg "ETHA_TC_CORR" 0x23c 1 0x0 [fd "COUNT" 0 32 .rc 0 false]]
/-- The registers of ETHx. -/
def regs_eth : List RegD := regs_eth_0 ++ regs_eth_1 ++ regs_eth_2
/-! ## ETHA (spec/09_ethernet_time.md) -/
def A.ETHA_BR_CFG : Nat := 0x40090300
def F.ETHA_BR_CFG_FWD : Fld := ⟨A.ETHA_BR_CFG, 0, 1⟩
def F.ETHA_BR_CFG_MCFWD : Fld := ⟨A.ETHA_BR_CFG, 1, 1⟩
def F.ETHA_BR_CFG_TC_EN : Fld := ⟨A.ETHA_BR_CFG, 2, 1⟩
def F.ETHA_BR_CFG_CUT : Fld := ⟨A.ETHA_BR_CFG, 3, 1⟩
def F.ETHA_BR_CFG_AGE : Fld := ⟨A.ETHA_BR_CFG, 16, 16⟩
def A.ETHA_MDIO_CMD : Nat := 0x40090304
def F.ETHA_MDIO_CMD_DATA : Fld := ⟨A.ETHA_MDIO_CMD, 0, 16⟩
def F.ETHA_MDIO_CMD_REG : Fld := ⟨A.ETHA_MDIO_CMD, 16, 5⟩
def F.ETHA_MDIO_CMD_PHY : Fld := ⟨A.ETHA_MDIO_CMD, 21, 5⟩
def F.ETHA_MDIO_CMD_OP : Fld := ⟨A.ETHA_MDIO_CMD, 26, 2⟩
def F.ETHA_MDIO_CMD_C45 : Fld := ⟨A.ETHA_MDIO_CMD, 28, 1⟩
def F.ETHA_MDIO_CMD_GO : Fld := ⟨A.ETHA_MDIO_CMD, 31, 1⟩
def A.ETHA_MDIO_STAT : Nat := 0x40090308
def F.ETHA_MDIO_STAT_BUSY : Fld := ⟨A.ETHA_MDIO_STAT, 0, 1⟩
def F.ETHA_MDIO_STAT_DONE : Fld := ⟨A.ETHA_MDIO_STAT, 1, 1⟩
def F.ETHA_MDIO_STAT_DATA : Fld := ⟨A.ETHA_MDIO_STAT, 16, 16⟩
def regs_ethA_0 : List RegD := [
  reg "ETHA_BR_CFG" 0x300 1 0x0 [fd "FWD" 0 1 .rw 0 true, fd "MCFWD" 1 1 .rw 0 true, fd "TC_EN" 2 1 .rw 0 true, fd "CUT" 3 1 .rw 1 true, fd "AGE" 16 16 .rw 0x12c true],
  reg "ETHA_MDIO_CMD" 0x304 1 0x0 [fd "DATA" 0 16 .rw 0 false, fd "REG" 16 5 .rw 0 false, fd "PHY" 21 5 .rw 0 false, fd "OP" 26 2 .rw 0 false, fd "C45" 28 1 .rw 0 false, fd "GO" 31 1 .wo 0 false],
  reg "ETHA_MDIO_STAT" 0x308 1 0x0 [fd "BUSY" 0 1 .ro 0 false, fd "DONE" 1 1 .w1c 0 false, fd "DATA" 16 16 .ro 0 false]]
/-- The registers of ETHA. -/
def regs_ethA : List RegD := regs_ethA_0
/-! ## TSU (spec/09_ethernet_time.md) -/
def A.TSU_CTRL : Nat := 0x400b0000
def F.TSU_CTRL_RUN : Fld := ⟨A.TSU_CTRL, 0, 1⟩
def A.TSU_STAT : Nat := 0x400b0004
def F.TSU_STAT_SET : Fld := ⟨A.TSU_STAT, 0, 1⟩
def F.TSU_STAT_SEL : Fld := ⟨A.TSU_STAT, 1, 2⟩
def F.TSU_STAT_SWPEND : Fld := ⟨A.TSU_STAT, 3, 1⟩
def F.TSU_STAT_LOCKED : Fld := ⟨A.TSU_STAT, 4, 1⟩
def F.TSU_STAT_GMOK : Fld := ⟨A.TSU_STAT, 5, 1⟩
def F.TSU_STAT_ST0 : Fld := ⟨A.TSU_STAT, 8, 3⟩
def F.TSU_STAT_ST1 : Fld := ⟨A.TSU_STAT, 11, 3⟩
def F.TSU_STAT_ST2 : Fld := ⟨A.TSU_STAT, 14, 3⟩
def A.TSU_ERR : Nat := 0x400b0008
def F.TSU_ERR_STOPONLY : Fld := ⟨A.TSU_ERR, 0, 1⟩
def F.TSU_ERR_CONFIG : Fld := ⟨A.TSU_ERR, 1, 1⟩
def F.TSU_ERR_MEASORDER : Fld := ⟨A.TSU_ERR, 2, 1⟩
def F.TSU_ERR_SWSTEP : Fld := ⟨A.TSU_ERR, 3, 1⟩
def F.TSU_ERR_CFG_CAUSE : Fld := ⟨A.TSU_ERR, 8, 8⟩
def A.TSU_TIME_LO : Nat := 0x400b000c
def F.TSU_TIME_LO_VALUE : Fld := ⟨A.TSU_TIME_LO, 0, 32⟩
def A.TSU_TIME_HI : Nat := 0x400b0010
def F.TSU_TIME_HI_VALUE : Fld := ⟨A.TSU_TIME_HI, 0, 32⟩
def A.TSU_ARG_LO : Nat := 0x400b0014
def F.TSU_ARG_LO_VALUE : Fld := ⟨A.TSU_ARG_LO, 0, 32⟩
def A.TSU_ARG_HI : Nat := 0x400b0018
def F.TSU_ARG_HI_VALUE : Fld := ⟨A.TSU_ARG_HI, 0, 32⟩
def A.TSU_CMD : Nat := 0x400b001c
def F.TSU_CMD_CMD : Fld := ⟨A.TSU_CMD, 0, 2⟩
def A.TSU_SRC : Nat := 0x400b0020
def F.TSU_SRC_SEL : Fld := ⟨A.TSU_SRC, 0, 2⟩
def F.TSU_SRC_AUTO : Fld := ⟨A.TSU_SRC, 4, 1⟩
def F.TSU_SRC_FALLBACK : Fld := ⟨A.TSU_SRC, 6, 2⟩
def A.TSU_RATE : Nat := 0x400b0024
def F.TSU_RATE_A : Fld := ⟨A.TSU_RATE, 0, 32⟩
def A.TSU_SERVO : Nat := 0x400b0028
def F.TSU_SERVO_KP : Fld := ⟨A.TSU_SERVO, 0, 4⟩
def F.TSU_SERVO_KI : Fld := ⟨A.TSU_SERVO, 4, 4⟩
def F.TSU_SERVO_TAU : Fld := ⟨A.TSU_SERVO, 8, 8⟩
def A.TSU_LIMITS : Nat := 0x400b002c
def F.TSU_LIMITS_PHMAX : Fld := ⟨A.TSU_LIMITS, 0, 16⟩
def F.TSU_LIMITS_RATEMAX : Fld := ⟨A.TSU_LIMITS, 16, 9⟩
def A.TSU_STEPNS : Nat := 0x400b0030
def F.TSU_STEPNS_NS : Fld := ⟨A.TSU_STEPNS, 0, 32⟩
def A.TSU_LOCK : Nat := 0x400b0034
def F.TSU_LOCK_NS : Fld := ⟨A.TSU_LOCK, 0, 8⟩
def F.TSU_LOCK_UNNS : Fld := ⟨A.TSU_LOCK, 8, 8⟩
def F.TSU_LOCK_N : Fld := ⟨A.TSU_LOCK, 16, 4⟩
def A.TSU_SW : Nat := 0x400b0038
def F.TSU_SW_STEPOK : Fld := ⟨A.TSU_SW, 0, 1⟩
def F.TSU_SW_LIMIT : Fld := ⟨A.TSU_SW, 16, 16⟩
def A.TSU_EVT : Nat := 0x400b003c
def F.TSU_EVT_RILL : Fld := ⟨A.TSU_EVT, 0, 6⟩
def F.TSU_EVT_EN : Fld := ⟨A.TSU_EVT, 8, 1⟩
def A.TSU_PPSI : Nat := 0x400b0040
def F.TSU_PPSI_DELAY : Fld := ⟨A.TSU_PPSI, 0, 16⟩
def F.TSU_PPSI_EN : Fld := ⟨A.TSU_PPSI, 16, 1⟩
def A.TSU_PPSO : Nat := 0x400b0044
def F.TSU_PPSO_EN : Fld := ⟨A.TSU_PPSO, 0, 1⟩
def F.TSU_PPSO_WIDTH : Fld := ⟨A.TSU_PPSO, 4, 9⟩
def A.TSU_PPSO_OFS : Nat := 0x400b0048
def F.TSU_PPSO_OFS_NS : Fld := ⟨A.TSU_PPSO_OFS, 0, 32⟩
def A.TSU_STEPS : Nat := 0x400b0060
def F.TSU_STEPS_COUNT : Fld := ⟨A.TSU_STEPS, 0, 32⟩
def A.TSU_SWITCHES : Nat := 0x400b0064
def F.TSU_SWITCHES_COUNT : Fld := ⟨A.TSU_SWITCHES, 0, 32⟩
def A.TSU_PPS_MISS : Nat := 0x400b0068
def F.TSU_PPS_MISS_COUNT : Fld := ⟨A.TSU_PPS_MISS, 0, 32⟩
def A.TSU_EVT_LOST : Nat := 0x400b006c
def F.TSU_EVT_LOST_COUNT : Fld := ⟨A.TSU_EVT_LOST, 0, 32⟩
def A.TSU_T_CFG (n : Nat) : Nat := 0x400b0100 + 0x20 * n
def F.TSU_T_CFG_TIMEOUT (n : Nat) : Fld := ⟨A.TSU_T_CFG n, 0, 16⟩
def A.TSU_T_MT_LO (n : Nat) : Nat := 0x400b0104 + 0x20 * n
def F.TSU_T_MT_LO_VALUE (n : Nat) : Fld := ⟨A.TSU_T_MT_LO n, 0, 32⟩
def A.TSU_T_MT_HI (n : Nat) : Nat := 0x400b0108 + 0x20 * n
def F.TSU_T_MT_HI_VALUE (n : Nat) : Fld := ⟨A.TSU_T_MT_HI n, 0, 32⟩
def A.TSU_T_MO_LO (n : Nat) : Nat := 0x400b010c + 0x20 * n
def F.TSU_T_MO_LO_VALUE (n : Nat) : Fld := ⟨A.TSU_T_MO_LO n, 0, 32⟩
def A.TSU_T_MO_HI (n : Nat) : Nat := 0x400b0110 + 0x20 * n
def F.TSU_T_MO_HI_VALUE (n : Nat) : Fld := ⟨A.TSU_T_MO_HI n, 0, 32⟩
def A.TSU_T_X (n : Nat) : Nat := 0x400b0114 + 0x20 * n
def F.TSU_T_X_NS (n : Nat) : Fld := ⟨A.TSU_T_X n, 0, 32⟩
def A.TSU_T_Y (n : Nat) : Nat := 0x400b0118 + 0x20 * n
def F.TSU_T_Y_PPB (n : Nat) : Fld := ⟨A.TSU_T_Y n, 0, 32⟩
def A.TSU_T_N (n : Nat) : Nat := 0x400b011c + 0x20 * n
def F.TSU_T_N_COUNT (n : Nat) : Fld := ⟨A.TSU_T_N n, 0, 16⟩
def regs_tsu_0 : List RegD := [
  reg "TSU_CTRL" 0x0 1 0x0 [fd "RUN" 0 1 .rw 0 false],
  reg "TSU_STAT" 0x4 1 0x0 [fd "SET" 0 1 .ro 0 false, fd "SEL" 1 2 .ro 0 false, fd "SWPEND" 3 1 .ro 0 false, fd "LOCKED" 4 1 .ro 0 false, fd "GMOK" 5 1 .ro 0 false, fd "ST0" 8 3 .ro 0 false, fd "ST1" 11 3 .ro 0 false, fd "ST2" 14 3 .ro 0 false],
  reg "TSU_ERR" 0x8 1 0x0 [fd "STOPONLY" 0 1 .w1c 0 false, fd "CONFIG" 1 1 .w1c 0 false, fd "MEASORDER" 2 1 .w1c 0 false, fd "SWSTEP" 3 1 .w1c 0 false, fd "CFG_CAUSE" 8 8 .ro 0 false],
  reg "TSU_TIME_LO" 0xc 1 0x0 [fd "VALUE" 0 32 .rl 0 false],
  reg "TSU_TIME_HI" 0x10 1 0x0 [fd "VALUE" 0 32 .ro 0 false],
  reg "TSU_ARG_LO" 0x14 1 0x0 [fd "VALUE" 0 32 .rw 0 false],
  reg "TSU_ARG_HI" 0x18 1 0x0 [fd "VALUE" 0 32 .rw 0 false],
  reg "TSU_CMD" 0x1c 1 0x0 [fd "CMD" 0 2 .wo 0 false],
  reg "TSU_SRC" 0x20 1 0x0 [fd "SEL" 0 2 .rw 0 false, fd "AUTO" 4 1 .rw 0 true, fd "FALLBACK" 6 2 .rw 0 true],
  reg "TSU_RATE" 0x24 1 0x0 [fd "A" 0 32 .ro 0 false],
  reg "TSU_SERVO" 0x28 1 0x0 [fd "KP" 0 4 .rw 3 true, fd "KI" 4 4 .rw 5 true, fd "TAU" 8 8 .rw 2 true],
  reg "TSU_LIMITS" 0x2c 1 0x0 [fd "PHMAX" 0 16 .rw 0x1388 true, fd "RATEMAX" 16 9 .rw 0xc8 true]]
def regs_tsu_1 : List RegD := [
  reg "TSU_STEPNS" 0x30 1 0x0 [fd "NS" 0 32 .rw 0xc350 true],
  reg "TSU_LOCK" 0x34 1 0x0 [fd "NS" 0 8 .rw 0x28 true, fd "UNNS" 8 8 .rw 0xc8 true, fd "N" 16 4 .rw 8 true],
  reg "TSU_SW" 0x38 1 0x0 [fd "STEPOK" 0 1 .rw 0 true, fd "LIMIT" 16 16 .rw 0x3e8 true],
  reg "TSU_EVT" 0x3c 1 0x0 [fd "RILL" 0 6 .rw 0 true, fd "EN" 8 1 .rw 0 true],
  reg "TSU_PPSI" 0x40 1 0x0 [fd "DELAY" 0 16 .rw 0 true, fd "EN" 16 1 .rw 0 true],
  reg "TSU_PPSO" 0x44 1 0x0 [fd "EN" 0 1 .rw 0 true, fd "WIDTH" 4 9 .rw 0x64 true],
  reg "TSU_PPSO_OFS" 0x48 1 0x0 [fd "NS" 0 32 .rw 0 true],
  reg "TSU_STEPS" 0x60 1 0x0 [fd "COUNT" 0 32 .rc 0 false],
  reg "TSU_SWITCHES" 0x64 1 0x0 [fd "COUNT" 0 32 .rc 0 false],
  reg "TSU_PPS_MISS" 0x68 1 0x0 [fd "COUNT" 0 32 .rc 0 false],
  reg "TSU_EVT_LOST" 0x6c 1 0x0 [fd "COUNT" 0 32 .rc 0 false],
  reg "TSU_Tk_CFG" 0x100 3 0x20 [fd "TIMEOUT" 0 16 .rw 0x3e8 true]]
def regs_tsu_2 : List RegD := [
  reg "TSU_Tk_MT_LO" 0x104 3 0x20 [fd "VALUE" 0 32 .rw 0 false],
  reg "TSU_Tk_MT_HI" 0x108 3 0x20 [fd "VALUE" 0 32 .rw 0 false],
  reg "TSU_Tk_MO_LO" 0x10c 3 0x20 [fd "VALUE" 0 32 .rw 0 false],
  reg "TSU_Tk_MO_HI" 0x110 3 0x20 [fd "VALUE" 0 32 .rw 0 false],
  reg "TSU_Tk_X" 0x114 3 0x20 [fd "NS" 0 32 .ro 0 false],
  reg "TSU_Tk_Y" 0x118 3 0x20 [fd "PPB" 0 32 .ro 0 false],
  reg "TSU_Tk_N" 0x11c 3 0x20 [fd "COUNT" 0 16 .ro 0 false]]
/-- The registers of TSU. -/
def regs_tsu : List RegD := regs_tsu_0 ++ regs_tsu_1 ++ regs_tsu_2
/-! ## CAN (spec/10_cabinet_bus.md) -/
def A.CAN_CTRL : Nat := 0x400c0000
def F.CAN_CTRL_RUN : Fld := ⟨A.CAN_CTRL, 0, 1⟩
def A.CAN_STAT : Nat := 0x400c0004
def F.CAN_STAT_STATE : Fld := ⟨A.CAN_STAT, 0, 2⟩
def F.CAN_STAT_RECOVERING : Fld := ⟨A.CAN_STAT, 2, 1⟩
def F.CAN_STAT_PXE : Fld := ⟨A.CAN_STAT, 3, 1⟩
def F.CAN_STAT_SYNCED : Fld := ⟨A.CAN_STAT, 4, 1⟩
def F.CAN_STAT_TXING : Fld := ⟨A.CAN_STAT, 5, 1⟩
def F.CAN_STAT_RXING : Fld := ⟨A.CAN_STAT, 6, 1⟩
def A.CAN_ERR : Nat := 0x400c0008
def F.CAN_ERR_STOPONLY : Fld := ⟨A.CAN_ERR, 0, 1⟩
def F.CAN_ERR_CONFIG : Fld := ⟨A.CAN_ERR, 1, 1⟩
def F.CAN_ERR_TXOWN : Fld := ⟨A.CAN_ERR, 2, 1⟩
def F.CAN_ERR_CFG_CAUSE : Fld := ⟨A.CAN_ERR, 8, 8⟩
def A.CAN_CFG : Nat := 0x400c000c
def F.CAN_CFG_FDEN : Fld := ⟨A.CAN_CFG, 0, 1⟩
def F.CAN_CFG_MON : Fld := ⟨A.CAN_CFG, 1, 1⟩
def F.CAN_CFG_AUTOREC : Fld := ⟨A.CAN_CFG, 2, 1⟩
def F.CAN_CFG_DEFACC : Fld := ⟨A.CAN_CFG, 3, 1⟩
def F.CAN_CFG_PXHD : Fld := ⟨A.CAN_CFG, 4, 1⟩
def A.CAN_NBT : Nat := 0x400c0010
def F.CAN_NBT_TSEG1 : Fld := ⟨A.CAN_NBT, 0, 8⟩
def F.CAN_NBT_TSEG2 : Fld := ⟨A.CAN_NBT, 8, 7⟩
def F.CAN_NBT_SJW : Fld := ⟨A.CAN_NBT, 16, 7⟩
def F.CAN_NBT_BRP : Fld := ⟨A.CAN_NBT, 24, 5⟩
def A.CAN_DBT : Nat := 0x400c0014
def F.CAN_DBT_TSEG1 : Fld := ⟨A.CAN_DBT, 0, 5⟩
def F.CAN_DBT_TSEG2 : Fld := ⟨A.CAN_DBT, 8, 4⟩
def F.CAN_DBT_SJW : Fld := ⟨A.CAN_DBT, 16, 4⟩
def F.CAN_DBT_BRP : Fld := ⟨A.CAN_DBT, 24, 5⟩
def A.CAN_TDC : Nat := 0x400c0018
def F.CAN_TDC_EN : Fld := ⟨A.CAN_TDC, 0, 1⟩
def F.CAN_TDC_TDCO : Fld := ⟨A.CAN_TDC, 8, 7⟩
def A.CAN_RILLS : Nat := 0x400c001c
def F.CAN_RILLS_RX : Fld := ⟨A.CAN_RILLS, 0, 6⟩
def F.CAN_RILLS_TXDONE : Fld := ⟨A.CAN_RILLS, 8, 6⟩
def F.CAN_RILLS_EVT : Fld := ⟨A.CAN_RILLS, 16, 6⟩
def A.CAN_CMD : Nat := 0x400c0020
def F.CAN_CMD_RECOVER : Fld := ⟨A.CAN_CMD, 0, 1⟩
def F.CAN_CMD_ABORTALL : Fld := ⟨A.CAN_CMD, 1, 1⟩
def A.CAN_ECNT : Nat := 0x400c0024
def F.CAN_ECNT_TEC : Fld := ⟨A.CAN_ECNT, 0, 9⟩
def F.CAN_ECNT_REC : Fld := ⟨A.CAN_ECNT, 16, 8⟩
def A.CAN_LEC : Nat := 0x400c0028
def F.CAN_LEC_CODE : Fld := ⟨A.CAN_LEC, 0, 3⟩
def F.CAN_LEC_DATA : Fld := ⟨A.CAN_LEC, 3, 1⟩
def A.CAN_TX_REQ : Nat := 0x400c0030
def F.CAN_TX_REQ_ENTRIES : Fld := ⟨A.CAN_TX_REQ, 0, 32⟩
def A.CAN_TX_CANCEL : Nat := 0x400c0034
def F.CAN_TX_CANCEL_ENTRIES : Fld := ⟨A.CAN_TX_CANCEL, 0, 32⟩
def A.CAN_TX_PEND : Nat := 0x400c0038
def F.CAN_TX_PEND_ENTRIES : Fld := ⟨A.CAN_TX_PEND, 0, 32⟩
def A.CAN_RX_FULL_LO : Nat := 0x400c0040
def F.CAN_RX_FULL_LO_ENTRIES : Fld := ⟨A.CAN_RX_FULL_LO, 0, 32⟩
def A.CAN_RX_FULL_HI : Nat := 0x400c0044
def F.CAN_RX_FULL_HI_ENTRIES : Fld := ⟨A.CAN_RX_FULL_HI, 0, 32⟩
def A.CAN_FLT_ID (n : Nat) : Nat := 0x400c0080 + 0x8 * n
def F.CAN_FLT_ID_ID (n : Nat) : Fld := ⟨A.CAN_FLT_ID n, 0, 29⟩
def F.CAN_FLT_ID_XTD (n : Nat) : Fld := ⟨A.CAN_FLT_ID n, 29, 1⟩
def F.CAN_FLT_ID_REJECT (n : Nat) : Fld := ⟨A.CAN_FLT_ID n, 30, 1⟩
def F.CAN_FLT_ID_EN (n : Nat) : Fld := ⟨A.CAN_FLT_ID n, 31, 1⟩
def A.CAN_FLT_MASK (n : Nat) : Nat := 0x400c0084 + 0x8 * n
def F.CAN_FLT_MASK_MASK (n : Nat) : Fld := ⟨A.CAN_FLT_MASK n, 0, 29⟩
def F.CAN_FLT_MASK_MXTD (n : Nat) : Fld := ⟨A.CAN_FLT_MASK n, 29, 1⟩
def A.CAN_RX_FRAMES : Nat := 0x400c0200
def F.CAN_RX_FRAMES_COUNT : Fld := ⟨A.CAN_RX_FRAMES, 0, 32⟩
def A.CAN_TX_FRAMES : Nat := 0x400c0204
def F.CAN_TX_FRAMES_COUNT : Fld := ⟨A.CAN_TX_FRAMES, 0, 32⟩
def A.CAN_RX_LOST : Nat := 0x400c0208
def F.CAN_RX_LOST_COUNT : Fld := ⟨A.CAN_RX_LOST, 0, 32⟩
def A.CAN_RX_FILTERED : Nat := 0x400c020c
def F.CAN_RX_FILTERED_COUNT : Fld := ⟨A.CAN_RX_FILTERED, 0, 32⟩
def A.CAN_RILL_LOST : Nat := 0x400c0210
def F.CAN_RILL_LOST_COUNT : Fld := ⟨A.CAN_RILL_LOST, 0, 32⟩
def A.CAN_EVT_LOST : Nat := 0x400c0214
def F.CAN_EVT_LOST_COUNT : Fld := ⟨A.CAN_EVT_LOST, 0, 32⟩
def A.CAN_BUSOFF_CNT : Nat := 0x400c0218
def F.CAN_BUSOFF_CNT_COUNT : Fld := ⟨A.CAN_BUSOFF_CNT, 0, 32⟩
def A.CAN_PXE_CNT : Nat := 0x400c021c
def F.CAN_PXE_CNT_COUNT : Fld := ⟨A.CAN_PXE_CNT, 0, 32⟩
def A.CAN_ARB_LOST : Nat := 0x400c0220
def F.CAN_ARB_LOST_COUNT : Fld := ⟨A.CAN_ARB_LOST, 0, 32⟩
def A.CAN_ERR_FRAMES : Nat := 0x400c0224
def F.CAN_ERR_FRAMES_COUNT : Fld := ⟨A.CAN_ERR_FRAMES, 0, 32⟩
def regs_can_0 : List RegD := [
  reg "CAN_CTRL" 0x0 1 0x0 [fd "RUN" 0 1 .rw 0 false],
  reg "CAN_STAT" 0x4 1 0x0 [fd "STATE" 0 2 .ro 0 false, fd "RECOVERING" 2 1 .ro 0 false, fd "PXE" 3 1 .ro 0 false, fd "SYNCED" 4 1 .ro 0 false, fd "TXING" 5 1 .ro 0 false, fd "RXING" 6 1 .ro 0 false],
  reg "CAN_ERR" 0x8 1 0x0 [fd "STOPONLY" 0 1 .w1c 0 false, fd "CONFIG" 1 1 .w1c 0 false, fd "TXOWN" 2 1 .w1c 0 false, fd "CFG_CAUSE" 8 8 .ro 0 false],
  reg "CAN_CFG" 0xc 1 0x0 [fd "FDEN" 0 1 .rw 0 true, fd "MON" 1 1 .rw 0 true, fd "AUTOREC" 2 1 .rw 0 true, fd "DEFACC" 3 1 .rw 0 true, fd "PXHD" 4 1 .rw 1 true],
  reg "CAN_NBT" 0x10 1 0x0 [fd "TSEG1" 0 8 .rw 0x7e true, fd "TSEG2" 8 7 .rw 0x1f true, fd "SJW" 16 7 .rw 0x1f true, fd "BRP" 24 5 .rw 0 true],
  reg "CAN_DBT" 0x14 1 0x0 [fd "TSEG1" 0 5 .rw 0x1c true, fd "TSEG2" 8 4 .rw 9 true, fd "SJW" 16 4 .rw 9 true, fd "BRP" 24 5 .rw 0 true],
  reg "CAN_TDC" 0x18 1 0x0 [fd "EN" 0 1 .rw 0 true, fd "TDCO" 8 7 .rw 0 true],
  reg "CAN_RILLS" 0x1c 1 0x0 [fd "RX" 0 6 .rw 0 true, fd "TXDONE" 8 6 .rw 0 true, fd "EVT" 16 6 .rw 0 true],
  reg "CAN_CMD" 0x20 1 0x0 [fd "RECOVER" 0 1 .wo 0 false, fd "ABORTALL" 1 1 .wo 0 false],
  reg "CAN_ECNT" 0x24 1 0x0 [fd "TEC" 0 9 .ro 0 false, fd "REC" 16 8 .ro 0 false],
  reg "CAN_LEC" 0x28 1 0x0 [fd "CODE" 0 3 .rc 0 false, fd "DATA" 3 1 .rc 0 false],
  reg "CAN_TX_REQ" 0x30 1 0x0 [fd "ENTRIES" 0 32 .w1s 0 false]]
def regs_can_1 : List RegD := [
  reg "CAN_TX_CANCEL" 0x34 1 0x0 [fd "ENTRIES" 0 32 .w1s 0 false],
  reg "CAN_TX_PEND" 0x38 1 0x0 [fd "ENTRIES" 0 32 .ro 0 false],
  reg "CAN_RX_FULL_LO" 0x40 1 0x0 [fd "ENTRIES" 0 32 .w1c 0 false],
  reg "CAN_RX_FULL_HI" 0x44 1 0x0 [fd "ENTRIES" 0 32 .w1c 0 false],
  reg "CAN_FLTf_ID" 0x80 32 0x8 [fd "ID" 0 29 .rw 0 true, fd "XTD" 29 1 .rw 0 true, fd "REJECT" 30 1 .rw 0 true, fd "EN" 31 1 .rw 0 true],
  reg "CAN_FLTf_MASK" 0x84 32 0x8 [fd "MASK" 0 29 .rw 0 true, fd "MXTD" 29 1 .rw 0 true],
  reg "CAN_RX_FRAMES" 0x200 1 0x0 [fd "COUNT" 0 32 .rc 0 false],
  reg "CAN_TX_FRAMES" 0x204 1 0x0 [fd "COUNT" 0 32 .rc 0 false],
  reg "CAN_RX_LOST" 0x208 1 0x0 [fd "COUNT" 0 32 .rc 0 false],
  reg "CAN_RX_FILTERED" 0x20c 1 0x0 [fd "COUNT" 0 32 .rc 0 false],
  reg "CAN_RILL_LOST" 0x210 1 0x0 [fd "COUNT" 0 32 .rc 0 false],
  reg "CAN_EVT_LOST" 0x214 1 0x0 [fd "COUNT" 0 32 .rc 0 false]]
def regs_can_2 : List RegD := [
  reg "CAN_BUSOFF_CNT" 0x218 1 0x0 [fd "COUNT" 0 32 .rc 0 false],
  reg "CAN_PXE_CNT" 0x21c 1 0x0 [fd "COUNT" 0 32 .rc 0 false],
  reg "CAN_ARB_LOST" 0x220 1 0x0 [fd "COUNT" 0 32 .rc 0 false],
  reg "CAN_ERR_FRAMES" 0x224 1 0x0 [fd "COUNT" 0 32 .rc 0 false]]
/-- The registers of CAN. -/
def regs_can : List RegD := regs_can_0 ++ regs_can_1 ++ regs_can_2
end Sys2Proof.Machine
end

