-- ==== Sys2Proof/Machine/RegTableShow.lean ====
section
/-!
DEFINITION. The register maps of PMAP, PXP, FLK, written from the register tables of spec/:
the address `A.<REGISTER>` of each register (a function of its index where it is an array, and of the port for
ETHA and ETHB), the place `F.<REGISTER>_<FIELD>` of each field, and per block the list of its register families.
-/
namespace Sys2Proof.Machine
/-! ## PMAP (spec/07_show_frame_lock.md) -/
def A.PMAP_CTRL : Nat := 0x40050000
def F.PMAP_CTRL_RUN : Fld := ⟨A.PMAP_CTRL, 0, 1⟩
def F.PMAP_CTRL_IN0_EN : Fld := ⟨A.PMAP_CTRL, 1, 1⟩
def F.PMAP_CTRL_IN1_EN : Fld := ⟨A.PMAP_CTRL, 2, 1⟩
def F.PMAP_CTRL_SACN_EN : Fld := ⟨A.PMAP_CTRL, 3, 1⟩
def F.PMAP_CTRL_PXP_EN : Fld := ⟨A.PMAP_CTRL, 4, 1⟩
def A.PMAP_STAT : Nat := 0x40050004
def F.PMAP_STAT_BANK : Fld := ⟨A.PMAP_STAT, 0, 1⟩
def F.PMAP_STAT_WALK : Fld := ⟨A.PMAP_STAT, 1, 1⟩
def A.PMAP_ERR : Nat := 0x40050008
def F.PMAP_ERR_STOPONLY : Fld := ⟨A.PMAP_ERR, 0, 1⟩
def F.PMAP_ERR_CONFIG : Fld := ⟨A.PMAP_ERR, 1, 1⟩
def F.PMAP_ERR_LISTBUS : Fld := ⟨A.PMAP_ERR, 2, 1⟩
def F.PMAP_ERR_CFG_CAUSE : Fld := ⟨A.PMAP_ERR, 8, 8⟩
def A.PMAP_BANK : Nat := 0x4005000c
def F.PMAP_BANK_NEXT : Fld := ⟨A.PMAP_BANK, 0, 1⟩
def A.PMAP_LEVEL : Nat := 0x40050010
def F.PMAP_LEVEL_LEVEL : Fld := ⟨A.PMAP_LEVEL, 0, 16⟩
def A.PMAP_SACN_TPL : Nat := 0x40050014
def F.PMAP_SACN_TPL_ADDR : Fld := ⟨A.PMAP_SACN_TPL, 0, 32⟩
def A.PMAP_SACN_BUF : Nat := 0x40050018
def F.PMAP_SACN_BUF_ADDR : Fld := ⟨A.PMAP_SACN_BUF, 0, 32⟩
def A.PMAP_SACN_CFG : Nat := 0x4005001c
def F.PMAP_SACN_CFG_DISC_EN : Fld := ⟨A.PMAP_SACN_CFG, 0, 1⟩
def F.PMAP_SACN_CFG_MCAST : Fld := ⟨A.PMAP_SACN_CFG, 1, 1⟩
def A.PMAP_PLIST (n : Nat) : Nat := 0x40050040 + 0x10 * n
def F.PMAP_PLIST_ADDR (n : Nat) : Fld := ⟨A.PMAP_PLIST n, 0, 32⟩
def A.PMAP_PCNT (n : Nat) : Nat := 0x40050044 + 0x10 * n
def F.PMAP_PCNT_COUNT (n : Nat) : Fld := ⟨A.PMAP_PCNT n, 0, 22⟩
def A.PMAP_OTAB (n : Nat) : Nat := 0x40050048 + 0x10 * n
def F.PMAP_OTAB_ADDR (n : Nat) : Fld := ⟨A.PMAP_OTAB n, 0, 32⟩
def A.PMAP_OCNT (n : Nat) : Nat := 0x4005004c + 0x10 * n
def F.PMAP_OCNT_COUNT (n : Nat) : Fld := ⟨A.PMAP_OCNT n, 0, 15⟩
def A.PMAP_PT_ERR : Nat := 0x40050080
def F.PMAP_PT_ERR_COUNT : Fld := ⟨A.PMAP_PT_ERR, 0, 32⟩
def A.PMAP_SEG_ERR : Nat := 0x40050084
def F.PMAP_SEG_ERR_COUNT : Fld := ⟨A.PMAP_SEG_ERR, 0, 32⟩
def A.PMAP_CLAMP : Nat := 0x40050088
def F.PMAP_CLAMP_COUNT : Fld := ⟨A.PMAP_CLAMP, 0, 32⟩
def A.PMAP_DERATE : Nat := 0x4005008c
def F.PMAP_DERATE_COUNT : Fld := ⟨A.PMAP_DERATE, 0, 32⟩
def A.PMAP_TFAULT : Nat := 0x40050090
def F.PMAP_TFAULT_COUNT : Fld := ⟨A.PMAP_TFAULT, 0, 32⟩
def A.PMAP_LAMPSTOP : Nat := 0x40050094
def F.PMAP_LAMPSTOP_COUNT : Fld := ⟨A.PMAP_LAMPSTOP, 0, 32⟩
def A.PMAP_WALK_MAX : Nat := 0x40050098
def F.PMAP_WALK_MAX_COUNT : Fld := ⟨A.PMAP_WALK_MAX, 0, 32⟩
def A.PMAP_SACN_WAITS : Nat := 0x4005009c
def F.PMAP_SACN_WAITS_COUNT : Fld := ⟨A.PMAP_SACN_WAITS, 0, 32⟩
def A.PMAP_IN_FMT (n : Nat) : Nat := 0x40050100 + 0x40 * n
def F.PMAP_IN_FMT_WIDTH (n : Nat) : Fld := ⟨A.PMAP_IN_FMT n, 0, 12⟩
def F.PMAP_IN_FMT_HEIGHT (n : Nat) : Fld := ⟨A.PMAP_IN_FMT n, 12, 12⟩
def F.PMAP_IN_FMT_FORMAT (n : Nat) : Fld := ⟨A.PMAP_IN_FMT n, 24, 1⟩
def F.PMAP_IN_FMT_CSC (n : Nat) : Fld := ⟨A.PMAP_IN_FMT n, 25, 1⟩
def A.PMAP_IN_GROUP (n : Nat) : Nat := 0x40050104 + 0x40 * n
def F.PMAP_IN_GROUP_VALUE (n : Nat) : Fld := ⟨A.PMAP_IN_GROUP n, 0, 32⟩
def A.PMAP_IN_PORT (n : Nat) : Nat := 0x40050108 + 0x40 * n
def F.PMAP_IN_PORT_PORT (n : Nat) : Fld := ⟨A.PMAP_IN_PORT n, 0, 16⟩
def A.PMAP_IN_BASE (n : Nat) : Nat := 0x4005010c + 0x40 * n
def F.PMAP_IN_BASE_VALUE (n : Nat) : Fld := ⟨A.PMAP_IN_BASE n, 0, 32⟩
def A.PMAP_IN_CSC0 (n : Nat) : Nat := 0x40050110 + 0x40 * n
def F.PMAP_IN_CSC0_M00 (n : Nat) : Fld := ⟨A.PMAP_IN_CSC0 n, 0, 16⟩
def F.PMAP_IN_CSC0_M01 (n : Nat) : Fld := ⟨A.PMAP_IN_CSC0 n, 16, 16⟩
def A.PMAP_IN_CSC1 (n : Nat) : Nat := 0x40050114 + 0x40 * n
def F.PMAP_IN_CSC1_M02 (n : Nat) : Fld := ⟨A.PMAP_IN_CSC1 n, 0, 16⟩
def F.PMAP_IN_CSC1_M10 (n : Nat) : Fld := ⟨A.PMAP_IN_CSC1 n, 16, 16⟩
def A.PMAP_IN_CSC2 (n : Nat) : Nat := 0x40050118 + 0x40 * n
def F.PMAP_IN_CSC2_M11 (n : Nat) : Fld := ⟨A.PMAP_IN_CSC2 n, 0, 16⟩
def F.PMAP_IN_CSC2_M12 (n : Nat) : Fld := ⟨A.PMAP_IN_CSC2 n, 16, 16⟩
def A.PMAP_IN_CSC3 (n : Nat) : Nat := 0x4005011c + 0x40 * n
def F.PMAP_IN_CSC3_M20 (n : Nat) : Fld := ⟨A.PMAP_IN_CSC3 n, 0, 16⟩
def F.PMAP_IN_CSC3_M21 (n : Nat) : Fld := ⟨A.PMAP_IN_CSC3 n, 16, 16⟩
def A.PMAP_IN_CSC4 (n : Nat) : Nat := 0x40050120 + 0x40 * n
def F.PMAP_IN_CSC4_M22 (n : Nat) : Fld := ⟨A.PMAP_IN_CSC4 n, 0, 16⟩
def A.PMAP_IN_OFF (n : Nat) : Nat := 0x40050124 + 0x40 * n
def F.PMAP_IN_OFF_OFF0 (n : Nat) : Fld := ⟨A.PMAP_IN_OFF n, 0, 10⟩
def F.PMAP_IN_OFF_OFF1 (n : Nat) : Fld := ⟨A.PMAP_IN_OFF n, 10, 10⟩
def F.PMAP_IN_OFF_OFF2 (n : Nat) : Fld := ⟨A.PMAP_IN_OFF n, 20, 10⟩
def A.PMAP_IN_FRAMES (n : Nat) : Nat := 0x40050130 + 0x40 * n
def F.PMAP_IN_FRAMES_COUNT (n : Nat) : Fld := ⟨A.PMAP_IN_FRAMES n, 0, 32⟩
def A.PMAP_IN_GAPS (n : Nat) : Nat := 0x40050134 + 0x40 * n
def F.PMAP_IN_GAPS_COUNT (n : Nat) : Fld := ⟨A.PMAP_IN_GAPS n, 0, 32⟩
def A.PMAP_IN_DROP (n : Nat) : Nat := 0x40050138 + 0x40 * n
def F.PMAP_IN_DROP_COUNT (n : Nat) : Fld := ⟨A.PMAP_IN_DROP n, 0, 32⟩
def A.PMAP_IN_REUSE (n : Nat) : Nat := 0x4005013c + 0x40 * n
def F.PMAP_IN_REUSE_COUNT (n : Nat) : Fld := ⟨A.PMAP_IN_REUSE n, 0, 32⟩
def regs_pmap_0 : List RegD := [
  reg "PMAP_CTRL" 0x0 1 0x0 [fd "RUN" 0 1 .rw 0 false, fd "IN0_EN" 1 1 .rw 0 true, fd "IN1_EN" 2 1 .rw 0 true, fd "SACN_EN" 3 1 .rw 0 true, fd "PXP_EN" 4 1 .rw 0 true],
  reg "PMAP_STAT" 0x4 1 0x0 [fd "BANK" 0 1 .ro 0 false, fd "WALK" 1 1 .ro 0 false],
  reg "PMAP_ERR" 0x8 1 0x0 [fd "STOPONLY" 0 1 .w1c 0 false, fd "CONFIG" 1 1 .w1c 0 false, fd "LISTBUS" 2 1 .w1c 0 false, fd "CFG_CAUSE" 8 8 .ro 0 false],
  reg "PMAP_BANK" 0xc 1 0x0 [fd "NEXT" 0 1 .rw 0 false],
  reg "PMAP_LEVEL" 0x10 1 0x0 [fd "LEVEL" 0 16 .rw 0xffff false],
  reg "PMAP_SACN_TPL" 0x14 1 0x0 [fd "ADDR" 0 32 .rw 0 true],
  reg "PMAP_SACN_BUF" 0x18 1 0x0 [fd "ADDR" 0 32 .rw 0 true],
  reg "PMAP_SACN_CFG" 0x1c 1 0x0 [fd "DISC_EN" 0 1 .rw 0 true, fd "MCAST" 1 1 .rw 1 true],
  reg "PMAP_PLISTb" 0x40 2 0x10 [fd "ADDR" 0 32 .rw 0 false],
  reg "PMAP_PCNTb" 0x44 2 0x10 [fd "COUNT" 0 22 .rw 0 false],
  reg "PMAP_OTABb" 0x48 2 0x10 [fd "ADDR" 0 32 .rw 0 false],
  reg "PMAP_OCNTb" 0x4c 2 0x10 [fd "COUNT" 0 15 .rw 0 false]]
def regs_pmap_1 : List RegD := [
  reg "PMAP_PT_ERR" 0x80 1 0x0 [fd "COUNT" 0 32 .rc 0 false],
  reg "PMAP_SEG_ERR" 0x84 1 0x0 [fd "COUNT" 0 32 .rc 0 false],
  reg "PMAP_CLAMP" 0x88 1 0x0 [fd "COUNT" 0 32 .rc 0 false],
  reg "PMAP_DERATE" 0x8c 1 0x0 [fd "COUNT" 0 32 .rc 0 false],
  reg "PMAP_TFAULT" 0x90 1 0x0 [fd "COUNT" 0 32 .rc 0 false],
  reg "PMAP_LAMPSTOP" 0x94 1 0x0 [fd "COUNT" 0 32 .rc 0 false],
  reg "PMAP_WALK_MAX" 0x98 1 0x0 [fd "COUNT" 0 32 .rc 0 false],
  reg "PMAP_SACN_WAITS" 0x9c 1 0x0 [fd "COUNT" 0 32 .rc 0 false],
  reg "PMAP_INn_FMT" 0x100 2 0x40 [fd "WIDTH" 0 12 .rw 0 true, fd "HEIGHT" 12 12 .rw 0 true, fd "FORMAT" 24 1 .rw 0 true, fd "CSC" 25 1 .rw 0 true],
  reg "PMAP_INn_GROUP" 0x104 2 0x40 [fd "VALUE" 0 32 .rw 0 true],
  reg "PMAP_INn_PORT" 0x108 2 0x40 [fd "PORT" 0 16 .rw 0 true],
  reg "PMAP_INn_BASE" 0x10c 2 0x40 [fd "VALUE" 0 32 .rw 0 true]]
def regs_pmap_2 : List RegD := [
  reg "PMAP_INn_CSC0" 0x110 2 0x40 [fd "M00" 0 16 .rw 0x1000 true, fd "M01" 16 16 .rw 0 true],
  reg "PMAP_INn_CSC1" 0x114 2 0x40 [fd "M02" 0 16 .rw 0 true, fd "M10" 16 16 .rw 0 true],
  reg "PMAP_INn_CSC2" 0x118 2 0x40 [fd "M11" 0 16 .rw 0x1000 true, fd "M12" 16 16 .rw 0 true],
  reg "PMAP_INn_CSC3" 0x11c 2 0x40 [fd "M20" 0 16 .rw 0 true, fd "M21" 16 16 .rw 0 true],
  reg "PMAP_INn_CSC4" 0x120 2 0x40 [fd "M22" 0 16 .rw 0x1000 true],
  reg "PMAP_INn_OFF" 0x124 2 0x40 [fd "OFF0" 0 10 .rw 0 true, fd "OFF1" 10 10 .rw 0 true, fd "OFF2" 20 10 .rw 0 true],
  reg "PMAP_INn_FRAMES" 0x130 2 0x40 [fd "COUNT" 0 32 .rc 0 false],
  reg "PMAP_INn_GAPS" 0x134 2 0x40 [fd "COUNT" 0 32 .rc 0 false],
  reg "PMAP_INn_DROP" 0x138 2 0x40 [fd "COUNT" 0 32 .rc 0 false],
  reg "PMAP_INn_REUSE" 0x13c 2 0x40 [fd "COUNT" 0 32 .rc 0 false]]
/-- The registers of PMAP. -/
def regs_pmap : List RegD := regs_pmap_0 ++ regs_pmap_1 ++ regs_pmap_2
/-! ## PXP (spec/07_show_frame_lock.md) -/
def A.PXP_CTRL : Nat := 0x40060000
def F.PXP_CTRL_RUN : Fld := ⟨A.PXP_CTRL, 0, 1⟩
def A.PXP_STAT : Nat := 0x40060004
def F.PXP_STAT_BUSY : Fld := ⟨A.PXP_STAT, 0, 16⟩
def A.PXP_ERR : Nat := 0x40060008
def F.PXP_ERR_STOPONLY : Fld := ⟨A.PXP_ERR, 0, 1⟩
def F.PXP_ERR_CONFIG : Fld := ⟨A.PXP_ERR, 1, 1⟩
def F.PXP_ERR_RDMBUSY : Fld := ⟨A.PXP_ERR, 2, 1⟩
def F.PXP_ERR_CFG_PORT : Fld := ⟨A.PXP_ERR, 8, 4⟩
def A.PXP_EN : Nat := 0x4006000c
def F.PXP_EN_EN : Fld := ⟨A.PXP_EN, 0, 16⟩
def A.PXP_CFG (n : Nat) : Nat := 0x40060100 + 0x20 * n
def F.PXP_CFG_MODE (n : Nat) : Fld := ⟨A.PXP_CFG n, 0, 2⟩
def F.PXP_CFG_INV (n : Nat) : Fld := ⟨A.PXP_CFG n, 2, 1⟩
def F.PXP_CFG_DIV (n : Nat) : Fld := ⟨A.PXP_CFG n, 4, 4⟩
def A.PXP_NRZ (n : Nat) : Nat := 0x40060104 + 0x20 * n
def F.PXP_NRZ_T0H (n : Nat) : Fld := ⟨A.PXP_NRZ n, 0, 8⟩
def F.PXP_NRZ_T1H (n : Nat) : Fld := ⟨A.PXP_NRZ n, 8, 8⟩
def F.PXP_NRZ_TBIT (n : Nat) : Fld := ⟨A.PXP_NRZ n, 16, 8⟩
def F.PXP_NRZ_LATCH (n : Nat) : Fld := ⟨A.PXP_NRZ n, 24, 8⟩
def A.PXP_CLK (n : Nat) : Nat := 0x40060108 + 0x20 * n
def F.PXP_CLK_DIV (n : Nat) : Fld := ⟨A.PXP_CLK n, 0, 12⟩
def F.PXP_CLK_PRE (n : Nat) : Fld := ⟨A.PXP_CLK n, 16, 5⟩
def F.PXP_CLK_POST (n : Nat) : Fld := ⟨A.PXP_CLK n, 24, 6⟩
def A.PXP_DMX (n : Nat) : Nat := 0x4006010c + 0x20 * n
def F.PXP_DMX_BREAK (n : Nat) : Fld := ⟨A.PXP_DMX n, 0, 10⟩
def F.PXP_DMX_MAB (n : Nat) : Fld := ⟨A.PXP_DMX n, 12, 6⟩
def F.PXP_DMX_SC (n : Nat) : Fld := ⟨A.PXP_DMX n, 24, 8⟩
def A.PXP_RDM_ADDR (n : Nat) : Nat := 0x40060110 + 0x20 * n
def F.PXP_RDM_ADDR_ADDR (n : Nat) : Fld := ⟨A.PXP_RDM_ADDR n, 0, 32⟩
def A.PXP_RDM_CTL (n : Nat) : Nat := 0x40060114 + 0x20 * n
def F.PXP_RDM_CTL_LEN (n : Nat) : Fld := ⟨A.PXP_RDM_CTL n, 0, 9⟩
def F.PXP_RDM_CTL_RILL (n : Nat) : Fld := ⟨A.PXP_RDM_CTL n, 16, 6⟩
def F.PXP_RDM_CTL_GO (n : Nat) : Fld := ⟨A.PXP_RDM_CTL n, 31, 1⟩
def A.PXP_LEN (n : Nat) : Nat := 0x40060118 + 0x20 * n
def F.PXP_LEN_BYTES (n : Nat) : Fld := ⟨A.PXP_LEN n, 0, 15⟩
def A.PXP_OVERRUN (n : Nat) : Nat := 0x4006011c + 0x20 * n
def F.PXP_OVERRUN_COUNT (n : Nat) : Fld := ⟨A.PXP_OVERRUN n, 0, 32⟩
def regs_pxp_0 : List RegD := [
  reg "PXP_CTRL" 0x0 1 0x0 [fd "RUN" 0 1 .rw 0 false],
  reg "PXP_STAT" 0x4 1 0x0 [fd "BUSY" 0 16 .ro 0 false],
  reg "PXP_ERR" 0x8 1 0x0 [fd "STOPONLY" 0 1 .w1c 0 false, fd "CONFIG" 1 1 .w1c 0 false, fd "RDMBUSY" 2 1 .w1c 0 false, fd "CFG_PORT" 8 4 .ro 0 false],
  reg "PXP_EN" 0xc 1 0x0 [fd "EN" 0 16 .rw 0 true],
  reg "PXPp_CFG" 0x100 16 0x20 [fd "MODE" 0 2 .rw 0 true, fd "INV" 2 1 .rw 0 true, fd "DIV" 4 4 .rw 1 true],
  reg "PXPp_NRZ" 0x104 16 0x20 [fd "T0H" 0 8 .rw 0x28 true, fd "T1H" 8 8 .rw 0x50 true, fd "TBIT" 16 8 .rw 0x7d true, fd "LATCH" 24 8 .rw 0x1c true],
  reg "PXPp_CLK" 0x108 16 0x20 [fd "DIV" 0 12 .rw 5 true, fd "PRE" 16 5 .rw 4 true, fd "POST" 24 6 .rw 4 true],
  reg "PXPp_DMX" 0x10c 16 0x20 [fd "BREAK" 0 10 .rw 0xb0 true, fd "MAB" 12 6 .rw 0x10 true, fd "SC" 24 8 .rw 0 true],
  reg "PXPp_RDM_ADDR" 0x110 16 0x20 [fd "ADDR" 0 32 .rw 0 false],
  reg "PXPp_RDM_CTL" 0x114 16 0x20 [fd "LEN" 0 9 .rw 0 false, fd "RILL" 16 6 .rw 0 false, fd "GO" 31 1 .wo 0 false],
  reg "PXPp_LEN" 0x118 16 0x20 [fd "BYTES" 0 15 .ro 0 false],
  reg "PXPp_OVERRUN" 0x11c 16 0x20 [fd "COUNT" 0 32 .rc 0 false]]
/-- The registers of PXP. -/
def regs_pxp : List RegD := regs_pxp_0
/-! ## FLK (spec/07_show_frame_lock.md) -/
def A.FLK_CTRL : Nat := 0x40070000
def F.FLK_CTRL_RUN : Fld := ⟨A.FLK_CTRL, 0, 1⟩
def A.FLK_STAT : Nat := 0x40070004
def F.FLK_STAT_LOCKED : Fld := ⟨A.FLK_STAT, 0, 1⟩
def F.FLK_STAT_HOLDOVER : Fld := ⟨A.FLK_STAT, 1, 1⟩
def F.FLK_STAT_SRC : Fld := ⟨A.FLK_STAT, 2, 2⟩
def F.FLK_STAT_PENDING : Fld := ⟨A.FLK_STAT, 4, 1⟩
def F.FLK_STAT_LTC_LOCK : Fld := ⟨A.FLK_STAT, 5, 1⟩
def F.FLK_STAT_LTC_REV : Fld := ⟨A.FLK_STAT, 6, 1⟩
def A.FLK_ERR : Nat := 0x40070008
def F.FLK_ERR_STOPONLY : Fld := ⟨A.FLK_ERR, 0, 1⟩
def F.FLK_ERR_CONFIG : Fld := ⟨A.FLK_ERR, 1, 1⟩
def F.FLK_ERR_SRCLOST : Fld := ⟨A.FLK_ERR, 2, 1⟩
def F.FLK_ERR_SRCREQ : Fld := ⟨A.FLK_ERR, 3, 1⟩
def F.FLK_ERR_CFG_CAUSE : Fld := ⟨A.FLK_ERR, 8, 8⟩
def A.FLK_RATE : Nat := 0x4007000c
def F.FLK_RATE_NUM : Fld := ⟨A.FLK_RATE, 0, 16⟩
def F.FLK_RATE_DEN : Fld := ⟨A.FLK_RATE, 16, 16⟩
def A.FLK_LAT : Nat := 0x40070010
def F.FLK_LAT_NS : Fld := ⟨A.FLK_LAT, 0, 32⟩
def A.FLK_GUARD : Nat := 0x40070014
def F.FLK_GUARD_NS : Fld := ⟨A.FLK_GUARD, 0, 32⟩
def A.FLK_PHASE : Nat := 0x40070018
def F.FLK_PHASE_NS : Fld := ⟨A.FLK_PHASE, 0, 32⟩
def A.FLK_SRC : Nat := 0x4007001c
def F.FLK_SRC_REQ : Fld := ⟨A.FLK_SRC, 0, 2⟩
def F.FLK_SRC_FALLBACK : Fld := ⟨A.FLK_SRC, 4, 2⟩
def A.FLK_SYNC : Nat := 0x40070020
def F.FLK_SYNC_UNIV : Fld := ⟨A.FLK_SYNC, 0, 16⟩
def F.FLK_SYNC_EN : Fld := ⟨A.FLK_SYNC, 16, 1⟩
def A.FLK_EVT : Nat := 0x40070024
def F.FLK_EVT_RILL : Fld := ⟨A.FLK_EVT, 0, 6⟩
def F.FLK_EVT_EN : Fld := ⟨A.FLK_EVT, 8, 1⟩
def A.FLK_FRAME_LO : Nat := 0x40070028
def F.FLK_FRAME_LO_VALUE : Fld := ⟨A.FLK_FRAME_LO, 0, 32⟩
def A.FLK_FRAME_HI : Nat := 0x4007002c
def F.FLK_FRAME_HI_VALUE : Fld := ⟨A.FLK_FRAME_HI, 0, 32⟩
def A.FLK_NEXT_LO : Nat := 0x40070030
def F.FLK_NEXT_LO_VALUE : Fld := ⟨A.FLK_NEXT_LO, 0, 32⟩
def A.FLK_NEXT_HI : Nat := 0x40070034
def F.FLK_NEXT_HI_VALUE : Fld := ⟨A.FLK_NEXT_HI, 0, 32⟩
def A.FLK_PERIOD : Nat := 0x40070038
def F.FLK_PERIOD_NS : Fld := ⟨A.FLK_PERIOD, 0, 32⟩
def A.FLK_LATE : Nat := 0x40070040
def F.FLK_LATE_COUNT : Fld := ⟨A.FLK_LATE, 0, 32⟩
def A.FLK_SKIP : Nat := 0x40070044
def F.FLK_SKIP_COUNT : Fld := ⟨A.FLK_SKIP, 0, 32⟩
def A.FLK_SWITCHES : Nat := 0x40070048
def F.FLK_SWITCHES_COUNT : Fld := ⟨A.FLK_SWITCHES, 0, 32⟩
def A.FLK_SRC_MISS : Nat := 0x4007004c
def F.FLK_SRC_MISS_COUNT : Fld := ⟨A.FLK_SRC_MISS, 0, 32⟩
def A.FLK_EVT_LOST : Nat := 0x40070050
def F.FLK_EVT_LOST_COUNT : Fld := ⟨A.FLK_EVT_LOST, 0, 32⟩
def A.FLK_CUE_LOST : Nat := 0x40070054
def F.FLK_CUE_LOST_COUNT : Fld := ⟨A.FLK_CUE_LOST, 0, 32⟩
def A.FLK_LTC_LOST : Nat := 0x40070058
def F.FLK_LTC_LOST_COUNT : Fld := ⟨A.FLK_LTC_LOST, 0, 32⟩
def A.FLK_LTC_CFG : Nat := 0x40070080
def F.FLK_LTC_CFG_RATE : Fld := ⟨A.FLK_LTC_CFG, 0, 2⟩
def F.FLK_LTC_CFG_EN : Fld := ⟨A.FLK_LTC_CFG, 2, 1⟩
def A.FLK_LTC_COUNT : Nat := 0x40070084
def F.FLK_LTC_COUNT_COUNT : Fld := ⟨A.FLK_LTC_COUNT, 0, 24⟩
def F.FLK_LTC_COUNT_REV : Fld := ⟨A.FLK_LTC_COUNT, 24, 1⟩
def A.FLK_LTC_STAMP_LO : Nat := 0x40070088
def F.FLK_LTC_STAMP_LO_VALUE : Fld := ⟨A.FLK_LTC_STAMP_LO, 0, 32⟩
def A.FLK_LTC_STAMP_HI : Nat := 0x4007008c
def F.FLK_LTC_STAMP_HI_VALUE : Fld := ⟨A.FLK_LTC_STAMP_HI, 0, 32⟩
def A.FLK_CUE_BASE : Nat := 0x40070090
def F.FLK_CUE_BASE_ADDR : Fld := ⟨A.FLK_CUE_BASE, 0, 32⟩
def A.FLK_CUE_CNT : Nat := 0x40070094
def F.FLK_CUE_CNT_COUNT : Fld := ⟨A.FLK_CUE_CNT, 0, 11⟩
def A.FLK_CUE_RILL : Nat := 0x40070098
def F.FLK_CUE_RILL_RILL : Fld := ⟨A.FLK_CUE_RILL, 0, 6⟩
def F.FLK_CUE_RILL_EN : Fld := ⟨A.FLK_CUE_RILL, 8, 1⟩
def regs_flk_0 : List RegD := [
  reg "FLK_CTRL" 0x0 1 0x0 [fd "RUN" 0 1 .rw 0 false],
  reg "FLK_STAT" 0x4 1 0x0 [fd "LOCKED" 0 1 .ro 0 false, fd "HOLDOVER" 1 1 .ro 0 false, fd "SRC" 2 2 .ro 0 false, fd "PENDING" 4 1 .ro 0 false, fd "LTC_LOCK" 5 1 .ro 0 false, fd "LTC_REV" 6 1 .ro 0 false],
  reg "FLK_ERR" 0x8 1 0x0 [fd "STOPONLY" 0 1 .w1c 0 false, fd "CONFIG" 1 1 .w1c 0 false, fd "SRCLOST" 2 1 .w1c 0 false, fd "SRCREQ" 3 1 .w1c 0 false, fd "CFG_CAUSE" 8 8 .ro 0 false],
  reg "FLK_RATE" 0xc 1 0x0 [fd "NUM" 0 16 .rw 0x3c true, fd "DEN" 16 16 .rw 1 true],
  reg "FLK_LAT" 0x10 1 0x0 [fd "NS" 0 32 .rw 0x4c4b40 true],
  reg "FLK_GUARD" 0x14 1 0x0 [fd "NS" 0 32 .rw 0x2710 true],
  reg "FLK_PHASE" 0x18 1 0x0 [fd "NS" 0 32 .rw 0 true],
  reg "FLK_SRC" 0x1c 1 0x0 [fd "REQ" 0 2 .rw 0 false, fd "FALLBACK" 4 2 .rw 0 true],
  reg "FLK_SYNC" 0x20 1 0x0 [fd "UNIV" 0 16 .rw 0 true, fd "EN" 16 1 .rw 0 true],
  reg "FLK_EVT" 0x24 1 0x0 [fd "RILL" 0 6 .rw 0 true, fd "EN" 8 1 .rw 0 true],
  reg "FLK_FRAME_LO" 0x28 1 0x0 [fd "VALUE" 0 32 .rl 0 false],
  reg "FLK_FRAME_HI" 0x2c 1 0x0 [fd "VALUE" 0 32 .ro 0 false]]
def regs_flk_1 : List RegD := [
  reg "FLK_NEXT_LO" 0x30 1 0x0 [fd "VALUE" 0 32 .rl 0 false],
  reg "FLK_NEXT_HI" 0x34 1 0x0 [fd "VALUE" 0 32 .ro 0 false],
  reg "FLK_PERIOD" 0x38 1 0x0 [fd "NS" 0 32 .ro 0 false],
  reg "FLK_LATE" 0x40 1 0x0 [fd "COUNT" 0 32 .rc 0 false],
  reg "FLK_SKIP" 0x44 1 0x0 [fd "COUNT" 0 32 .rc 0 false],
  reg "FLK_SWITCHES" 0x48 1 0x0 [fd "COUNT" 0 32 .rc 0 false],
  reg "FLK_SRC_MISS" 0x4c 1 0x0 [fd "COUNT" 0 32 .rc 0 false],
  reg "FLK_EVT_LOST" 0x50 1 0x0 [fd "COUNT" 0 32 .rc 0 false],
  reg "FLK_CUE_LOST" 0x54 1 0x0 [fd "COUNT" 0 32 .rc 0 false],
  reg "FLK_LTC_LOST" 0x58 1 0x0 [fd "COUNT" 0 32 .rc 0 false],
  reg "FLK_LTC_CFG" 0x80 1 0x0 [fd "RATE" 0 2 .rw 1 true, fd "EN" 2 1 .rw 0 true],
  reg "FLK_LTC_COUNT" 0x84 1 0x0 [fd "COUNT" 0 24 .rl 0 false, fd "REV" 24 1 .rl 0 false]]
def regs_flk_2 : List RegD := [
  reg "FLK_LTC_STAMP_LO" 0x88 1 0x0 [fd "VALUE" 0 32 .ro 0 false],
  reg "FLK_LTC_STAMP_HI" 0x8c 1 0x0 [fd "VALUE" 0 32 .ro 0 false],
  reg "FLK_CUE_BASE" 0x90 1 0x0 [fd "ADDR" 0 32 .rw 0 true],
  reg "FLK_CUE_CNT" 0x94 1 0x0 [fd "COUNT" 0 11 .rw 0 true],
  reg "FLK_CUE_RILL" 0x98 1 0x0 [fd "RILL" 0 6 .rw 0 true, fd "EN" 8 1 .rw 0 true]]
/-- The registers of FLK. -/
def regs_flk : List RegD := regs_flk_0 ++ regs_flk_1 ++ regs_flk_2
end Sys2Proof.Machine
end

