-- ==== Sys2Proof/Machine/RegTableStreet.lean ====
section
/-!
DEFINITION. The register maps of SYS, WEIR, RILL, LAMP, CORR, written from the register tables of spec/:
the address `A.<REGISTER>` of each register (a function of its index where it is an array, and of the port for
ETHA and ETHB), the place `F.<REGISTER>_<FIELD>` of each field, and per block the list of its register families.
-/
namespace Sys2Proof.Machine
/-! ## SYS (spec/17_power_start.md) -/
def A.SYS_CTRL : Nat := 0x40000000
def F.SYS_CTRL_RUN : Fld := ⟨A.SYS_CTRL, 0, 1⟩
def A.SYS_STAT : Nat := 0x40000004
def F.SYS_STAT_VIN_WARN : Fld := ⟨A.SYS_STAT, 0, 1⟩
def F.SYS_STAT_BELOWSLOW : Fld := ⟨A.SYS_STAT, 1, 1⟩
def F.SYS_STAT_VIOA_OK : Fld := ⟨A.SYS_STAT, 2, 1⟩
def F.SYS_STAT_VIOA_3V3 : Fld := ⟨A.SYS_STAT, 3, 1⟩
def F.SYS_STAT_VIOB_OK : Fld := ⟨A.SYS_STAT, 4, 1⟩
def F.SYS_STAT_VIOB_3V3 : Fld := ⟨A.SYS_STAT, 5, 1⟩
def F.SYS_STAT_VHOLDOK : Fld := ⟨A.SYS_STAT, 6, 1⟩
def F.SYS_STAT_FAILSAFE : Fld := ⟨A.SYS_STAT, 7, 1⟩
def A.SYS_ERR : Nat := 0x40000008
def F.SYS_ERR_STOPONLY : Fld := ⟨A.SYS_ERR, 0, 1⟩
def F.SYS_ERR_CONFIG : Fld := ⟨A.SYS_ERR, 1, 1⟩
def F.SYS_ERR_PWRREF : Fld := ⟨A.SYS_ERR, 2, 1⟩
def F.SYS_ERR_CORERST : Fld := ⟨A.SYS_ERR, 3, 1⟩
def F.SYS_ERR_RSTKEY : Fld := ⟨A.SYS_ERR, 4, 1⟩
def F.SYS_ERR_PWR_DOM : Fld := ⟨A.SYS_ERR, 8, 4⟩
def F.SYS_ERR_CFG_CAUSE : Fld := ⟨A.SYS_ERR, 16, 8⟩
def A.SYS_RST_CAUSE : Nat := 0x4000000c
def F.SYS_RST_CAUSE_KIND : Fld := ⟨A.SYS_RST_CAUSE, 0, 4⟩
def A.SYS_RST_CMD : Nat := 0x40000010
def F.SYS_RST_CMD_KEY : Fld := ⟨A.SYS_RST_CMD, 0, 8⟩
def F.SYS_RST_CMD_SYSTEM : Fld := ⟨A.SYS_RST_CMD, 8, 1⟩
def F.SYS_RST_CMD_STANDBY : Fld := ⟨A.SYS_RST_CMD, 9, 1⟩
def A.SYS_PERF : Nat := 0x40000014
def F.SYS_PERF_MV : Fld := ⟨A.SYS_PERF, 0, 10⟩
def A.SYS_PWR_EN : Nat := 0x40000018
def F.SYS_PWR_EN_EN : Fld := ⟨A.SYS_PWR_EN, 0, 16⟩
def A.SYS_PWR_STAT : Nat := 0x4000001c
def F.SYS_PWR_STAT_ON : Fld := ⟨A.SYS_PWR_STAT, 0, 16⟩
def A.SYS_CORE_RST : Nat := 0x40000020
def F.SYS_CORE_RST_CORES : Fld := ⟨A.SYS_CORE_RST, 0, 24⟩
def A.SYS_WDOG : Nat := 0x40000024
def F.SYS_WDOG_MS : Fld := ⟨A.SYS_WDOG, 0, 10⟩
def F.SYS_WDOG_RST : Fld := ⟨A.SYS_WDOG, 16, 1⟩
def A.SYS_KICK : Nat := 0x40000028
def F.SYS_KICK_KICK : Fld := ⟨A.SYS_KICK, 0, 32⟩
def A.SYS_ALIVE : Nat := 0x4000002c
def F.SYS_ALIVE_ALIVE : Fld := ⟨A.SYS_ALIVE, 0, 1⟩
def A.SYS_WAKE : Nat := 0x40000030
def F.SYS_WAKE_TRIG : Fld := ⟨A.SYS_WAKE, 0, 4⟩
def A.SYS_EVT : Nat := 0x40000034
def F.SYS_EVT_RILL : Fld := ⟨A.SYS_EVT, 0, 6⟩
def F.SYS_EVT_EN : Fld := ⟨A.SYS_EVT, 8, 1⟩
def A.SYS_MON : Nat := 0x40000038
def F.SYS_MON_VIN : Fld := ⟨A.SYS_MON, 0, 13⟩
def F.SYS_MON_VCORE : Fld := ⟨A.SYS_MON, 16, 10⟩
def A.SYS_TEMP : Nat := 0x4000003c
def F.SYS_TEMP_TJ : Fld := ⟨A.SYS_TEMP, 0, 16⟩
def A.SYS_VIN_WARN_CNT : Nat := 0x40000100
def F.SYS_VIN_WARN_CNT_COUNT : Fld := ⟨A.SYS_VIN_WARN_CNT, 0, 32⟩
def A.SYS_BROWNOUTS : Nat := 0x40000104
def F.SYS_BROWNOUTS_COUNT : Fld := ⟨A.SYS_BROWNOUTS, 0, 32⟩
def A.SYS_WDOG_EXP : Nat := 0x40000108
def F.SYS_WDOG_EXP_COUNT : Fld := ⟨A.SYS_WDOG_EXP, 0, 32⟩
def A.SYS_PWR_REFUSED : Nat := 0x4000010c
def F.SYS_PWR_REFUSED_COUNT : Fld := ⟨A.SYS_PWR_REFUSED, 0, 32⟩
def A.SYS_EVT_LOST : Nat := 0x40000110
def F.SYS_EVT_LOST_COUNT : Fld := ⟨A.SYS_EVT_LOST, 0, 32⟩
def regs_sys_0 : List RegD := [
  reg "SYS_CTRL" 0x0 1 0x0 [fd "RUN" 0 1 .rw 0 false],
  reg "SYS_STAT" 0x4 1 0x0 [fd "VIN_WARN" 0 1 .ro 0 false, fd "BELOWSLOW" 1 1 .ro 0 false, fd "VIOA_OK" 2 1 .ro 0 false, fd "VIOA_3V3" 3 1 .ro 0 false, fd "VIOB_OK" 4 1 .ro 0 false, fd "VIOB_3V3" 5 1 .ro 0 false, fd "VHOLDOK" 6 1 .ro 0 false, fd "FAILSAFE" 7 1 .ro 1 false],
  reg "SYS_ERR" 0x8 1 0x0 [fd "STOPONLY" 0 1 .w1c 0 false, fd "CONFIG" 1 1 .w1c 0 false, fd "PWRREF" 2 1 .w1c 0 false, fd "CORERST" 3 1 .w1c 0 false, fd "RSTKEY" 4 1 .w1c 0 false, fd "PWR_DOM" 8 4 .ro 0 false, fd "CFG_CAUSE" 16 8 .ro 0 false],
  reg "SYS_RST_CAUSE" 0xc 1 0x0 [fd "KIND" 0 4 .ro 0 false],
  reg "SYS_RST_CMD" 0x10 1 0x0 [fd "KEY" 0 8 .wo 0 false, fd "SYSTEM" 8 1 .wo 0 false, fd "STANDBY" 9 1 .wo 0 false],
  reg "SYS_PERF" 0x14 1 0x0 [fd "MV" 0 10 .rw 0x320 false],
  reg "SYS_PWR_EN" 0x18 1 0x0 [fd "EN" 0 16 .rw 0xffff false],
  reg "SYS_PWR_STAT" 0x1c 1 0x0 [fd "ON" 0 16 .ro 0xffff false],
  reg "SYS_CORE_RST" 0x20 1 0x0 [fd "CORES" 0 24 .w1s 0 false],
  reg "SYS_WDOG" 0x24 1 0x0 [fd "MS" 0 10 .rw 0 false, fd "RST" 16 1 .rw 1 false],
  reg "SYS_KICK" 0x28 1 0x0 [fd "KICK" 0 32 .wo 0 false],
  reg "SYS_ALIVE" 0x2c 1 0x0 [fd "ALIVE" 0 1 .rw 0 false]]
def regs_sys_1 : List RegD := [
  reg "SYS_WAKE" 0x30 1 0x0 [fd "TRIG" 0 4 .rw 0 false],
  reg "SYS_EVT" 0x34 1 0x0 [fd "RILL" 0 6 .rw 0 true, fd "EN" 8 1 .rw 0 true],
  reg "SYS_MON" 0x38 1 0x0 [fd "VIN" 0 13 .ro 0 false, fd "VCORE" 16 10 .ro 0 false],
  reg "SYS_TEMP" 0x3c 1 0x0 [fd "TJ" 0 16 .ro 0 false],
  reg "SYS_VIN_WARN_CNT" 0x100 1 0x0 [fd "COUNT" 0 32 .rc 0 false],
  reg "SYS_BROWNOUTS" 0x104 1 0x0 [fd "COUNT" 0 32 .rc 0 false],
  reg "SYS_WDOG_EXP" 0x108 1 0x0 [fd "COUNT" 0 32 .rc 0 false],
  reg "SYS_PWR_REFUSED" 0x10c 1 0x0 [fd "COUNT" 0 32 .rc 0 false],
  reg "SYS_EVT_LOST" 0x110 1 0x0 [fd "COUNT" 0 32 .rc 0 false]]
/-- The registers of SYS. -/
def regs_sys : List RegD := regs_sys_0 ++ regs_sys_1
/-! ## WEIR (spec/04_weir_rills.md) -/
def A.WEIR_CTRL : Nat := 0x40010000
def F.WEIR_CTRL_RUN : Fld := ⟨A.WEIR_CTRL, 0, 1⟩
def A.WEIR_STAT : Nat := 0x40010004
def F.WEIR_STAT_READY : Fld := ⟨A.WEIR_STAT, 0, 13⟩
def F.WEIR_STAT_WAITING : Fld := ⟨A.WEIR_STAT, 16, 5⟩
def A.WEIR_ERR : Nat := 0x40010008
def F.WEIR_ERR_STOPONLY : Fld := ⟨A.WEIR_ERR, 0, 1⟩
def F.WEIR_ERR_CONFIG : Fld := ⟨A.WEIR_ERR, 1, 1⟩
def F.WEIR_ERR_FULL : Fld := ⟨A.WEIR_ERR, 2, 1⟩
def F.WEIR_ERR_MISSRILL : Fld := ⟨A.WEIR_ERR, 3, 1⟩
def F.WEIR_ERR_CFG_GROUP : Fld := ⟨A.WEIR_ERR, 8, 2⟩
def A.WEIR_CORE_EN : Nat := 0x4001000c
def F.WEIR_CORE_EN_EN : Fld := ⟨A.WEIR_CORE_EN, 0, 24⟩
def A.WEIR_CORE_GRP_LO : Nat := 0x40010010
def F.WEIR_CORE_GRP_LO_GRP : Fld := ⟨A.WEIR_CORE_GRP_LO, 0, 32⟩
def A.WEIR_CORE_GRP_HI : Nat := 0x40010014
def F.WEIR_CORE_GRP_HI_GRP : Fld := ⟨A.WEIR_CORE_GRP_HI, 0, 16⟩
def A.WEIR_FLUSH : Nat := 0x40010018
def F.WEIR_FLUSH_GROUPS : Fld := ⟨A.WEIR_FLUSH, 0, 4⟩
def A.WEIR_HALTED : Nat := 0x4001001c
def F.WEIR_HALTED_CORES : Fld := ⟨A.WEIR_HALTED, 0, 24⟩
def A.WEIR_REFUSED : Nat := 0x40010020
def F.WEIR_REFUSED_COUNT : Fld := ⟨A.WEIR_REFUSED, 0, 32⟩
def A.WEIR_TRIG_LOST : Nat := 0x40010024
def F.WEIR_TRIG_LOST_COUNT : Fld := ⟨A.WEIR_TRIG_LOST, 0, 32⟩
def A.WEIR_INVALID : Nat := 0x40010028
def F.WEIR_INVALID_COUNT : Fld := ⟨A.WEIR_INVALID, 0, 32⟩
def A.WEIR_MISS_CNT : Nat := 0x4001002c
def F.WEIR_MISS_CNT_COUNT : Fld := ⟨A.WEIR_MISS_CNT, 0, 32⟩
def A.WEIR_PASTDUE_CNT : Nat := 0x40010030
def F.WEIR_PASTDUE_CNT_COUNT : Fld := ⟨A.WEIR_PASTDUE_CNT, 0, 32⟩
def A.WEIR_LATE_MAX : Nat := 0x40010034
def F.WEIR_LATE_MAX_COUNT : Fld := ⟨A.WEIR_LATE_MAX, 0, 32⟩
def A.WEIR_MISS_CFG : Nat := 0x40010038
def F.WEIR_MISS_CFG_RILL : Fld := ⟨A.WEIR_MISS_CFG, 0, 6⟩
def F.WEIR_MISS_CFG_EN : Fld := ⟨A.WEIR_MISS_CFG, 8, 1⟩
def A.WEIR_MISS_LOST : Nat := 0x4001003c
def F.WEIR_MISS_LOST_COUNT : Fld := ⟨A.WEIR_MISS_LOST, 0, 32⟩
def A.WEIR_FLUSHED : Nat := 0x40010040
def F.WEIR_FLUSHED_COUNT : Fld := ⟨A.WEIR_FLUSHED, 0, 32⟩
def A.WEIR_GCFG (n : Nat) : Nat := 0x40010100 + 0x10 * n
def F.WEIR_GCFG_EN (n : Nat) : Fld := ⟨A.WEIR_GCFG n, 0, 1⟩
def F.WEIR_GCFG_ORDER (n : Nat) : Fld := ⟨A.WEIR_GCFG n, 1, 1⟩
def F.WEIR_GCFG_MODE (n : Nat) : Fld := ⟨A.WEIR_GCFG n, 2, 1⟩
def F.WEIR_GCFG_BUDEN (n : Nat) : Fld := ⟨A.WEIR_GCFG n, 3, 1⟩
def A.WEIR_GBUD (n : Nat) : Nat := 0x40010104 + 0x10 * n
def F.WEIR_GBUD_BUDGET (n : Nat) : Fld := ⟨A.WEIR_GBUD n, 0, 32⟩
def A.WEIR_GSTAT (n : Nat) : Nat := 0x40010108 + 0x10 * n
def F.WEIR_GSTAT_READY (n : Nat) : Fld := ⟨A.WEIR_GSTAT n, 0, 13⟩
def F.WEIR_GSTAT_WAITING (n : Nat) : Fld := ⟨A.WEIR_GSTAT n, 16, 5⟩
def F.WEIR_GSTAT_RUNNING (n : Nat) : Fld := ⟨A.WEIR_GSTAT n, 24, 5⟩
def A.WEIR_GDISP (n : Nat) : Nat := 0x4001010c + 0x10 * n
def F.WEIR_GDISP_COUNT (n : Nat) : Fld := ⟨A.WEIR_GDISP n, 0, 32⟩
def A.WEIR_MISS_CLS (n : Nat) : Nat := 0x40010200 + 0x4 * n
def F.WEIR_MISS_CLS_COUNT (n : Nat) : Fld := ⟨A.WEIR_MISS_CLS n, 0, 32⟩
def regs_weir_0 : List RegD := [
  reg "WEIR_CTRL" 0x0 1 0x0 [fd "RUN" 0 1 .rw 0 false],
  reg "WEIR_STAT" 0x4 1 0x0 [fd "READY" 0 13 .ro 0 false, fd "WAITING" 16 5 .ro 0 false],
  reg "WEIR_ERR" 0x8 1 0x0 [fd "STOPONLY" 0 1 .w1c 0 false, fd "CONFIG" 1 1 .w1c 0 false, fd "FULL" 2 1 .w1c 0 false, fd "MISSRILL" 3 1 .ro 0 false, fd "CFG_GROUP" 8 2 .ro 0 false],
  reg "WEIR_CORE_EN" 0xc 1 0x0 [fd "EN" 0 24 .rw 0 true],
  reg "WEIR_CORE_GRP_LO" 0x10 1 0x0 [fd "GRP" 0 32 .rw 0 true],
  reg "WEIR_CORE_GRP_HI" 0x14 1 0x0 [fd "GRP" 0 16 .rw 0 true],
  reg "WEIR_FLUSH" 0x18 1 0x0 [fd "GROUPS" 0 4 .wo 0 true],
  reg "WEIR_HALTED" 0x1c 1 0x0 [fd "CORES" 0 24 .ro 0 false],
  reg "WEIR_REFUSED" 0x20 1 0x0 [fd "COUNT" 0 32 .rc 0 false],
  reg "WEIR_TRIG_LOST" 0x24 1 0x0 [fd "COUNT" 0 32 .rc 0 false],
  reg "WEIR_INVALID" 0x28 1 0x0 [fd "COUNT" 0 32 .rc 0 false],
  reg "WEIR_MISS_CNT" 0x2c 1 0x0 [fd "COUNT" 0 32 .rc 0 false]]
def regs_weir_1 : List RegD := [
  reg "WEIR_PASTDUE_CNT" 0x30 1 0x0 [fd "COUNT" 0 32 .rc 0 false],
  reg "WEIR_LATE_MAX" 0x34 1 0x0 [fd "COUNT" 0 32 .rc 0 false],
  reg "WEIR_MISS_CFG" 0x38 1 0x0 [fd "RILL" 0 6 .rw 0 true, fd "EN" 8 1 .rw 0 true],
  reg "WEIR_MISS_LOST" 0x3c 1 0x0 [fd "COUNT" 0 32 .rc 0 false],
  reg "WEIR_FLUSHED" 0x40 1 0x0 [fd "COUNT" 0 32 .rc 0 false],
  reg "WEIR_GCFGn" 0x100 4 0x10 [fd "EN" 0 1 .rw 0 true, fd "ORDER" 1 1 .rw 0 true, fd "MODE" 2 1 .rw 1 true, fd "BUDEN" 3 1 .rw 0 true],
  reg "WEIR_GBUDn" 0x104 4 0x10 [fd "BUDGET" 0 32 .rw 0 true],
  reg "WEIR_GSTATn" 0x108 4 0x10 [fd "READY" 0 13 .ro 0 false, fd "WAITING" 16 5 .ro 0 false, fd "RUNNING" 24 5 .ro 0 false],
  reg "WEIR_GDISPn" 0x10c 4 0x10 [fd "COUNT" 0 32 .rc 0 false],
  reg "WEIR_MISS_CLSk" 0x200 16 0x4 [fd "COUNT" 0 32 .rc 0 false]]
/-- The registers of WEIR. -/
def regs_weir : List RegD := regs_weir_0 ++ regs_weir_1
/-! ## RILL (spec/04_weir_rills.md) -/
def A.RILL_CTRL : Nat := 0x40020000
def F.RILL_CTRL_RUN : Fld := ⟨A.RILL_CTRL, 0, 1⟩
def A.RILL_ERR : Nat := 0x40020008
def F.RILL_ERR_STOPONLY : Fld := ⟨A.RILL_ERR, 0, 1⟩
def F.RILL_ERR_CONFIG : Fld := ⟨A.RILL_ERR, 1, 1⟩
def F.RILL_ERR_CFG_RILL : Fld := ⟨A.RILL_ERR, 8, 6⟩
def A.RILL_EN_LO : Nat := 0x4002000c
def F.RILL_EN_LO_EN : Fld := ⟨A.RILL_EN_LO, 0, 32⟩
def A.RILL_EN_HI : Nat := 0x40020010
def F.RILL_EN_HI_EN : Fld := ⟨A.RILL_EN_HI, 0, 32⟩
def A.RILL_BRIM_STAT_LO : Nat := 0x40020014
def F.RILL_BRIM_STAT_LO_STAT : Fld := ⟨A.RILL_BRIM_STAT_LO, 0, 32⟩
def A.RILL_BRIM_STAT_HI : Nat := 0x40020018
def F.RILL_BRIM_STAT_HI_STAT : Fld := ⟨A.RILL_BRIM_STAT_HI, 0, 32⟩
def A.RILL_BRIM_ENTRY : Nat := 0x40020020
def F.RILL_BRIM_ENTRY_ENTRY : Fld := ⟨A.RILL_BRIM_ENTRY, 0, 32⟩
def A.RILL_BRIM_FLAGS : Nat := 0x40020024
def F.RILL_BRIM_FLAGS_PRIO : Fld := ⟨A.RILL_BRIM_FLAGS, 0, 4⟩
def F.RILL_BRIM_FLAGS_GROUP : Fld := ⟨A.RILL_BRIM_FLAGS, 4, 2⟩
def F.RILL_BRIM_FLAGS_EN : Fld := ⟨A.RILL_BRIM_FLAGS, 8, 1⟩
def F.RILL_BRIM_FLAGS_CLASS : Fld := ⟨A.RILL_BRIM_FLAGS, 12, 4⟩
def A.RILL_BRIM_LOST : Nat := 0x40020028
def F.RILL_BRIM_LOST_COUNT : Fld := ⟨A.RILL_BRIM_LOST, 0, 32⟩
def A.RILL_PKT_ABANDON : Nat := 0x4002002c
def F.RILL_PKT_ABANDON_COUNT : Fld := ⟨A.RILL_PKT_ABANDON, 0, 32⟩
def A.RILL_DISCARDED : Nat := 0x40020030
def F.RILL_DISCARDED_COUNT : Fld := ⟨A.RILL_DISCARDED, 0, 32⟩
def A.RILL_IDLE_LO (n : Nat) : Nat := 0x40020100 + 0x8 * n
def F.RILL_IDLE_LO_VALUE (n : Nat) : Fld := ⟨A.RILL_IDLE_LO n, 0, 32⟩
def A.RILL_IDLE_HI (n : Nat) : Nat := 0x40020104 + 0x8 * n
def F.RILL_IDLE_HI_VALUE (n : Nat) : Fld := ⟨A.RILL_IDLE_HI n, 0, 32⟩
def A.RILL_CFG (n : Nat) : Nat := 0x40021000 + 0x40 * n
def F.RILL_CFG_BASE (n : Nat) : Fld := ⟨A.RILL_CFG n, 0, 17⟩
def F.RILL_CFG_SIZE (n : Nat) : Fld := ⟨A.RILL_CFG n, 20, 4⟩
def F.RILL_CFG_PACKET (n : Nat) : Fld := ⟨A.RILL_CFG n, 24, 1⟩
def F.RILL_CFG_FEED (n : Nat) : Fld := ⟨A.RILL_CFG n, 25, 1⟩
def F.RILL_CFG_SYSONLY (n : Nat) : Fld := ⟨A.RILL_CFG n, 26, 1⟩
def A.RILL_RD (n : Nat) : Nat := 0x40021004 + 0x40 * n
def F.RILL_RD_READ (n : Nat) : Fld := ⟨A.RILL_RD n, 0, 16⟩
def F.RILL_RD_RELEASE (n : Nat) : Fld := ⟨A.RILL_RD n, 16, 16⟩
def A.RILL_WR (n : Nat) : Nat := 0x40021008 + 0x40 * n
def F.RILL_WR_WRITE (n : Nat) : Fld := ⟨A.RILL_WR n, 0, 16⟩
def F.RILL_WR_VISIBLE (n : Nat) : Fld := ⟨A.RILL_WR n, 16, 16⟩
def A.RILL_STATE (n : Nat) : Nat := 0x4002100c + 0x40 * n
def F.RILL_STATE_MARK (n : Nat) : Fld := ⟨A.RILL_STATE n, 0, 16⟩
def F.RILL_STATE_MARKV (n : Nat) : Fld := ⟨A.RILL_STATE n, 16, 1⟩
def F.RILL_STATE_PKTOPEN (n : Nat) : Fld := ⟨A.RILL_STATE n, 17, 1⟩
def F.RILL_STATE_ARMED (n : Nat) : Fld := ⟨A.RILL_STATE n, 18, 1⟩
def F.RILL_STATE_FULL (n : Nat) : Fld := ⟨A.RILL_STATE n, 19, 1⟩
def A.RILL_BRIM (n : Nat) : Nat := 0x40021010 + 0x40 * n
def F.RILL_BRIM_HIGH (n : Nat) : Fld := ⟨A.RILL_BRIM n, 0, 14⟩
def F.RILL_BRIM_LOW (n : Nat) : Fld := ⟨A.RILL_BRIM n, 16, 14⟩
def A.RILL_FULLCNT (n : Nat) : Nat := 0x40021014 + 0x40 * n
def F.RILL_FULLCNT_COUNT (n : Nat) : Fld := ⟨A.RILL_FULLCNT n, 0, 32⟩
def A.RILL_FEED_ENTRY (n : Nat) : Nat := 0x40021018 + 0x40 * n
def F.RILL_FEED_ENTRY_VALUE (n : Nat) : Fld := ⟨A.RILL_FEED_ENTRY n, 0, 32⟩
def A.RILL_FEED_FLAGS (n : Nat) : Nat := 0x4002101c + 0x40 * n
def F.RILL_FEED_FLAGS_PRIO (n : Nat) : Fld := ⟨A.RILL_FEED_FLAGS n, 0, 4⟩
def F.RILL_FEED_FLAGS_GROUP (n : Nat) : Fld := ⟨A.RILL_FEED_FLAGS n, 4, 2⟩
def F.RILL_FEED_FLAGS_EDF (n : Nat) : Fld := ⟨A.RILL_FEED_FLAGS n, 6, 1⟩
def F.RILL_FEED_FLAGS_CLASS (n : Nat) : Fld := ⟨A.RILL_FEED_FLAGS n, 8, 4⟩
def A.RILL_FEED_DL (n : Nat) : Nat := 0x40021020 + 0x40 * n
def F.RILL_FEED_DL_VALUE (n : Nat) : Fld := ⟨A.RILL_FEED_DL n, 0, 32⟩
def regs_rill_0 : List RegD := [
  reg "RILL_CTRL" 0x0 1 0x0 [fd "RUN" 0 1 .rw 0 false],
  reg "RILL_ERR" 0x8 1 0x0 [fd "STOPONLY" 0 1 .w1c 0 false, fd "CONFIG" 1 1 .w1c 0 false, fd "CFG_RILL" 8 6 .ro 0 false],
  reg "RILL_EN_LO" 0xc 1 0x0 [fd "EN" 0 32 .rw 0 false],
  reg "RILL_EN_HI" 0x10 1 0x0 [fd "EN" 0 32 .rw 0 false],
  reg "RILL_BRIM_STAT_LO" 0x14 1 0x0 [fd "STAT" 0 32 .w1c 0 false],
  reg "RILL_BRIM_STAT_HI" 0x18 1 0x0 [fd "STAT" 0 32 .w1c 0 false],
  reg "RILL_BRIM_ENTRY" 0x20 1 0x0 [fd "ENTRY" 0 32 .rw 0 true],
  reg "RILL_BRIM_FLAGS" 0x24 1 0x0 [fd "PRIO" 0 4 .rw 0 true, fd "GROUP" 4 2 .rw 0 true, fd "EN" 8 1 .rw 0 true, fd "CLASS" 12 4 .rw 0 true],
  reg "RILL_BRIM_LOST" 0x28 1 0x0 [fd "COUNT" 0 32 .rc 0 false],
  reg "RILL_PKT_ABANDON" 0x2c 1 0x0 [fd "COUNT" 0 32 .rc 0 false],
  reg "RILL_DISCARDED" 0x30 1 0x0 [fd "COUNT" 0 32 .rc 0 false],
  reg "RILL_IDLEn_LO" 0x100 4 0x8 [fd "VALUE" 0 32 .rw 0 true]]
def regs_rill_1 : List RegD := [
  reg "RILL_IDLEn_HI" 0x104 4 0x8 [fd "VALUE" 0 32 .rw 0 true],
  reg "RILL_CFGn" 0x1000 64 0x40 [fd "BASE" 0 17 .rw 0 true, fd "SIZE" 20 4 .rw 0 true, fd "PACKET" 24 1 .rw 0 true, fd "FEED" 25 1 .rw 0 true, fd "SYSONLY" 26 1 .rw 0 true],
  reg "RILL_RDn" 0x1004 64 0x40 [fd "READ" 0 16 .ro 0 false, fd "RELEASE" 16 16 .ro 0 false],
  reg "RILL_WRn" 0x1008 64 0x40 [fd "WRITE" 0 16 .ro 0 false, fd "VISIBLE" 16 16 .ro 0 false],
  reg "RILL_STATEn" 0x100c 64 0x40 [fd "MARK" 0 16 .ro 0 false, fd "MARKV" 16 1 .ro 0 false, fd "PKTOPEN" 17 1 .ro 0 false, fd "ARMED" 18 1 .ro 1 false, fd "FULL" 19 1 .ro 0 false],
  reg "RILL_BRIMn" 0x1010 64 0x40 [fd "HIGH" 0 14 .rw 0 true, fd "LOW" 16 14 .rw 0 true],
  reg "RILL_FULLCNTn" 0x1014 64 0x40 [fd "COUNT" 0 32 .rc 0 false],
  reg "RILL_FEED_ENTRYn" 0x1018 64 0x40 [fd "VALUE" 0 32 .rw 0 true],
  reg "RILL_FEED_FLAGSn" 0x101c 64 0x40 [fd "PRIO" 0 4 .rw 0 true, fd "GROUP" 4 2 .rw 0 true, fd "EDF" 6 1 .rw 0 true, fd "CLASS" 8 4 .rw 0 true],
  reg "RILL_FEED_DLn" 0x1020 64 0x40 [fd "VALUE" 0 32 .rw 0 true]]
/-- The registers of RILL. -/
def regs_rill : List RegD := regs_rill_0 ++ regs_rill_1
/-! ## LAMP (spec/05_lamp_engine.md) -/
def A.LAMP_CTRL : Nat := 0x40030000
def F.LAMP_CTRL_RUN : Fld := ⟨A.LAMP_CTRL, 0, 1⟩
def A.LAMP_STAT : Nat := 0x40030004
def F.LAMP_STAT_HELD : Fld := ⟨A.LAMP_STAT, 0, 6⟩
def F.LAMP_STAT_BUSY : Fld := ⟨A.LAMP_STAT, 8, 1⟩
def A.LAMP_ERR : Nat := 0x40030008
def F.LAMP_ERR_STOPONLY : Fld := ⟨A.LAMP_ERR, 0, 1⟩
def F.LAMP_ERR_CONFIG : Fld := ⟨A.LAMP_ERR, 1, 1⟩
def F.LAMP_ERR_RECECC : Fld := ⟨A.LAMP_ERR, 2, 1⟩
def F.LAMP_ERR_BATCHBUS : Fld := ⟨A.LAMP_ERR, 3, 1⟩
def F.LAMP_ERR_ECC_INDEX : Fld := ⟨A.LAMP_ERR, 16, 16⟩
def A.LAMP_RECCNT : Nat := 0x4003000c
def F.LAMP_RECCNT_COUNT : Fld := ⟨A.LAMP_RECCNT, 0, 17⟩
def A.LAMP_EVT_CFG : Nat := 0x40030010
def F.LAMP_EVT_CFG_RILL : Fld := ⟨A.LAMP_EVT_CFG, 0, 6⟩
def F.LAMP_EVT_CFG_EN : Fld := ⟨A.LAMP_EVT_CFG, 8, 1⟩
def A.LAMP_CURVE_ADDR : Nat := 0x40030014
def F.LAMP_CURVE_ADDR_INDEX : Fld := ⟨A.LAMP_CURVE_ADDR, 0, 9⟩
def F.LAMP_CURVE_ADDR_CURVE : Fld := ⟨A.LAMP_CURVE_ADDR, 10, 2⟩
def A.LAMP_CURVE_DATA : Nat := 0x40030018
def F.LAMP_CURVE_DATA_VALUE : Fld := ⟨A.LAMP_CURVE_DATA, 0, 17⟩
def A.LAMP_FAULT_NOW : Nat := 0x40030020
def F.LAMP_FAULT_NOW_COUNT : Fld := ⟨A.LAMP_FAULT_NOW, 0, 17⟩
def A.LAMP_CLAMP_CNT : Nat := 0x40030024
def F.LAMP_CLAMP_CNT_COUNT : Fld := ⟨A.LAMP_CLAMP_CNT, 0, 32⟩
def A.LAMP_FAULT_CNT : Nat := 0x40030028
def F.LAMP_FAULT_CNT_COUNT : Fld := ⟨A.LAMP_FAULT_CNT, 0, 32⟩
def A.LAMP_STALE_CNT : Nat := 0x4003002c
def F.LAMP_STALE_CNT_COUNT : Fld := ⟨A.LAMP_STALE_CNT, 0, 32⟩
def A.LAMP_PMAP_REFUSED : Nat := 0x40030030
def F.LAMP_PMAP_REFUSED_COUNT : Fld := ⟨A.LAMP_PMAP_REFUSED, 0, 32⟩
def A.LAMP_EVT_LOST : Nat := 0x40030034
def F.LAMP_EVT_LOST_COUNT : Fld := ⟨A.LAMP_EVT_LOST, 0, 32⟩
def A.LAMP_BATCH_DONE : Nat := 0x40030038
def F.LAMP_BATCH_DONE_COUNT : Fld := ⟨A.LAMP_BATCH_DONE, 0, 32⟩
def A.LAMP_RECECC_CNT : Nat := 0x4003003c
def F.LAMP_RECECC_CNT_COUNT : Fld := ⟨A.LAMP_RECECC_CNT, 0, 32⟩
def A.LAMP_CORR_CNT : Nat := 0x40030040
def F.LAMP_CORR_CNT_COUNT : Fld := ⟨A.LAMP_CORR_CNT, 0, 32⟩
def regs_lamp_0 : List RegD := [
  reg "LAMP_CTRL" 0x0 1 0x0 [fd "RUN" 0 1 .rw 0 false],
  reg "LAMP_STAT" 0x4 1 0x0 [fd "HELD" 0 6 .ro 0 false, fd "BUSY" 8 1 .ro 0 false],
  reg "LAMP_ERR" 0x8 1 0x0 [fd "STOPONLY" 0 1 .w1c 0 false, fd "CONFIG" 1 1 .w1c 0 false, fd "RECECC" 2 1 .w1c 0 false, fd "BATCHBUS" 3 1 .w1c 0 false, fd "ECC_INDEX" 16 16 .ro 0 false],
  reg "LAMP_RECCNT" 0xc 1 0x0 [fd "COUNT" 0 17 .rw 0 true],
  reg "LAMP_EVT_CFG" 0x10 1 0x0 [fd "RILL" 0 6 .rw 0 true, fd "EN" 8 1 .rw 0 true],
  reg "LAMP_CURVE_ADDR" 0x14 1 0x0 [fd "INDEX" 0 9 .rw 0 false, fd "CURVE" 10 2 .rw 1 false],
  reg "LAMP_CURVE_DATA" 0x18 1 0x0 [fd "VALUE" 0 17 .rw 0 true],
  reg "LAMP_FAULT_NOW" 0x20 1 0x0 [fd "COUNT" 0 17 .ro 0 false],
  reg "LAMP_CLAMP_CNT" 0x24 1 0x0 [fd "COUNT" 0 32 .rc 0 false],
  reg "LAMP_FAULT_CNT" 0x28 1 0x0 [fd "COUNT" 0 32 .rc 0 false],
  reg "LAMP_STALE_CNT" 0x2c 1 0x0 [fd "COUNT" 0 32 .rc 0 false],
  reg "LAMP_PMAP_REFUSED" 0x30 1 0x0 [fd "COUNT" 0 32 .rc 0 false]]
def regs_lamp_1 : List RegD := [
  reg "LAMP_EVT_LOST" 0x34 1 0x0 [fd "COUNT" 0 32 .rc 0 false],
  reg "LAMP_BATCH_DONE" 0x38 1 0x0 [fd "COUNT" 0 32 .rc 0 false],
  reg "LAMP_RECECC_CNT" 0x3c 1 0x0 [fd "COUNT" 0 32 .rc 0 false],
  reg "LAMP_CORR_CNT" 0x40 1 0x0 [fd "COUNT" 0 32 .rc 0 false]]
/-- The registers of LAMP. -/
def regs_lamp : List RegD := regs_lamp_0 ++ regs_lamp_1
/-! ## CORR (spec/06_street_services.md) -/
def A.CORR_CTRL : Nat := 0x40040000
def F.CORR_CTRL_RUN : Fld := ⟨A.CORR_CTRL, 0, 1⟩
def F.CORR_CTRL_SOL_EN : Fld := ⟨A.CORR_CTRL, 1, 1⟩
def F.CORR_CTRL_SCHED_EN : Fld := ⟨A.CORR_CTRL, 2, 1⟩
def F.CORR_CTRL_COR_EN : Fld := ⟨A.CORR_CTRL, 3, 1⟩
def F.CORR_CTRL_FLT_EN : Fld := ⟨A.CORR_CTRL, 4, 1⟩
def A.CORR_STAT : Nat := 0x40040004
def F.CORR_STAT_NOTIME : Fld := ⟨A.CORR_STAT, 0, 1⟩
def F.CORR_STAT_LOADED : Fld := ⟨A.CORR_STAT, 1, 1⟩
def F.CORR_STAT_OUTWAIT : Fld := ⟨A.CORR_STAT, 2, 1⟩
def F.CORR_STAT_LOADING : Fld := ⟨A.CORR_STAT, 3, 1⟩
def A.CORR_ERR : Nat := 0x40040008
def F.CORR_ERR_STOPONLY : Fld := ⟨A.CORR_ERR, 0, 1⟩
def F.CORR_ERR_CONFIG : Fld := ⟨A.CORR_ERR, 1, 1⟩
def F.CORR_ERR_TBLBUS : Fld := ⟨A.CORR_ERR, 2, 1⟩
def F.CORR_ERR_CFG_CAUSE : Fld := ⟨A.CORR_ERR, 8, 8⟩
def F.CORR_ERR_CFG_INDEX : Fld := ⟨A.CORR_ERR, 16, 16⟩
def A.CORR_SEG_SYS : Nat := 0x4004000c
def F.CORR_SEG_SYS_SYSTEM : Fld := ⟨A.CORR_SEG_SYS, 0, 12⟩
def A.CORR_SEG_DS : Nat := 0x40040010
def F.CORR_SEG_DS_DISTRICT : Fld := ⟨A.CORR_SEG_DS, 0, 10⟩
def F.CORR_SEG_DS_SEGMENT : Fld := ⟨A.CORR_SEG_DS, 16, 12⟩
def A.CORR_TBL_BASE : Nat := 0x40040014
def F.CORR_TBL_BASE_BASE : Fld := ⟨A.CORR_TBL_BASE, 0, 32⟩
def A.CORR_TBL_CNT1 : Nat := 0x40040018
def F.CORR_TBL_CNT1_NODES : Fld := ⟨A.CORR_TBL_CNT1, 0, 14⟩
def F.CORR_TBL_CNT1_EDGES : Fld := ⟨A.CORR_TBL_CNT1, 16, 16⟩
def A.CORR_TBL_CNT2 : Nat := 0x4004001c
def F.CORR_TBL_CNT2_SCHED : Fld := ⟨A.CORR_TBL_CNT2, 0, 9⟩
def F.CORR_TBL_CNT2_HOL : Fld := ⟨A.CORR_TBL_CNT2, 16, 8⟩
def F.CORR_TBL_CNT2_OFFS : Fld := ⟨A.CORR_TBL_CNT2, 24, 6⟩
def A.CORR_RILLS : Nat := 0x40040020
def F.CORR_RILLS_EVT_IN : Fld := ⟨A.CORR_RILLS, 0, 6⟩
def F.CORR_RILLS_COR_OUT : Fld := ⟨A.CORR_RILLS, 8, 6⟩
def F.CORR_RILLS_FLT_IN : Fld := ⟨A.CORR_RILLS, 16, 6⟩
def F.CORR_RILLS_FLT_OUT : Fld := ⟨A.CORR_RILLS, 24, 6⟩
def A.CORR_SOL_CFG : Nat := 0x40040024
def F.CORR_SOL_CFG_PERIOD : Fld := ⟨A.CORR_SOL_CFG, 0, 6⟩
def F.CORR_SOL_CFG_REFR : Fld := ⟨A.CORR_SOL_CFG, 8, 1⟩
def F.CORR_SOL_CFG_RILL : Fld := ⟨A.CORR_SOL_CFG, 16, 6⟩
def F.CORR_SOL_CFG_SITE_EN : Fld := ⟨A.CORR_SOL_CFG, 24, 4⟩
def A.CORR_TAI_UTC : Nat := 0x40040028
def F.CORR_TAI_UTC_SECONDS : Fld := ⟨A.CORR_TAI_UTC, 0, 16⟩
def A.CORR_WEEKTYPE : Nat := 0x4004002c
def F.CORR_WEEKTYPE_TYPES : Fld := ⟨A.CORR_WEEKTYPE, 0, 28⟩
def A.CORR_TRACK : Nat := 0x40040030
def F.CORR_TRACK_SECONDS : Fld := ⟨A.CORR_TRACK, 0, 16⟩
def A.CORR_FLT_WIN : Nat := 0x40040034
def F.CORR_FLT_WIN_MS : Fld := ⟨A.CORR_FLT_WIN, 0, 32⟩
def A.CORR_FLT_FLUSH : Nat := 0x40040038
def F.CORR_FLT_FLUSH_FLUSH : Fld := ⟨A.CORR_FLT_FLUSH, 0, 1⟩
def A.CORR_FLT_OCC : Nat := 0x4004003c
def F.CORR_FLT_OCC_COUNT : Fld := ⟨A.CORR_FLT_OCC, 0, 13⟩
def A.CORR_CAL_DATE : Nat := 0x40040040
def F.CORR_CAL_DATE_DAY : Fld := ⟨A.CORR_CAL_DATE, 0, 8⟩
def F.CORR_CAL_DATE_MONTH : Fld := ⟨A.CORR_CAL_DATE, 8, 8⟩
def F.CORR_CAL_DATE_YEAR : Fld := ⟨A.CORR_CAL_DATE, 16, 16⟩
def A.CORR_CAL_TOD : Nat := 0x40040044
def F.CORR_CAL_TOD_SECONDS : Fld := ⟨A.CORR_CAL_TOD, 0, 17⟩
def F.CORR_CAL_TOD_DTYPE : Fld := ⟨A.CORR_CAL_TOD, 20, 4⟩
def A.CORR_WALKS : Nat := 0x40040060
def F.CORR_WALKS_COUNT : Fld := ⟨A.CORR_WALKS, 0, 32⟩
def A.CORR_TRUNC : Nat := 0x40040064
def F.CORR_TRUNC_COUNT : Fld := ⟨A.CORR_TRUNC, 0, 32⟩
def A.CORR_EVT_BAD : Nat := 0x40040068
def F.CORR_EVT_BAD_COUNT : Fld := ⟨A.CORR_EVT_BAD, 0, 32⟩
def A.CORR_OUT_WAIT : Nat := 0x4004006c
def F.CORR_OUT_WAIT_COUNT : Fld := ⟨A.CORR_OUT_WAIT, 0, 32⟩
def A.CORR_FLT_REPORTS : Nat := 0x40040070
def F.CORR_FLT_REPORTS_COUNT : Fld := ⟨A.CORR_FLT_REPORTS, 0, 32⟩
def A.CORR_FLT_OVERFLOW : Nat := 0x40040074
def F.CORR_FLT_OVERFLOW_COUNT : Fld := ⟨A.CORR_FLT_OVERFLOW, 0, 32⟩
def A.CORR_FLT_EVLOST : Nat := 0x40040078
def F.CORR_FLT_EVLOST_COUNT : Fld := ⟨A.CORR_FLT_EVLOST, 0, 32⟩
def A.CORR_FLT_BADIN : Nat := 0x4004007c
def F.CORR_FLT_BADIN_COUNT : Fld := ⟨A.CORR_FLT_BADIN, 0, 32⟩
def A.CORR_SCHED_LATE : Nat := 0x40040080
def F.CORR_SCHED_LATE_COUNT : Fld := ⟨A.CORR_SCHED_LATE, 0, 32⟩
def A.CORR_SITE_LAT (n : Nat) : Nat := 0x40040100 + 0x20 * n
def F.CORR_SITE_LAT_VALUE (n : Nat) : Fld := ⟨A.CORR_SITE_LAT n, 0, 32⟩
def A.CORR_SITE_LON (n : Nat) : Nat := 0x40040104 + 0x20 * n
def F.CORR_SITE_LON_VALUE (n : Nat) : Fld := ⟨A.CORR_SITE_LON n, 0, 32⟩
def A.CORR_SITE_DUSK (n : Nat) : Nat := 0x40040108 + 0x20 * n
def F.CORR_SITE_DUSK_VALUE (n : Nat) : Fld := ⟨A.CORR_SITE_DUSK n, 0, 32⟩
def A.CORR_SITE_DAWN (n : Nat) : Nat := 0x4004010c + 0x20 * n
def F.CORR_SITE_DAWN_VALUE (n : Nat) : Fld := ⟨A.CORR_SITE_DAWN n, 0, 32⟩
def A.CORR_SITE_EL (n : Nat) : Nat := 0x40040110 + 0x20 * n
def F.CORR_SITE_EL_VALUE (n : Nat) : Fld := ⟨A.CORR_SITE_EL n, 0, 32⟩
def A.CORR_SITE_AZ (n : Nat) : Nat := 0x40040114 + 0x20 * n
def F.CORR_SITE_AZ_VALUE (n : Nat) : Fld := ⟨A.CORR_SITE_AZ n, 0, 32⟩
def A.CORR_SITE_STATE (n : Nat) : Nat := 0x40040118 + 0x20 * n
def F.CORR_SITE_STATE_STATE (n : Nat) : Fld := ⟨A.CORR_SITE_STATE n, 0, 2⟩
def A.CORR_SOL_QT_LO : Nat := 0x40040180
def F.CORR_SOL_QT_LO_VALUE : Fld := ⟨A.CORR_SOL_QT_LO, 0, 32⟩
def A.CORR_SOL_QT_HI : Nat := 0x40040184
def F.CORR_SOL_QT_HI_VALUE : Fld := ⟨A.CORR_SOL_QT_HI, 0, 32⟩
def A.CORR_SOL_QCTL : Nat := 0x40040188
def F.CORR_SOL_QCTL_SITE : Fld := ⟨A.CORR_SOL_QCTL, 0, 2⟩
def A.CORR_SOL_QEL : Nat := 0x4004018c
def F.CORR_SOL_QEL_VALUE : Fld := ⟨A.CORR_SOL_QEL, 0, 32⟩
def A.CORR_SOL_QAZ : Nat := 0x40040190
def F.CORR_SOL_QAZ_VALUE : Fld := ⟨A.CORR_SOL_QAZ, 0, 32⟩
def A.CORR_SOL_QSTAT : Nat := 0x40040194
def F.CORR_SOL_QSTAT_BUSY : Fld := ⟨A.CORR_SOL_QSTAT, 0, 1⟩
def F.CORR_SOL_QSTAT_COLLIDE : Fld := ⟨A.CORR_SOL_QSTAT, 1, 1⟩
def F.CORR_SOL_QSTAT_DONE : Fld := ⟨A.CORR_SOL_QSTAT, 2, 1⟩
def A.CORR_PROF_A (n : Nat) : Nat := 0x40040200 + 0x8 * n
def F.CORR_PROF_A_LEAD (n : Nat) : Fld := ⟨A.CORR_PROF_A n, 0, 16⟩
def F.CORR_PROF_A_LEVEL (n : Nat) : Fld := ⟨A.CORR_PROF_A n, 16, 16⟩
def A.CORR_PROF_B (n : Nat) : Nat := 0x40040204 + 0x8 * n
def F.CORR_PROF_B_HOLD (n : Nat) : Fld := ⟨A.CORR_PROF_B n, 0, 16⟩
def F.CORR_PROF_B_FALL (n : Nat) : Fld := ⟨A.CORR_PROF_B n, 16, 16⟩
def regs_corr_0 : List RegD := [
  reg "CORR_CTRL" 0x0 1 0x0 [fd "RUN" 0 1 .rw 0 false, fd "SOL_EN" 1 1 .rw 0 true, fd "SCHED_EN" 2 1 .rw 0 true, fd "COR_EN" 3 1 .rw 0 true, fd "FLT_EN" 4 1 .rw 0 true],
  reg "CORR_STAT" 0x4 1 0x0 [fd "NOTIME" 0 1 .ro 1 false, fd "LOADED" 1 1 .ro 0 false, fd "OUTWAIT" 2 1 .ro 0 false, fd "LOADING" 3 1 .ro 0 false],
  reg "CORR_ERR" 0x8 1 0x0 [fd "STOPONLY" 0 1 .w1c 0 false, fd "CONFIG" 1 1 .w1c 0 false, fd "TBLBUS" 2 1 .w1c 0 false, fd "CFG_CAUSE" 8 8 .ro 0 false, fd "CFG_INDEX" 16 16 .ro 0 false],
  reg "CORR_SEG_SYS" 0xc 1 0x0 [fd "SYSTEM" 0 12 .rw 0 true],
  reg "CORR_SEG_DS" 0x10 1 0x0 [fd "DISTRICT" 0 10 .rw 0 true, fd "SEGMENT" 16 12 .rw 0 true],
  reg "CORR_TBL_BASE" 0x14 1 0x0 [fd "BASE" 0 32 .rw 0 true],
  reg "CORR_TBL_CNT1" 0x18 1 0x0 [fd "NODES" 0 14 .rw 0 true, fd "EDGES" 16 16 .rw 0 true],
  reg "CORR_TBL_CNT2" 0x1c 1 0x0 [fd "SCHED" 0 9 .rw 0 true, fd "HOL" 16 8 .rw 0 true, fd "OFFS" 24 6 .rw 0 true],
  reg "CORR_RILLS" 0x20 1 0x0 [fd "EVT_IN" 0 6 .rw 0 true, fd "COR_OUT" 8 6 .rw 0 true, fd "FLT_IN" 16 6 .rw 0 true, fd "FLT_OUT" 24 6 .rw 0 true],
  reg "CORR_SOL_CFG" 0x24 1 0x0 [fd "PERIOD" 0 6 .rw 0xa true, fd "REFR" 8 1 .rw 1 true, fd "RILL" 16 6 .rw 0 true, fd "SITE_EN" 24 4 .rw 0 true],
  reg "CORR_TAI_UTC" 0x28 1 0x0 [fd "SECONDS" 0 16 .rw 0x25 false],
  reg "CORR_WEEKTYPE" 0x2c 1 0x0 [fd "TYPES" 0 28 .rw 0 true]]
def regs_corr_1 : List RegD := [
  reg "CORR_TRACK" 0x30 1 0x0 [fd "SECONDS" 0 16 .rw 0x14 true],
  reg "CORR_FLT_WIN" 0x34 1 0x0 [fd "MS" 0 32 .rw 0x2710 true],
  reg "CORR_FLT_FLUSH" 0x38 1 0x0 [fd "FLUSH" 0 1 .wo 0 false],
  reg "CORR_FLT_OCC" 0x3c 1 0x0 [fd "COUNT" 0 13 .ro 0 false],
  reg "CORR_CAL_DATE" 0x40 1 0x0 [fd "DAY" 0 8 .rl 0 false, fd "MONTH" 8 8 .rl 0 false, fd "YEAR" 16 16 .rl 0 false],
  reg "CORR_CAL_TOD" 0x44 1 0x0 [fd "SECONDS" 0 17 .ro 0 false, fd "DTYPE" 20 4 .ro 0 false],
  reg "CORR_WALKS" 0x60 1 0x0 [fd "COUNT" 0 32 .rc 0 false],
  reg "CORR_TRUNC" 0x64 1 0x0 [fd "COUNT" 0 32 .rc 0 false],
  reg "CORR_EVT_BAD" 0x68 1 0x0 [fd "COUNT" 0 32 .rc 0 false],
  reg "CORR_OUT_WAIT" 0x6c 1 0x0 [fd "COUNT" 0 32 .rc 0 false],
  reg "CORR_FLT_REPORTS" 0x70 1 0x0 [fd "COUNT" 0 32 .rc 0 false],
  reg "CORR_FLT_OVERFLOW" 0x74 1 0x0 [fd "COUNT" 0 32 .rc 0 false]]
def regs_corr_2 : List RegD := [
  reg "CORR_FLT_EVLOST" 0x78 1 0x0 [fd "COUNT" 0 32 .rc 0 false],
  reg "CORR_FLT_BADIN" 0x7c 1 0x0 [fd "COUNT" 0 32 .rc 0 false],
  reg "CORR_SCHED_LATE" 0x80 1 0x0 [fd "COUNT" 0 32 .rc 0 false],
  reg "CORR_SITEs_LAT" 0x100 4 0x20 [fd "VALUE" 0 32 .rw 0 true],
  reg "CORR_SITEs_LON" 0x104 4 0x20 [fd "VALUE" 0 32 .rw 0 true],
  reg "CORR_SITEs_DUSK" 0x108 4 0x20 [fd "VALUE" 0 32 .rw 0 true],
  reg "CORR_SITEs_DAWN" 0x10c 4 0x20 [fd "VALUE" 0 32 .rw 0 true],
  reg "CORR_SITEs_EL" 0x110 4 0x20 [fd "VALUE" 0 32 .rl 0 false],
  reg "CORR_SITEs_AZ" 0x114 4 0x20 [fd "VALUE" 0 32 .ro 0 false],
  reg "CORR_SITEs_STATE" 0x118 4 0x20 [fd "STATE" 0 2 .ro 0 false],
  reg "CORR_SOL_QT_LO" 0x180 1 0x0 [fd "VALUE" 0 32 .rw 0 false],
  reg "CORR_SOL_QT_HI" 0x184 1 0x0 [fd "VALUE" 0 32 .rw 0 false]]
def regs_corr_3 : List RegD := [
  reg "CORR_SOL_QCTL" 0x188 1 0x0 [fd "SITE" 0 2 .rw 0 false],
  reg "CORR_SOL_QEL" 0x18c 1 0x0 [fd "VALUE" 0 32 .rl 0 false],
  reg "CORR_SOL_QAZ" 0x190 1 0x0 [fd "VALUE" 0 32 .ro 0 false],
  reg "CORR_SOL_QSTAT" 0x194 1 0x0 [fd "BUSY" 0 1 .ro 0 false, fd "COLLIDE" 1 1 .w1c 0 false, fd "DONE" 2 1 .ro 0 false],
  reg "CORR_PROFk_A" 0x200 16 0x8 [fd "LEAD" 0 16 .rw 0 true, fd "LEVEL" 16 16 .rw 0 true],
  reg "CORR_PROFk_B" 0x204 16 0x8 [fd "HOLD" 0 16 .rw 0 true, fd "FALL" 16 16 .rw 0 true]]
/-- The registers of CORR. -/
def regs_corr : List RegD := regs_corr_0 ++ regs_corr_1 ++ regs_corr_2 ++ regs_corr_3
end Sys2Proof.Machine
end

