-- ==== Sys2Proof/Machine/RegTableSystem.lean ====
section
/-!
DEFINITION. The register maps of MET, OXB, UPD, GNT, LCS, MEM, BON, REC, GPIO, written from the register tables of spec/:
the address `A.<REGISTER>` of each register (a function of its index where it is an array, and of the port for
ETHA and ETHB), the place `F.<REGISTER>_<FIELD>` of each field, and per block the list of its register families.
-/
namespace Sys2Proof.Machine
/-! ## MET (spec/11_metering.md) -/
def A.MET_CTRL : Nat := 0x400d0000
def F.MET_CTRL_RUN : Fld := ⟨A.MET_CTRL, 0, 1⟩
def F.MET_CTRL_ISO : Fld := ⟨A.MET_CTRL, 1, 1⟩
def F.MET_CTRL_CLK : Fld := ⟨A.MET_CTRL, 2, 2⟩
def F.MET_CTRL_EDGE : Fld := ⟨A.MET_CTRL, 4, 1⟩
def F.MET_CTRL_HPF : Fld := ⟨A.MET_CTRL, 5, 1⟩
def F.MET_CTRL_REF : Fld := ⟨A.MET_CTRL, 6, 2⟩
def F.MET_CTRL_CHEN : Fld := ⟨A.MET_CTRL, 8, 8⟩
def A.MET_STAT : Nat := 0x400d0004
def F.MET_STAT_BATT : Fld := ⟨A.MET_STAT, 0, 1⟩
def F.MET_STAT_FREQOK : Fld := ⟨A.MET_STAT, 1, 1⟩
def F.MET_STAT_NOTIME : Fld := ⟨A.MET_STAT, 2, 1⟩
def F.MET_STAT_RESTORED : Fld := ⟨A.MET_STAT, 3, 1⟩
def F.MET_STAT_RESTFAIL : Fld := ⟨A.MET_STAT, 4, 1⟩
def F.MET_STAT_SETTLING : Fld := ⟨A.MET_STAT, 5, 1⟩
def F.MET_STAT_DMDWAIT : Fld := ⟨A.MET_STAT, 6, 1⟩
def A.MET_ERR : Nat := 0x400d0008
def F.MET_ERR_STOPONLY : Fld := ⟨A.MET_ERR, 0, 1⟩
def F.MET_ERR_CONFIG : Fld := ⟨A.MET_ERR, 1, 1⟩
def F.MET_ERR_CFG_CAUSE : Fld := ⟨A.MET_ERR, 8, 8⟩
def A.MET_RILLS : Nat := 0x400d000c
def F.MET_RILLS_DMD : Fld := ⟨A.MET_RILLS, 0, 6⟩
def F.MET_RILLS_DMD_EN : Fld := ⟨A.MET_RILLS, 6, 1⟩
def F.MET_RILLS_EVT : Fld := ⟨A.MET_RILLS, 8, 6⟩
def F.MET_RILLS_EVT_EN : Fld := ⟨A.MET_RILLS, 14, 1⟩
def A.MET_DMD : Nat := 0x400d0010
def F.MET_DMD_LEN : Fld := ⟨A.MET_DMD, 0, 3⟩
def A.MET_TAI_UTC : Nat := 0x400d0014
def F.MET_TAI_UTC_SECONDS : Fld := ⟨A.MET_TAI_UTC, 0, 16⟩
def A.MET_THEFT : Nat := 0x400d0018
def F.MET_THEFT_LEVEL : Fld := ⟨A.MET_THEFT, 0, 16⟩
def F.MET_THEFT_HOLD : Fld := ⟨A.MET_THEFT, 16, 16⟩
def A.MET_RESID : Nat := 0x400d001c
def F.MET_RESID_LEVEL : Fld := ⟨A.MET_RESID, 0, 16⟩
def F.MET_RESID_HOLD : Fld := ⟨A.MET_RESID, 16, 16⟩
def A.MET_CMD : Nat := 0x400d0020
def F.MET_CMD_SNAP : Fld := ⟨A.MET_CMD, 0, 1⟩
def F.MET_CMD_PRESET : Fld := ⟨A.MET_CMD, 1, 1⟩
def A.MET_THEFT_STAT : Nat := 0x400d0024
def F.MET_THEFT_STAT_SUPPLYCUT : Fld := ⟨A.MET_THEFT_STAT, 0, 1⟩
def F.MET_THEFT_STAT_RESIDUAL : Fld := ⟨A.MET_THEFT_STAT, 1, 1⟩
def F.MET_THEFT_STAT_SUPPLYNOW : Fld := ⟨A.MET_THEFT_STAT, 2, 1⟩
def F.MET_THEFT_STAT_RESIDNOW : Fld := ⟨A.MET_THEFT_STAT, 3, 1⟩
def A.MET_MODFAULT : Nat := 0x400d0028
def F.MET_MODFAULT_NOW : Fld := ⟨A.MET_MODFAULT, 0, 8⟩
def F.MET_MODFAULT_SEEN : Fld := ⟨A.MET_MODFAULT, 8, 8⟩
def A.MET_FREQ : Nat := 0x400d002c
def F.MET_FREQ_MHZ : Fld := ⟨A.MET_FREQ, 0, 20⟩
def A.MET_ESEL : Nat := 0x400d0030
def F.MET_ESEL_INDEX : Fld := ⟨A.MET_ESEL, 0, 6⟩
def A.MET_EVAL_LO : Nat := 0x400d0034
def F.MET_EVAL_LO_VALUE : Fld := ⟨A.MET_EVAL_LO, 0, 32⟩
def A.MET_EVAL_HI : Nat := 0x400d0038
def F.MET_EVAL_HI_VALUE : Fld := ⟨A.MET_EVAL_HI, 0, 32⟩
def A.MET_PSET_LO : Nat := 0x400d003c
def F.MET_PSET_LO_VALUE : Fld := ⟨A.MET_PSET_LO, 0, 32⟩
def A.MET_PSET_HI : Nat := 0x400d0040
def F.MET_PSET_HI_VALUE : Fld := ⟨A.MET_PSET_HI, 0, 32⟩
def A.MET_SNAP_NUM : Nat := 0x400d0044
def F.MET_SNAP_NUM_SAMPLE : Fld := ⟨A.MET_SNAP_NUM, 0, 32⟩
def A.MET_CAL_GAIN (n : Nat) : Nat := 0x400d0100 + 0x10 * n
def F.MET_CAL_GAIN_GAIN (n : Nat) : Fld := ⟨A.MET_CAL_GAIN n, 0, 32⟩
def A.MET_CAL_OFF (n : Nat) : Nat := 0x400d0104 + 0x10 * n
def F.MET_CAL_OFF_OFF (n : Nat) : Fld := ⟨A.MET_CAL_OFF n, 0, 24⟩
def A.MET_CAL_PHASE (n : Nat) : Nat := 0x400d0108 + 0x10 * n
def F.MET_CAL_PHASE_PHASE (n : Nat) : Fld := ⟨A.MET_CAL_PHASE n, 0, 8⟩
def A.MET_RMS (n : Nat) : Nat := 0x400d0200 + 0x4 * n
def F.MET_RMS_VALUE (n : Nat) : Fld := ⟨A.MET_RMS n, 0, 32⟩
def A.MET_SAMP_LOST : Nat := 0x400d0300
def F.MET_SAMP_LOST_COUNT : Fld := ⟨A.MET_SAMP_LOST, 0, 32⟩
def A.MET_DMD_LOST : Nat := 0x400d0304
def F.MET_DMD_LOST_COUNT : Fld := ⟨A.MET_DMD_LOST, 0, 32⟩
def A.MET_EVT_LOST : Nat := 0x400d0308
def F.MET_EVT_LOST_COUNT : Fld := ⟨A.MET_EVT_LOST, 0, 32⟩
def A.MET_MODFAULT_CNT : Nat := 0x400d030c
def F.MET_MODFAULT_CNT_COUNT : Fld := ⟨A.MET_MODFAULT_CNT, 0, 32⟩
def A.MET_BATT_CNT : Nat := 0x400d0310
def F.MET_BATT_CNT_COUNT : Fld := ⟨A.MET_BATT_CNT, 0, 32⟩
def regs_met_0 : List RegD := [
  reg "MET_CTRL" 0x0 1 0x0 [fd "RUN" 0 1 .rw 0 false, fd "ISO" 1 1 .rw 0 true, fd "CLK" 2 2 .rw 0 true, fd "EDGE" 4 1 .rw 0 true, fd "HPF" 5 1 .rw 1 true, fd "REF" 6 2 .rw 0 true, fd "CHEN" 8 8 .rw 0 true],
  reg "MET_STAT" 0x4 1 0x0 [fd "BATT" 0 1 .ro 0 false, fd "FREQOK" 1 1 .ro 0 false, fd "NOTIME" 2 1 .ro 1 false, fd "RESTORED" 3 1 .ro 0 false, fd "RESTFAIL" 4 1 .ro 0 false, fd "SETTLING" 5 1 .ro 0 false, fd "DMDWAIT" 6 1 .ro 0 false],
  reg "MET_ERR" 0x8 1 0x0 [fd "STOPONLY" 0 1 .w1c 0 false, fd "CONFIG" 1 1 .w1c 0 false, fd "CFG_CAUSE" 8 8 .ro 0 false],
  reg "MET_RILLS" 0xc 1 0x0 [fd "DMD" 0 6 .rw 0 true, fd "DMD_EN" 6 1 .rw 0 true, fd "EVT" 8 6 .rw 0 true, fd "EVT_EN" 14 1 .rw 0 true],
  reg "MET_DMD" 0x10 1 0x0 [fd "LEN" 0 3 .rw 3 true],
  reg "MET_TAI_UTC" 0x14 1 0x0 [fd "SECONDS" 0 16 .rw 0x25 false],
  reg "MET_THEFT" 0x18 1 0x0 [fd "LEVEL" 0 16 .rw 0x32 true, fd "HOLD" 16 16 .rw 0xa true],
  reg "MET_RESID" 0x1c 1 0x0 [fd "LEVEL" 0 16 .rw 0 true, fd "HOLD" 16 16 .rw 0xa true],
  reg "MET_CMD" 0x20 1 0x0 [fd "SNAP" 0 1 .wo 0 false, fd "PRESET" 1 1 .wo 0 true],
  reg "MET_THEFT_STAT" 0x24 1 0x0 [fd "SUPPLYCUT" 0 1 .w1c 0 false, fd "RESIDUAL" 1 1 .w1c 0 false, fd "SUPPLYNOW" 2 1 .ro 0 false, fd "RESIDNOW" 3 1 .ro 0 false],
  reg "MET_MODFAULT" 0x28 1 0x0 [fd "NOW" 0 8 .ro 0 false, fd "SEEN" 8 8 .w1c 0 false],
  reg "MET_FREQ" 0x2c 1 0x0 [fd "MHZ" 0 20 .ro 0 false]]
def regs_met_1 : List RegD := [
  reg "MET_ESEL" 0x30 1 0x0 [fd "INDEX" 0 6 .rw 0 false],
  reg "MET_EVAL_LO" 0x34 1 0x0 [fd "VALUE" 0 32 .rl 0 false],
  reg "MET_EVAL_HI" 0x38 1 0x0 [fd "VALUE" 0 32 .ro 0 false],
  reg "MET_PSET_LO" 0x3c 1 0x0 [fd "VALUE" 0 32 .rw 0 true],
  reg "MET_PSET_HI" 0x40 1 0x0 [fd "VALUE" 0 32 .rw 0 true],
  reg "MET_SNAP_NUM" 0x44 1 0x0 [fd "SAMPLE" 0 32 .ro 0 false],
  reg "MET_CALc_GAIN" 0x100 8 0x10 [fd "GAIN" 0 32 .rw 0x1000000 true],
  reg "MET_CALc_OFF" 0x104 8 0x10 [fd "OFF" 0 24 .rw 0 true],
  reg "MET_CALc_PHASE" 0x108 8 0x10 [fd "PHASE" 0 8 .rw 0 true],
  reg "MET_RMSc" 0x200 9 0x4 [fd "VALUE" 0 32 .ro 0 false],
  reg "MET_SAMP_LOST" 0x300 1 0x0 [fd "COUNT" 0 32 .rc 0 false],
  reg "MET_DMD_LOST" 0x304 1 0x0 [fd "COUNT" 0 32 .rc 0 false]]
def regs_met_2 : List RegD := [
  reg "MET_EVT_LOST" 0x308 1 0x0 [fd "COUNT" 0 32 .rc 0 false],
  reg "MET_MODFAULT_CNT" 0x30c 1 0x0 [fd "COUNT" 0 32 .rc 0 false],
  reg "MET_BATT_CNT" 0x310 1 0x0 [fd "COUNT" 0 32 .rc 0 false]]
/-- The registers of MET. -/
def regs_met : List RegD := regs_met_0 ++ regs_met_1 ++ regs_met_2
/-! ## OXB (spec/12_oxbow_pairing.md) -/
def A.OXB_CTRL : Nat := 0x400e0000
def F.OXB_CTRL_RUN : Fld := ⟨A.OXB_CTRL, 0, 1⟩
def A.OXB_STAT : Nat := 0x400e0004
def F.OXB_STAT_STATE : Fld := ⟨A.OXB_STAT, 0, 3⟩
def F.OXB_STAT_STALE : Fld := ⟨A.OXB_STAT, 3, 1⟩
def F.OXB_STAT_PEERLOST : Fld := ⟨A.OXB_STAT, 4, 1⟩
def F.OXB_STAT_REVERTREADY : Fld := ⟨A.OXB_STAT, 5, 1⟩
def F.OXB_STAT_HWMLOST : Fld := ⟨A.OXB_STAT, 6, 1⟩
def F.OXB_STAT_STBUSY : Fld := ⟨A.OXB_STAT, 7, 1⟩
def A.OXB_ERR : Nat := 0x400e0008
def F.OXB_ERR_STOPONLY : Fld := ⟨A.OXB_ERR, 0, 1⟩
def F.OXB_ERR_CONFIG : Fld := ⟨A.OXB_ERR, 1, 1⟩
def F.OXB_ERR_PINFAULT : Fld := ⟨A.OXB_ERR, 2, 1⟩
def F.OXB_ERR_POSCLASH : Fld := ⟨A.OXB_ERR, 3, 1⟩
def F.OXB_ERR_CFG_CAUSE : Fld := ⟨A.OXB_ERR, 8, 8⟩
def A.OXB_CFG : Nat := 0x400e000c
def F.OXB_CFG_POS : Fld := ⟨A.OXB_CFG, 0, 1⟩
def F.OXB_CFG_REVERT : Fld := ⟨A.OXB_CFG, 1, 1⟩
def F.OXB_CFG_AUTOSAFE : Fld := ⟨A.OXB_CFG, 2, 1⟩
def F.OXB_CFG_GATE : Fld := ⟨A.OXB_CFG, 8, 4⟩
def A.OXB_TIMES : Nat := 0x400e0010
def F.OXB_TIMES_LOSS : Fld := ⟨A.OXB_TIMES, 0, 5⟩
def F.OXB_TIMES_GUARD : Fld := ⟨A.OXB_TIMES, 8, 4⟩
def F.OXB_TIMES_START : Fld := ⟨A.OXB_TIMES, 16, 10⟩
def A.OXB_WDOG : Nat := 0x400e0014
def F.OXB_WDOG_MS : Fld := ⟨A.OXB_WDOG, 0, 7⟩
def A.OXB_KICK : Nat := 0x400e0018
def F.OXB_KICK_KICK : Fld := ⟨A.OXB_KICK, 0, 32⟩
def A.OXB_REVERT : Nat := 0x400e001c
def F.OXB_REVERT_SECONDS : Fld := ⟨A.OXB_REVERT, 0, 16⟩
def A.OXB_YIELD : Nat := 0x400e0020
def F.OXB_YIELD_EN : Fld := ⟨A.OXB_YIELD, 0, 8⟩
def A.OXB_CMD : Nat := 0x400e0024
def F.OXB_CMD_YIELD : Fld := ⟨A.OXB_CMD, 0, 1⟩
def F.OXB_CMD_SAFEPOINT : Fld := ⟨A.OXB_CMD, 1, 1⟩
def A.OXB_READY : Nat := 0x400e0028
def F.OXB_READY_FW : Fld := ⟨A.OXB_READY, 0, 1⟩
def A.OXB_SCORE : Nat := 0x400e002c
def F.OXB_SCORE_SCORE : Fld := ⟨A.OXB_SCORE, 0, 16⟩
def A.OXB_RES : Nat := 0x400e0030
def F.OXB_RES_KEY : Fld := ⟨A.OXB_RES, 0, 3⟩
def F.OXB_RES_CMD : Fld := ⟨A.OXB_RES, 8, 2⟩
def F.OXB_RES_STATUS : Fld := ⟨A.OXB_RES, 16, 3⟩
def F.OXB_RES_BUSY : Fld := ⟨A.OXB_RES, 19, 1⟩
def A.OXB_RES_BASE : Nat := 0x400e0034
def F.OXB_RES_BASE_BASE : Fld := ⟨A.OXB_RES_BASE, 0, 32⟩
def A.OXB_SOLO : Nat := 0x400e0038
def F.OXB_SOLO_MAX : Fld := ⟨A.OXB_SOLO, 0, 8⟩
def F.OXB_SOLO_USED : Fld := ⟨A.OXB_SOLO, 8, 8⟩
def A.OXB_RILLS : Nat := 0x400e003c
def F.OXB_RILLS_RX : Fld := ⟨A.OXB_RILLS, 0, 6⟩
def F.OXB_RILLS_EVT : Fld := ⟨A.OXB_RILLS, 8, 6⟩
def A.OXB_TX_ADDR : Nat := 0x400e0040
def F.OXB_TX_ADDR_ADDR : Fld := ⟨A.OXB_TX_ADDR, 0, 32⟩
def A.OXB_TX_CTL : Nat := 0x400e0044
def F.OXB_TX_CTL_LEN : Fld := ⟨A.OXB_TX_CTL, 0, 11⟩
def F.OXB_TX_CTL_BUSY : Fld := ⟨A.OXB_TX_CTL, 30, 1⟩
def F.OXB_TX_CTL_GO : Fld := ⟨A.OXB_TX_CTL, 31, 1⟩
def A.OXB_RXBUF : Nat := 0x400e0048
def F.OXB_RXBUF_ADDR : Fld := ⟨A.OXB_RXBUF, 0, 32⟩
def A.OXB_RX_FULL : Nat := 0x400e004c
def F.OXB_RX_FULL_BUFS : Fld := ⟨A.OXB_RX_FULL, 0, 16⟩
def A.OXB_ST : Nat := 0x400e0050
def F.OXB_ST_GO : Fld := ⟨A.OXB_ST, 0, 1⟩
def F.OXB_ST_PERIOD : Fld := ⟨A.OXB_ST, 8, 8⟩
def A.OXB_ST_RES : Nat := 0x400e0054
def F.OXB_ST_RES_FAIL : Fld := ⟨A.OXB_ST_RES, 0, 5⟩
def A.OXB_PEER : Nat := 0x400e0058
def F.OXB_PEER_STATE : Fld := ⟨A.OXB_PEER, 0, 3⟩
def F.OXB_PEER_FLAGS : Fld := ⟨A.OXB_PEER, 8, 8⟩
def F.OXB_PEER_AGE : Fld := ⟨A.OXB_PEER, 16, 16⟩
def A.OXB_PEER_SCORE : Nat := 0x400e005c
def F.OXB_PEER_SCORE_SCORE : Fld := ⟨A.OXB_PEER_SCORE, 0, 16⟩
def F.OXB_PEER_SCORE_COND : Fld := ⟨A.OXB_PEER_SCORE, 16, 16⟩
def A.OXB_HWM (n : Nat) : Nat := 0x400e0080 + 0x4 * n
def F.OXB_HWM_HWM (n : Nat) : Fld := ⟨A.OXB_HWM n, 0, 32⟩
def A.OXB_TAKEOVERS : Nat := 0x400e0100
def F.OXB_TAKEOVERS_COUNT : Fld := ⟨A.OXB_TAKEOVERS, 0, 32⟩
def A.OXB_YIELDS : Nat := 0x400e0104
def F.OXB_YIELDS_COUNT : Fld := ⟨A.OXB_YIELDS, 0, 32⟩
def A.OXB_YIELD_HELD : Nat := 0x400e0108
def F.OXB_YIELD_HELD_COUNT : Fld := ⟨A.OXB_YIELD_HELD, 0, 32⟩
def A.OXB_WDOG_EXP : Nat := 0x400e010c
def F.OXB_WDOG_EXP_COUNT : Fld := ⟨A.OXB_WDOG_EXP, 0, 32⟩
def A.OXB_CLAIM_CLASH : Nat := 0x400e0110
def F.OXB_CLAIM_CLASH_COUNT : Fld := ⟨A.OXB_CLAIM_CLASH, 0, 32⟩
def A.OXB_LINK_ERR : Nat := 0x400e0114
def F.OXB_LINK_ERR_COUNT : Fld := ⟨A.OXB_LINK_ERR, 0, 32⟩
def A.OXB_LINK_LOST : Nat := 0x400e0118
def F.OXB_LINK_LOST_COUNT : Fld := ⟨A.OXB_LINK_LOST, 0, 32⟩
def A.OXB_RX_LOST : Nat := 0x400e011c
def F.OXB_RX_LOST_COUNT : Fld := ⟨A.OXB_RX_LOST, 0, 32⟩
def A.OXB_EVT_LOST : Nat := 0x400e0120
def F.OXB_EVT_LOST_COUNT : Fld := ⟨A.OXB_EVT_LOST, 0, 32⟩
def A.OXB_ST_ABORT : Nat := 0x400e0124
def F.OXB_ST_ABORT_COUNT : Fld := ⟨A.OXB_ST_ABORT, 0, 32⟩
def A.OXB_SOLO_CNT : Nat := 0x400e0128
def F.OXB_SOLO_CNT_COUNT : Fld := ⟨A.OXB_SOLO_CNT, 0, 32⟩
def A.OXB_RES_FAIL : Nat := 0x400e012c
def F.OXB_RES_FAIL_COUNT : Fld := ⟨A.OXB_RES_FAIL, 0, 32⟩
def regs_oxb_0 : List RegD := [
  reg "OXB_CTRL" 0x0 1 0x0 [fd "RUN" 0 1 .rw 0 false],
  reg "OXB_STAT" 0x4 1 0x0 [fd "STATE" 0 3 .ro 0 false, fd "STALE" 3 1 .ro 1 false, fd "PEERLOST" 4 1 .ro 0 false, fd "REVERTREADY" 5 1 .ro 0 false, fd "HWMLOST" 6 1 .ro 0 false, fd "STBUSY" 7 1 .ro 0 false],
  reg "OXB_ERR" 0x8 1 0x0 [fd "STOPONLY" 0 1 .w1c 0 false, fd "CONFIG" 1 1 .w1c 0 false, fd "PINFAULT" 2 1 .w1c 0 false, fd "POSCLASH" 3 1 .w1c 0 false, fd "CFG_CAUSE" 8 8 .ro 0 false],
  reg "OXB_CFG" 0xc 1 0x0 [fd "POS" 0 1 .rw 0 true, fd "REVERT" 1 1 .rw 1 true, fd "AUTOSAFE" 2 1 .rw 0 true, fd "GATE" 8 4 .rw 0 true],
  reg "OXB_TIMES" 0x10 1 0x0 [fd "LOSS" 0 5 .rw 4 true, fd "GUARD" 8 4 .rw 2 true, fd "START" 16 10 .rw 0x12c true],
  reg "OXB_WDOG" 0x14 1 0x0 [fd "MS" 0 7 .rw 0xa true],
  reg "OXB_KICK" 0x18 1 0x0 [fd "KICK" 0 32 .wo 0 false],
  reg "OXB_REVERT" 0x1c 1 0x0 [fd "SECONDS" 0 16 .rw 0x12c true],
  reg "OXB_YIELD" 0x20 1 0x0 [fd "EN" 0 8 .rw 0 true],
  reg "OXB_CMD" 0x24 1 0x0 [fd "YIELD" 0 1 .wo 0 false, fd "SAFEPOINT" 1 1 .wo 0 false],
  reg "OXB_READY" 0x28 1 0x0 [fd "FW" 0 1 .rw 0 false],
  reg "OXB_SCORE" 0x2c 1 0x0 [fd "SCORE" 0 16 .rw 0 false]]
def regs_oxb_1 : List RegD := [
  reg "OXB_RES" 0x30 1 0x0 [fd "KEY" 0 3 .rw 0 false, fd "CMD" 8 2 .wo 0 false, fd "STATUS" 16 3 .ro 0 false, fd "BUSY" 19 1 .ro 0 false],
  reg "OXB_RES_BASE" 0x34 1 0x0 [fd "BASE" 0 32 .rw 0 false],
  reg "OXB_SOLO" 0x38 1 0x0 [fd "MAX" 0 8 .rw 0x40 true, fd "USED" 8 8 .ro 0 false],
  reg "OXB_RILLS" 0x3c 1 0x0 [fd "RX" 0 6 .rw 0 true, fd "EVT" 8 6 .rw 0 true],
  reg "OXB_TX_ADDR" 0x40 1 0x0 [fd "ADDR" 0 32 .rw 0 false],
  reg "OXB_TX_CTL" 0x44 1 0x0 [fd "LEN" 0 11 .rw 0 false, fd "BUSY" 30 1 .ro 0 false, fd "GO" 31 1 .wo 0 false],
  reg "OXB_RXBUF" 0x48 1 0x0 [fd "ADDR" 0 32 .rw 0 true],
  reg "OXB_RX_FULL" 0x4c 1 0x0 [fd "BUFS" 0 16 .w1c 0 false],
  reg "OXB_ST" 0x50 1 0x0 [fd "GO" 0 1 .wo 0 false, fd "PERIOD" 8 8 .rw 0 true],
  reg "OXB_ST_RES" 0x54 1 0x0 [fd "FAIL" 0 5 .ro 0 false],
  reg "OXB_PEER" 0x58 1 0x0 [fd "STATE" 0 3 .ro 0 false, fd "FLAGS" 8 8 .ro 0 false, fd "AGE" 16 16 .ro 0xffff false],
  reg "OXB_PEER_SCORE" 0x5c 1 0x0 [fd "SCORE" 0 16 .ro 0 false, fd "COND" 16 16 .ro 0 false]]
def regs_oxb_2 : List RegD := [
  reg "OXB_HWMk" 0x80 8 0x4 [fd "HWM" 0 32 .ro 0 false],
  reg "OXB_TAKEOVERS" 0x100 1 0x0 [fd "COUNT" 0 32 .rc 0 false],
  reg "OXB_YIELDS" 0x104 1 0x0 [fd "COUNT" 0 32 .rc 0 false],
  reg "OXB_YIELD_HELD" 0x108 1 0x0 [fd "COUNT" 0 32 .rc 0 false],
  reg "OXB_WDOG_EXP" 0x10c 1 0x0 [fd "COUNT" 0 32 .rc 0 false],
  reg "OXB_CLAIM_CLASH" 0x110 1 0x0 [fd "COUNT" 0 32 .rc 0 false],
  reg "OXB_LINK_ERR" 0x114 1 0x0 [fd "COUNT" 0 32 .rc 0 false],
  reg "OXB_LINK_LOST" 0x118 1 0x0 [fd "COUNT" 0 32 .rc 0 false],
  reg "OXB_RX_LOST" 0x11c 1 0x0 [fd "COUNT" 0 32 .rc 0 false],
  reg "OXB_EVT_LOST" 0x120 1 0x0 [fd "COUNT" 0 32 .rc 0 false],
  reg "OXB_ST_ABORT" 0x124 1 0x0 [fd "COUNT" 0 32 .rc 0 false],
  reg "OXB_SOLO_CNT" 0x128 1 0x0 [fd "COUNT" 0 32 .rc 0 false]]
def regs_oxb_3 : List RegD := [
  reg "OXB_RES_FAIL" 0x12c 1 0x0 [fd "COUNT" 0 32 .rc 0 false]]
/-- The registers of OXB. -/
def regs_oxb : List RegD := regs_oxb_0 ++ regs_oxb_1 ++ regs_oxb_2 ++ regs_oxb_3
/-! ## UPD (spec/13_firmware_update.md) -/
def A.UPD_CTRL : Nat := 0x400f0000
def F.UPD_CTRL_RUN : Fld := ⟨A.UPD_CTRL, 0, 1⟩
def A.UPD_STAT : Nat := 0x400f0004
def F.UPD_STAT_SLOT : Fld := ⟨A.UPD_STAT, 0, 1⟩
def F.UPD_STAT_TRIAL : Fld := ⟨A.UPD_STAT, 1, 1⟩
def F.UPD_STAT_ACTIVE : Fld := ⟨A.UPD_STAT, 2, 1⟩
def F.UPD_STAT_ACTVALID : Fld := ⟨A.UPD_STAT, 3, 1⟩
def F.UPD_STAT_TRIES : Fld := ⟨A.UPD_STAT, 4, 2⟩
def F.UPD_STAT_FAILA : Fld := ⟨A.UPD_STAT, 6, 1⟩
def F.UPD_STAT_FAILB : Fld := ⟨A.UPD_STAT, 7, 1⟩
def F.UPD_STAT_RECOVERED : Fld := ⟨A.UPD_STAT, 8, 1⟩
def F.UPD_STAT_ARMED : Fld := ⟨A.UPD_STAT, 9, 1⟩
def F.UPD_STAT_VBUSY : Fld := ⟨A.UPD_STAT, 10, 1⟩
def F.UPD_STAT_CCBUSY : Fld := ⟨A.UPD_STAT, 11, 1⟩
def F.UPD_STAT_REASON : Fld := ⟨A.UPD_STAT, 16, 8⟩
def A.UPD_ERR : Nat := 0x400f0008
def F.UPD_ERR_STOPONLY : Fld := ⟨A.UPD_ERR, 0, 1⟩
def F.UPD_ERR_CONFIG : Fld := ⟨A.UPD_ERR, 1, 1⟩
def F.UPD_ERR_PROTWR : Fld := ⟨A.UPD_ERR, 2, 1⟩
def F.UPD_ERR_CMDREF : Fld := ⟨A.UPD_ERR, 3, 1⟩
def F.UPD_ERR_STATEBAD : Fld := ⟨A.UPD_ERR, 4, 1⟩
def F.UPD_ERR_CMD_CAUSE : Fld := ⟨A.UPD_ERR, 8, 4⟩
def F.UPD_ERR_CFG_CAUSE : Fld := ⟨A.UPD_ERR, 12, 4⟩
def A.UPD_TRIAL : Nat := 0x400f000c
def F.UPD_TRIAL_MINUTES : Fld := ⟨A.UPD_TRIAL, 0, 8⟩
def A.UPD_LEFT : Nat := 0x400f0010
def F.UPD_LEFT_SECONDS : Fld := ⟨A.UPD_LEFT, 0, 16⟩
def A.UPD_CMD : Nat := 0x400f0014
def F.UPD_CMD_ARM : Fld := ⟨A.UPD_CMD, 0, 1⟩
def F.UPD_CMD_CANCEL : Fld := ⟨A.UPD_CMD, 1, 1⟩
def F.UPD_CMD_CONFIRM : Fld := ⟨A.UPD_CMD, 2, 1⟩
def F.UPD_CMD_REJECT : Fld := ⟨A.UPD_CMD, 3, 1⟩
def F.UPD_CMD_RECOVER : Fld := ⟨A.UPD_CMD, 4, 1⟩
def F.UPD_CMD_RESET : Fld := ⟨A.UPD_CMD, 5, 1⟩
def F.UPD_CMD_VERIFY : Fld := ⟨A.UPD_CMD, 6, 1⟩
def F.UPD_CMD_SLOT : Fld := ⟨A.UPD_CMD, 8, 1⟩
def A.UPD_VSTAT : Nat := 0x400f0018
def F.UPD_VSTAT_RESULT : Fld := ⟨A.UPD_VSTAT, 0, 4⟩
def F.UPD_VSTAT_SLOT : Fld := ⟨A.UPD_VSTAT, 4, 1⟩
def F.UPD_VSTAT_COMP : Fld := ⟨A.UPD_VSTAT, 8, 4⟩
def A.UPD_SECFLOOR : Nat := 0x400f001c
def F.UPD_SECFLOOR_VALUE : Fld := ⟨A.UPD_SECFLOOR, 0, 32⟩
def A.UPD_VERSION : Nat := 0x400f0020
def F.UPD_VERSION_VALUE : Fld := ⟨A.UPD_VERSION, 0, 32⟩
def A.UPD_SECVER : Nat := 0x400f0024
def F.UPD_SECVER_VALUE : Fld := ⟨A.UPD_SECVER, 0, 32⟩
def A.UPD_CC_ADDR : Nat := 0x400f0028
def F.UPD_CC_ADDR_ADDR : Fld := ⟨A.UPD_CC_ADDR, 0, 32⟩
def A.UPD_CC_CTL : Nat := 0x400f002c
def F.UPD_CC_CTL_GO : Fld := ⟨A.UPD_CC_CTL, 0, 1⟩
def A.UPD_CC_STAT : Nat := 0x400f0030
def F.UPD_CC_STAT_RESULT : Fld := ⟨A.UPD_CC_STAT, 0, 2⟩
def F.UPD_CC_STAT_SIDE : Fld := ⟨A.UPD_CC_STAT, 2, 1⟩
def F.UPD_CC_STAT_ENTRY : Fld := ⟨A.UPD_CC_STAT, 8, 4⟩
def A.UPD_EVT : Nat := 0x400f0034
def F.UPD_EVT_RILL : Fld := ⟨A.UPD_EVT, 0, 6⟩
def F.UPD_EVT_EN : Fld := ⟨A.UPD_EVT, 8, 1⟩
def A.UPD_COMPFAIL : Nat := 0x400f0038
def F.UPD_COMPFAIL_COMPS : Fld := ⟨A.UPD_COMPFAIL, 0, 16⟩
def A.UPD_ROLLBACKS : Nat := 0x400f0040
def F.UPD_ROLLBACKS_COUNT : Fld := ⟨A.UPD_ROLLBACKS, 0, 32⟩
def A.UPD_PROT_REFUSED : Nat := 0x400f0044
def F.UPD_PROT_REFUSED_COUNT : Fld := ⟨A.UPD_PROT_REFUSED, 0, 32⟩
def A.UPD_COMP_RELOADS : Nat := 0x400f0048
def F.UPD_COMP_RELOADS_COUNT : Fld := ⟨A.UPD_COMP_RELOADS, 0, 32⟩
def A.UPD_EVT_LOST : Nat := 0x400f004c
def F.UPD_EVT_LOST_COUNT : Fld := ⟨A.UPD_EVT_LOST, 0, 32⟩
def regs_upd_0 : List RegD := [
  reg "UPD_CTRL" 0x0 1 0x0 [fd "RUN" 0 1 .rw 0 false],
  reg "UPD_STAT" 0x4 1 0x0 [fd "SLOT" 0 1 .ro 0 false, fd "TRIAL" 1 1 .ro 0 false, fd "ACTIVE" 2 1 .ro 0 false, fd "ACTVALID" 3 1 .ro 0 false, fd "TRIES" 4 2 .ro 0 false, fd "FAILA" 6 1 .ro 0 false, fd "FAILB" 7 1 .ro 0 false, fd "RECOVERED" 8 1 .ro 0 false, fd "ARMED" 9 1 .ro 0 false, fd "VBUSY" 10 1 .ro 0 false, fd "CCBUSY" 11 1 .ro 0 false, fd "REASON" 16 8 .ro 0 false],
  reg "UPD_ERR" 0x8 1 0x0 [fd "STOPONLY" 0 1 .w1c 0 false, fd "CONFIG" 1 1 .w1c 0 false, fd "PROTWR" 2 1 .w1c 0 false, fd "CMDREF" 3 1 .w1c 0 false, fd "STATEBAD" 4 1 .w1c 0 false, fd "CMD_CAUSE" 8 4 .ro 0 false, fd "CFG_CAUSE" 12 4 .ro 0 false],
  reg "UPD_TRIAL" 0xc 1 0x0 [fd "MINUTES" 0 8 .rw 0xa true],
  reg "UPD_LEFT" 0x10 1 0x0 [fd "SECONDS" 0 16 .ro 0 false],
  reg "UPD_CMD" 0x14 1 0x0 [fd "ARM" 0 1 .wo 0 false, fd "CANCEL" 1 1 .wo 0 false, fd "CONFIRM" 2 1 .wo 0 false, fd "REJECT" 3 1 .wo 0 false, fd "RECOVER" 4 1 .wo 0 false, fd "RESET" 5 1 .wo 0 false, fd "VERIFY" 6 1 .wo 0 false, fd "SLOT" 8 1 .wo 0 false],
  reg "UPD_VSTAT" 0x18 1 0x0 [fd "RESULT" 0 4 .ro 0 false, fd "SLOT" 4 1 .ro 0 false, fd "COMP" 8 4 .ro 0 false],
  reg "UPD_SECFLOOR" 0x1c 1 0x0 [fd "VALUE" 0 32 .ro 0 false],
  reg "UPD_VERSION" 0x20 1 0x0 [fd "VALUE" 0 32 .ro 0 false],
  reg "UPD_SECVER" 0x24 1 0x0 [fd "VALUE" 0 32 .ro 0 false],
  reg "UPD_CC_ADDR" 0x28 1 0x0 [fd "ADDR" 0 32 .rw 0 false],
  reg "UPD_CC_CTL" 0x2c 1 0x0 [fd "GO" 0 1 .wo 0 false]]
def regs_upd_1 : List RegD := [
  reg "UPD_CC_STAT" 0x30 1 0x0 [fd "RESULT" 0 2 .ro 0 false, fd "SIDE" 2 1 .ro 0 false, fd "ENTRY" 8 4 .ro 0 false],
  reg "UPD_EVT" 0x34 1 0x0 [fd "RILL" 0 6 .rw 0 true, fd "EN" 8 1 .rw 0 true],
  reg "UPD_COMPFAIL" 0x38 1 0x0 [fd "COMPS" 0 16 .ro 0 false],
  reg "UPD_ROLLBACKS" 0x40 1 0x0 [fd "COUNT" 0 32 .rc 0 false],
  reg "UPD_PROT_REFUSED" 0x44 1 0x0 [fd "COUNT" 0 32 .rc 0 false],
  reg "UPD_COMP_RELOADS" 0x48 1 0x0 [fd "COUNT" 0 32 .rc 0 false],
  reg "UPD_EVT_LOST" 0x4c 1 0x0 [fd "COUNT" 0 32 .rc 0 false]]
/-- The registers of UPD. -/
def regs_upd : List RegD := regs_upd_0 ++ regs_upd_1
/-! ## GNT (spec/14_gauntlet_lifecycle.md) -/
def A.GNT_CTRL : Nat := 0x40100000
def F.GNT_CTRL_RUN : Fld := ⟨A.GNT_CTRL, 0, 1⟩
def A.GNT_STAT : Nat := 0x40100004
def F.GNT_STAT_INFLIGHT : Fld := ⟨A.GNT_STAT, 0, 5⟩
def F.GNT_STAT_DRBG_OK : Fld := ⟨A.GNT_STAT, 5, 1⟩
def F.GNT_STAT_TRANSIT : Fld := ⟨A.GNT_STAT, 6, 1⟩
def F.GNT_STAT_SESS_OPEN : Fld := ⟨A.GNT_STAT, 8, 8⟩
def F.GNT_STAT_SESS_PEND : Fld := ⟨A.GNT_STAT, 16, 8⟩
def A.GNT_ERR : Nat := 0x40100008
def F.GNT_ERR_STOPONLY : Fld := ⟨A.GNT_ERR, 0, 1⟩
def F.GNT_ERR_CONFIG : Fld := ⟨A.GNT_ERR, 1, 1⟩
def F.GNT_ERR_DRBG : Fld := ⟨A.GNT_ERR, 2, 1⟩
def F.GNT_ERR_BLOCKBUS : Fld := ⟨A.GNT_ERR, 3, 1⟩
def F.GNT_ERR_CFG_CAUSE : Fld := ⟨A.GNT_ERR, 8, 8⟩
def A.GNT_SLOT_SEL : Nat := 0x4010000c
def F.GNT_SLOT_SEL_SLOT : Fld := ⟨A.GNT_SLOT_SEL, 0, 8⟩
def A.GNT_SLOT_INFO : Nat := 0x40100010
def F.GNT_SLOT_INFO_ATTR : Fld := ⟨A.GNT_SLOT_INFO, 0, 8⟩
def F.GNT_SLOT_INFO_FULL : Fld := ⟨A.GNT_SLOT_INFO, 8, 1⟩
def F.GNT_SLOT_INFO_ROOT : Fld := ⟨A.GNT_SLOT_INFO, 9, 1⟩
def F.GNT_SLOT_INFO_SESSION : Fld := ⟨A.GNT_SLOT_INFO, 10, 1⟩
def F.GNT_SLOT_INFO_RADBOUND : Fld := ⟨A.GNT_SLOT_INFO, 11, 1⟩
def F.GNT_SLOT_INFO_GEN : Fld := ⟨A.GNT_SLOT_INFO, 16, 16⟩
def A.GNT_SESS_TIMEOUT : Nat := 0x40100014
def F.GNT_SESS_TIMEOUT_SECONDS : Fld := ⟨A.GNT_SESS_TIMEOUT, 0, 16⟩
def A.GNT_EVT : Nat := 0x40100018
def F.GNT_EVT_RILL : Fld := ⟨A.GNT_EVT, 0, 6⟩
def F.GNT_EVT_EN : Fld := ⟨A.GNT_EVT, 8, 1⟩
def A.GNT_CRED_STAT : Nat := 0x4010001c
def F.GNT_CRED_STAT_LOADED : Fld := ⟨A.GNT_CRED_STAT, 0, 16⟩
def F.GNT_CRED_STAT_LOCKED : Fld := ⟨A.GNT_CRED_STAT, 16, 16⟩
def A.GNT_CALLS : Nat := 0x40100040
def F.GNT_CALLS_COUNT : Fld := ⟨A.GNT_CALLS, 0, 32⟩
def A.GNT_REFUSED : Nat := 0x40100044
def F.GNT_REFUSED_COUNT : Fld := ⟨A.GNT_REFUSED, 0, 32⟩
def A.GNT_AUTH_FAIL : Nat := 0x40100048
def F.GNT_AUTH_FAIL_COUNT : Fld := ⟨A.GNT_AUTH_FAIL, 0, 32⟩
def A.GNT_KEYCHG : Nat := 0x4010004c
def F.GNT_KEYCHG_COUNT : Fld := ⟨A.GNT_KEYCHG, 0, 32⟩
def A.GNT_EVT_LOST : Nat := 0x40100050
def F.GNT_EVT_LOST_COUNT : Fld := ⟨A.GNT_EVT_LOST, 0, 32⟩
def regs_gnt_0 : List RegD := [
  reg "GNT_CTRL" 0x0 1 0x0 [fd "RUN" 0 1 .rw 1 false],
  reg "GNT_STAT" 0x4 1 0x0 [fd "INFLIGHT" 0 5 .ro 0 false, fd "DRBG_OK" 5 1 .ro 0 false, fd "TRANSIT" 6 1 .ro 0 false, fd "SESS_OPEN" 8 8 .ro 0 false, fd "SESS_PEND" 16 8 .ro 0 false],
  reg "GNT_ERR" 0x8 1 0x0 [fd "STOPONLY" 0 1 .w1c 0 false, fd "CONFIG" 1 1 .w1c 0 false, fd "DRBG" 2 1 .w1c 0 false, fd "BLOCKBUS" 3 1 .w1c 0 false, fd "CFG_CAUSE" 8 8 .ro 0 false],
  reg "GNT_SLOT_SEL" 0xc 1 0x0 [fd "SLOT" 0 8 .rw 0 false],
  reg "GNT_SLOT_INFO" 0x10 1 0x0 [fd "ATTR" 0 8 .ro 0 false, fd "FULL" 8 1 .ro 0 false, fd "ROOT" 9 1 .ro 0 false, fd "SESSION" 10 1 .ro 0 false, fd "RADBOUND" 11 1 .ro 0 false, fd "GEN" 16 16 .ro 0 false],
  reg "GNT_SESS_TIMEOUT" 0x14 1 0x0 [fd "SECONDS" 0 16 .rw 0x258 false],
  reg "GNT_EVT" 0x18 1 0x0 [fd "RILL" 0 6 .rw 0 true, fd "EN" 8 1 .rw 0 true],
  reg "GNT_CRED_STAT" 0x1c 1 0x0 [fd "LOADED" 0 16 .ro 0 false, fd "LOCKED" 16 16 .ro 0 false],
  reg "GNT_CALLS" 0x40 1 0x0 [fd "COUNT" 0 32 .rc 0 false],
  reg "GNT_REFUSED" 0x44 1 0x0 [fd "COUNT" 0 32 .rc 0 false],
  reg "GNT_AUTH_FAIL" 0x48 1 0x0 [fd "COUNT" 0 32 .rc 0 false],
  reg "GNT_KEYCHG" 0x4c 1 0x0 [fd "COUNT" 0 32 .rc 0 false]]
def regs_gnt_1 : List RegD := [
  reg "GNT_EVT_LOST" 0x50 1 0x0 [fd "COUNT" 0 32 .rc 0 false]]
/-- The registers of GNT. -/
def regs_gnt : List RegD := regs_gnt_0 ++ regs_gnt_1
/-! ## LCS (spec/14_gauntlet_lifecycle.md) -/
def A.LCS_CTRL : Nat := 0x40110000
def F.LCS_CTRL_RUN : Fld := ⟨A.LCS_CTRL, 0, 1⟩
def A.LCS_STAT : Nat := 0x40110004
def F.LCS_STAT_STATE : Fld := ⟨A.LCS_STAT, 0, 3⟩
def F.LCS_STAT_DEBUG : Fld := ⟨A.LCS_STAT, 3, 1⟩
def F.LCS_STAT_TESTROOT : Fld := ⟨A.LCS_STAT, 4, 1⟩
def F.LCS_STAT_PENDING : Fld := ⟨A.LCS_STAT, 5, 1⟩
def F.LCS_STAT_DRS : Fld := ⟨A.LCS_STAT, 6, 1⟩
def F.LCS_STAT_JTAG : Fld := ⟨A.LCS_STAT, 7, 1⟩
def F.LCS_STAT_UNLOCKOFF : Fld := ⟨A.LCS_STAT, 8, 1⟩
def A.LCS_ERR : Nat := 0x40110008
def F.LCS_ERR_STOPONLY : Fld := ⟨A.LCS_ERR, 0, 1⟩
def F.LCS_ERR_CONFIG : Fld := ⟨A.LCS_ERR, 1, 1⟩
def F.LCS_ERR_UNLOCKFAIL : Fld := ⟨A.LCS_ERR, 2, 1⟩
def F.LCS_ERR_FUSE : Fld := ⟨A.LCS_ERR, 3, 1⟩
def A.LCS_CMD : Nat := 0x4011000c
def F.LCS_CMD_DEBUGON : Fld := ⟨A.LCS_CMD, 0, 1⟩
def A.LCS_CHAL (n : Nat) : Nat := 0x40110020 + 0x4 * n
def F.LCS_CHAL_VALUE (n : Nat) : Fld := ⟨A.LCS_CHAL n, 0, 32⟩
def A.LCS_UNLOCK_FAIL : Nat := 0x40110040
def F.LCS_UNLOCK_FAIL_COUNT : Fld := ⟨A.LCS_UNLOCK_FAIL, 0, 32⟩
def regs_lcs_0 : List RegD := [
  reg "LCS_CTRL" 0x0 1 0x0 [fd "RUN" 0 1 .rw 0 false],
  reg "LCS_STAT" 0x4 1 0x0 [fd "STATE" 0 3 .ro 0 false, fd "DEBUG" 3 1 .ro 0 false, fd "TESTROOT" 4 1 .ro 0 false, fd "PENDING" 5 1 .ro 0 false, fd "DRS" 6 1 .ro 0 false, fd "JTAG" 7 1 .ro 0 false, fd "UNLOCKOFF" 8 1 .ro 0 false],
  reg "LCS_ERR" 0x8 1 0x0 [fd "STOPONLY" 0 1 .w1c 0 false, fd "CONFIG" 1 1 .w1c 0 false, fd "UNLOCKFAIL" 2 1 .w1c 0 false, fd "FUSE" 3 1 .w1c 0 false],
  reg "LCS_CMD" 0xc 1 0x0 [fd "DEBUGON" 0 1 .wo 0 false],
  reg "LCS_CHALi" 0x20 8 0x4 [fd "VALUE" 0 32 .ro 0 false],
  reg "LCS_UNLOCK_FAIL" 0x40 1 0x0 [fd "COUNT" 0 32 .rc 0 false]]
/-- The registers of LCS. -/
def regs_lcs : List RegD := regs_lcs_0
/-! ## MEM (spec/15_integrity_maintenance.md) -/
def A.MEM_CTRL : Nat := 0x40120000
def F.MEM_CTRL_RUN : Fld := ⟨A.MEM_CTRL, 0, 1⟩
def A.MEM_STAT : Nat := 0x40120004
def F.MEM_STAT_INITBUSY : Fld := ⟨A.MEM_STAT, 0, 1⟩
def F.MEM_STAT_STBUSY : Fld := ⟨A.MEM_STAT, 1, 1⟩
def F.MEM_STAT_RETRAIN : Fld := ⟨A.MEM_STAT, 2, 1⟩
def F.MEM_STAT_SCRUBPAUSE : Fld := ⟨A.MEM_STAT, 3, 1⟩
def A.MEM_ERR : Nat := 0x40120008
def F.MEM_ERR_STOPONLY : Fld := ⟨A.MEM_ERR, 0, 1⟩
def F.MEM_ERR_CONFIG : Fld := ⟨A.MEM_ERR, 1, 1⟩
def F.MEM_ERR_UE_BASIN : Fld := ⟨A.MEM_ERR, 2, 1⟩
def F.MEM_ERR_UE_RILL : Fld := ⟨A.MEM_ERR, 3, 1⟩
def F.MEM_ERR_UE_DRAM : Fld := ⟨A.MEM_ERR, 4, 1⟩
def F.MEM_ERR_REMAP : Fld := ⟨A.MEM_ERR, 5, 1⟩
def F.MEM_ERR_CFG_CAUSE : Fld := ⟨A.MEM_ERR, 8, 8⟩
def A.MEM_EVT : Nat := 0x4012000c
def F.MEM_EVT_RILL : Fld := ⟨A.MEM_EVT, 0, 6⟩
def F.MEM_EVT_EN : Fld := ⟨A.MEM_EVT, 8, 1⟩
def A.MEM_MAINT_REQ : Nat := 0x40120010
def F.MEM_MAINT_REQ_ACT : Fld := ⟨A.MEM_MAINT_REQ, 0, 3⟩
def F.MEM_MAINT_REQ_RETRY : Fld := ⟨A.MEM_MAINT_REQ, 3, 1⟩
def F.MEM_MAINT_REQ_GO : Fld := ⟨A.MEM_MAINT_REQ, 31, 1⟩
def A.MEM_MAINT_STAT : Nat := 0x40120014
def F.MEM_MAINT_STAT_GRANT : Fld := ⟨A.MEM_MAINT_STAT, 0, 3⟩
def F.MEM_MAINT_STAT_RESULT : Fld := ⟨A.MEM_MAINT_STAT, 4, 2⟩
def F.MEM_MAINT_STAT_QUEUED : Fld := ⟨A.MEM_MAINT_STAT, 8, 5⟩
def A.MEM_SCRUB : Nat := 0x40120018
def F.MEM_SCRUB_BASIN : Fld := ⟨A.MEM_SCRUB, 0, 12⟩
def F.MEM_SCRUB_DRAM : Fld := ⟨A.MEM_SCRUB, 16, 12⟩
def A.MEM_INIT_BASE : Nat := 0x40120020
def F.MEM_INIT_BASE_ADDR : Fld := ⟨A.MEM_INIT_BASE, 0, 32⟩
def A.MEM_INIT_CTL : Nat := 0x40120024
def F.MEM_INIT_CTL_LEN : Fld := ⟨A.MEM_INIT_CTL, 0, 19⟩
def F.MEM_INIT_CTL_MEM : Fld := ⟨A.MEM_INIT_CTL, 20, 2⟩
def F.MEM_INIT_CTL_GO : Fld := ⟨A.MEM_INIT_CTL, 31, 1⟩
def A.MEM_ST_BASE : Nat := 0x40120028
def F.MEM_ST_BASE_ADDR : Fld := ⟨A.MEM_ST_BASE, 0, 32⟩
def A.MEM_ST_CTL : Nat := 0x4012002c
def F.MEM_ST_CTL_LEN : Fld := ⟨A.MEM_ST_CTL, 0, 19⟩
def A.MEM_ST_RES : Nat := 0x40120030
def F.MEM_ST_RES_FAILS : Fld := ⟨A.MEM_ST_RES, 0, 32⟩
def A.MEM_ST_FIRST : Nat := 0x40120034
def F.MEM_ST_FIRST_ADDR : Fld := ⟨A.MEM_ST_FIRST, 0, 32⟩
def A.MEM_FLIP_LO : Nat := 0x40120040
def F.MEM_FLIP_LO_MASK : Fld := ⟨A.MEM_FLIP_LO, 0, 32⟩
def A.MEM_FLIP_HI : Nat := 0x40120044
def F.MEM_FLIP_HI_MASK : Fld := ⟨A.MEM_FLIP_HI, 0, 32⟩
def A.MEM_FLIP_CFG : Nat := 0x40120048
def F.MEM_FLIP_CFG_CHECK : Fld := ⟨A.MEM_FLIP_CFG, 0, 8⟩
def F.MEM_FLIP_CFG_TARGET : Fld := ⟨A.MEM_FLIP_CFG, 8, 2⟩
def F.MEM_FLIP_CFG_ADDRMATCH : Fld := ⟨A.MEM_FLIP_CFG, 10, 1⟩
def F.MEM_FLIP_CFG_ARM : Fld := ⟨A.MEM_FLIP_CFG, 11, 1⟩
def F.MEM_FLIP_CFG_CORE : Fld := ⟨A.MEM_FLIP_CFG, 16, 5⟩
def A.MEM_FLIP_ADDR : Nat := 0x4012004c
def F.MEM_FLIP_ADDR_ADDR : Fld := ⟨A.MEM_FLIP_ADDR, 0, 32⟩
def A.MEM_LAST_CE : Nat := 0x40120050
def F.MEM_LAST_CE_ADDR : Fld := ⟨A.MEM_LAST_CE, 0, 32⟩
def A.MEM_LAST_UE : Nat := 0x40120054
def F.MEM_LAST_UE_ADDR : Fld := ⟨A.MEM_LAST_UE, 0, 32⟩
def A.MEM_BREMAP (n : Nat) : Nat := 0x40120060 + 0x4 * n
def F.MEM_BREMAP_LINE (n : Nat) : Fld := ⟨A.MEM_BREMAP n, 0, 16⟩
def F.MEM_BREMAP_EN (n : Nat) : Fld := ⟨A.MEM_BREMAP n, 31, 1⟩
def A.MEM_DREMAP (n : Nat) : Nat := 0x40120080 + 0x4 * n
def F.MEM_DREMAP_LINE (n : Nat) : Fld := ⟨A.MEM_DREMAP n, 0, 25⟩
def F.MEM_DREMAP_EN (n : Nat) : Fld := ⟨A.MEM_DREMAP n, 31, 1⟩
def A.MEM_CE_BASIN : Nat := 0x40120100
def F.MEM_CE_BASIN_COUNT : Fld := ⟨A.MEM_CE_BASIN, 0, 32⟩
def A.MEM_CE_RILL : Nat := 0x40120104
def F.MEM_CE_RILL_COUNT : Fld := ⟨A.MEM_CE_RILL, 0, 32⟩
def A.MEM_CE_DRAM : Nat := 0x40120108
def F.MEM_CE_DRAM_COUNT : Fld := ⟨A.MEM_CE_DRAM, 0, 32⟩
def A.MEM_UE_BASIN : Nat := 0x4012010c
def F.MEM_UE_BASIN_COUNT : Fld := ⟨A.MEM_UE_BASIN, 0, 32⟩
def A.MEM_UE_RILL : Nat := 0x40120110
def F.MEM_UE_RILL_COUNT : Fld := ⟨A.MEM_UE_RILL, 0, 32⟩
def A.MEM_UE_DRAM : Nat := 0x40120114
def F.MEM_UE_DRAM_COUNT : Fld := ⟨A.MEM_UE_DRAM, 0, 32⟩
def A.MEM_NARROW : Nat := 0x40120118
def F.MEM_NARROW_COUNT : Fld := ⟨A.MEM_NARROW, 0, 32⟩
def A.MEM_MAINT_REFUSED : Nat := 0x4012011c
def F.MEM_MAINT_REFUSED_COUNT : Fld := ⟨A.MEM_MAINT_REFUSED, 0, 32⟩
def A.MEM_WRITEBACK : Nat := 0x40120120
def F.MEM_WRITEBACK_COUNT : Fld := ⟨A.MEM_WRITEBACK, 0, 32⟩
def A.MEM_EVT_LOST : Nat := 0x40120124
def F.MEM_EVT_LOST_COUNT : Fld := ⟨A.MEM_EVT_LOST, 0, 32⟩
def regs_mem_0 : List RegD := [
  reg "MEM_CTRL" 0x0 1 0x0 [fd "RUN" 0 1 .rw 0 false],
  reg "MEM_STAT" 0x4 1 0x0 [fd "INITBUSY" 0 1 .ro 0 false, fd "STBUSY" 1 1 .ro 0 false, fd "RETRAIN" 2 1 .ro 0 false, fd "SCRUBPAUSE" 3 1 .ro 0 false],
  reg "MEM_ERR" 0x8 1 0x0 [fd "STOPONLY" 0 1 .w1c 0 false, fd "CONFIG" 1 1 .w1c 0 false, fd "UE_BASIN" 2 1 .w1c 0 false, fd "UE_RILL" 3 1 .w1c 0 false, fd "UE_DRAM" 4 1 .w1c 0 false, fd "REMAP" 5 1 .w1c 0 false, fd "CFG_CAUSE" 8 8 .ro 0 false],
  reg "MEM_EVT" 0xc 1 0x0 [fd "RILL" 0 6 .rw 0 true, fd "EN" 8 1 .rw 0 true],
  reg "MEM_MAINT_REQ" 0x10 1 0x0 [fd "ACT" 0 3 .rw 0 false, fd "RETRY" 3 1 .rw 0 false, fd "GO" 31 1 .wo 0 false],
  reg "MEM_MAINT_STAT" 0x14 1 0x0 [fd "GRANT" 0 3 .ro 0 false, fd "RESULT" 4 2 .ro 0 false, fd "QUEUED" 8 5 .ro 0 false],
  reg "MEM_SCRUB" 0x18 1 0x0 [fd "BASIN" 0 12 .rw 0x3c true, fd "DRAM" 16 12 .rw 0x5a0 true],
  reg "MEM_INIT_BASE" 0x20 1 0x0 [fd "ADDR" 0 32 .rw 0 false],
  reg "MEM_INIT_CTL" 0x24 1 0x0 [fd "LEN" 0 19 .rw 0 false, fd "MEM" 20 2 .rw 0 false, fd "GO" 31 1 .wo 0 false],
  reg "MEM_ST_BASE" 0x28 1 0x0 [fd "ADDR" 0 32 .rw 0 false],
  reg "MEM_ST_CTL" 0x2c 1 0x0 [fd "LEN" 0 19 .rw 0 false],
  reg "MEM_ST_RES" 0x30 1 0x0 [fd "FAILS" 0 32 .ro 0 false]]
def regs_mem_1 : List RegD := [
  reg "MEM_ST_FIRST" 0x34 1 0x0 [fd "ADDR" 0 32 .ro 0 false],
  reg "MEM_FLIP_LO" 0x40 1 0x0 [fd "MASK" 0 32 .rw 0 false],
  reg "MEM_FLIP_HI" 0x44 1 0x0 [fd "MASK" 0 32 .rw 0 false],
  reg "MEM_FLIP_CFG" 0x48 1 0x0 [fd "CHECK" 0 8 .rw 0 false, fd "TARGET" 8 2 .rw 0 false, fd "ADDRMATCH" 10 1 .rw 0 false, fd "ARM" 11 1 .w1s 0 false, fd "CORE" 16 5 .rw 0 false],
  reg "MEM_FLIP_ADDR" 0x4c 1 0x0 [fd "ADDR" 0 32 .rw 0 false],
  reg "MEM_LAST_CE" 0x50 1 0x0 [fd "ADDR" 0 32 .ro 0 false],
  reg "MEM_LAST_UE" 0x54 1 0x0 [fd "ADDR" 0 32 .ro 0 false],
  reg "MEM_BREMAPe" 0x60 8 0x4 [fd "LINE" 0 16 .rw 0 false, fd "EN" 31 1 .rw 0 false],
  reg "MEM_DREMAPd" 0x80 16 0x4 [fd "LINE" 0 25 .rw 0 false, fd "EN" 31 1 .rw 0 false],
  reg "MEM_CE_BASIN" 0x100 1 0x0 [fd "COUNT" 0 32 .rc 0 false],
  reg "MEM_CE_RILL" 0x104 1 0x0 [fd "COUNT" 0 32 .rc 0 false],
  reg "MEM_CE_DRAM" 0x108 1 0x0 [fd "COUNT" 0 32 .rc 0 false]]
def regs_mem_2 : List RegD := [
  reg "MEM_UE_BASIN" 0x10c 1 0x0 [fd "COUNT" 0 32 .rc 0 false],
  reg "MEM_UE_RILL" 0x110 1 0x0 [fd "COUNT" 0 32 .rc 0 false],
  reg "MEM_UE_DRAM" 0x114 1 0x0 [fd "COUNT" 0 32 .rc 0 false],
  reg "MEM_NARROW" 0x118 1 0x0 [fd "COUNT" 0 32 .rc 0 false],
  reg "MEM_MAINT_REFUSED" 0x11c 1 0x0 [fd "COUNT" 0 32 .rc 0 false],
  reg "MEM_WRITEBACK" 0x120 1 0x0 [fd "COUNT" 0 32 .rc 0 false],
  reg "MEM_EVT_LOST" 0x124 1 0x0 [fd "COUNT" 0 32 .rc 0 false]]
/-- The registers of MEM. -/
def regs_mem : List RegD := regs_mem_0 ++ regs_mem_1 ++ regs_mem_2
/-! ## BON (spec/16_bonnet_recorder.md) -/
def A.BON_CTRL : Nat := 0x40130000
def F.BON_CTRL_RUN : Fld := ⟨A.BON_CTRL, 0, 1⟩
def A.BON_STAT : Nat := 0x40130004
def F.BON_STAT_SUPPLY : Fld := ⟨A.BON_STAT, 0, 1⟩
def F.BON_STAT_COMMIT_BUSY : Fld := ⟨A.BON_STAT, 1, 1⟩
def F.BON_STAT_TIME_LOST : Fld := ⟨A.BON_STAT, 2, 1⟩
def F.BON_STAT_VBATLOW : Fld := ⟨A.BON_STAT, 3, 1⟩
def F.BON_STAT_FROZEN : Fld := ⟨A.BON_STAT, 4, 1⟩
def A.BON_ERR : Nat := 0x40130008
def F.BON_ERR_STOPONLY : Fld := ⟨A.BON_ERR, 0, 1⟩
def F.BON_ERR_CONFIG : Fld := ⟨A.BON_ERR, 1, 1⟩
def F.BON_ERR_CSPROT : Fld := ⟨A.BON_ERR, 2, 1⟩
def F.BON_ERR_CSUE : Fld := ⟨A.BON_ERR, 3, 1⟩
def F.BON_ERR_CMDREF : Fld := ⟨A.BON_ERR, 4, 1⟩
def F.BON_ERR_CFG_CAUSE : Fld := ⟨A.BON_ERR, 8, 8⟩
def A.BON_CFG : Nat := 0x4013000c
def F.BON_CFG_FOLLOW : Fld := ⟨A.BON_CFG, 0, 1⟩
def F.BON_CFG_RILL : Fld := ⟨A.BON_CFG, 8, 6⟩
def F.BON_CFG_EN : Fld := ⟨A.BON_CFG, 14, 1⟩
def A.BON_CMD : Nat := 0x40130010
def F.BON_CMD_SET : Fld := ⟨A.BON_CMD, 0, 1⟩
def F.BON_CMD_SYNC : Fld := ⟨A.BON_CMD, 1, 1⟩
def A.BON_TRIM : Nat := 0x40130014
def F.BON_TRIM_STEPS : Fld := ⟨A.BON_TRIM, 0, 12⟩
def A.BON_RTC_SEC_LO : Nat := 0x40130018
def F.BON_RTC_SEC_LO_SEC : Fld := ⟨A.BON_RTC_SEC_LO, 0, 32⟩
def A.BON_RTC_SEC_HI : Nat := 0x4013001c
def F.BON_RTC_SEC_HI_SEC : Fld := ⟨A.BON_RTC_SEC_HI, 0, 16⟩
def A.BON_RTC_SUB : Nat := 0x40130020
def F.BON_RTC_SUB_SUB : Fld := ⟨A.BON_RTC_SUB, 0, 15⟩
def A.BON_RTC_RELEASE : Nat := 0x40130024
def F.BON_RTC_RELEASE_PULSES : Fld := ⟨A.BON_RTC_RELEASE, 0, 32⟩
def A.BON_RTC_SET_LO : Nat := 0x40130028
def F.BON_RTC_SET_LO_VALUE : Fld := ⟨A.BON_RTC_SET_LO, 0, 32⟩
def A.BON_RTC_SET_HI : Nat := 0x4013002c
def F.BON_RTC_SET_HI_VALUE : Fld := ⟨A.BON_RTC_SET_HI, 0, 16⟩
def A.BON_RTC_SET_SUB : Nat := 0x40130030
def F.BON_RTC_SET_SUB_VALUE : Fld := ⟨A.BON_RTC_SET_SUB, 0, 15⟩
def A.BON_ALARM_SEC_LO (n : Nat) : Nat := 0x40130040 + 0x10 * n
def F.BON_ALARM_SEC_LO_VALUE (n : Nat) : Fld := ⟨A.BON_ALARM_SEC_LO n, 0, 32⟩
def A.BON_ALARM_SEC_HI (n : Nat) : Nat := 0x40130044 + 0x10 * n
def F.BON_ALARM_SEC_HI_VALUE (n : Nat) : Fld := ⟨A.BON_ALARM_SEC_HI n, 0, 16⟩
def A.BON_ALARM_SUB (n : Nat) : Nat := 0x40130048 + 0x10 * n
def F.BON_ALARM_SUB_VALUE (n : Nat) : Fld := ⟨A.BON_ALARM_SUB n, 0, 15⟩
def A.BON_ALARM_CTL (n : Nat) : Nat := 0x4013004c + 0x10 * n
def F.BON_ALARM_CTL_EN (n : Nat) : Fld := ⟨A.BON_ALARM_CTL n, 0, 1⟩
def F.BON_ALARM_CTL_WAKE (n : Nat) : Fld := ⟨A.BON_ALARM_CTL n, 1, 1⟩
def F.BON_ALARM_CTL_FIRED (n : Nat) : Fld := ⟨A.BON_ALARM_CTL n, 2, 1⟩
def F.BON_ALARM_CTL_LATE (n : Nat) : Fld := ⟨A.BON_ALARM_CTL n, 3, 1⟩
def A.BON_TAMPER_CFG : Nat := 0x40130080
def F.BON_TAMPER_CFG_EN0 : Fld := ⟨A.BON_TAMPER_CFG, 0, 1⟩
def F.BON_TAMPER_CFG_EN1 : Fld := ⟨A.BON_TAMPER_CFG, 8, 1⟩
def F.BON_TAMPER_CFG_POL0 : Fld := ⟨A.BON_TAMPER_CFG, 1, 1⟩
def F.BON_TAMPER_CFG_POL1 : Fld := ⟨A.BON_TAMPER_CFG, 9, 1⟩
def F.BON_TAMPER_CFG_DEB0 : Fld := ⟨A.BON_TAMPER_CFG, 2, 2⟩
def F.BON_TAMPER_CFG_DEB1 : Fld := ⟨A.BON_TAMPER_CFG, 10, 2⟩
def F.BON_TAMPER_CFG_ERASE0 : Fld := ⟨A.BON_TAMPER_CFG, 4, 1⟩
def F.BON_TAMPER_CFG_ERASE1 : Fld := ⟨A.BON_TAMPER_CFG, 12, 1⟩
def F.BON_TAMPER_CFG_KEYS0 : Fld := ⟨A.BON_TAMPER_CFG, 5, 1⟩
def F.BON_TAMPER_CFG_KEYS1 : Fld := ⟨A.BON_TAMPER_CFG, 13, 1⟩
def F.BON_TAMPER_CFG_WAKE0 : Fld := ⟨A.BON_TAMPER_CFG, 6, 1⟩
def F.BON_TAMPER_CFG_WAKE1 : Fld := ⟨A.BON_TAMPER_CFG, 14, 1⟩
def A.BON_TAMPER : Nat := 0x40130084
def F.BON_TAMPER_HIT0 : Fld := ⟨A.BON_TAMPER, 0, 1⟩
def F.BON_TAMPER_HIT1 : Fld := ⟨A.BON_TAMPER, 1, 1⟩
def F.BON_TAMPER_LEVEL0 : Fld := ⟨A.BON_TAMPER, 2, 1⟩
def F.BON_TAMPER_LEVEL1 : Fld := ⟨A.BON_TAMPER, 3, 1⟩
def A.BON_TAMPER_TIME (n : Nat) : Nat := 0x40130088 + 0x4 * n
def F.BON_TAMPER_TIME_SEC (n : Nat) : Fld := ⟨A.BON_TAMPER_TIME n, 0, 32⟩
def A.BON_VBAT : Nat := 0x40130090
def F.BON_VBAT_MV : Fld := ⟨A.BON_VBAT, 0, 13⟩
def A.BON_BSRAM (n : Nat) : Nat := 0x40131000 + 0x4 * n
def F.BON_BSRAM_DATA (n : Nat) : Fld := ⟨A.BON_BSRAM n, 0, 32⟩
def A.BON_CS (n : Nat) : Nat := 0x40132000 + 0x4 * n
def F.BON_CS_DATA (n : Nat) : Fld := ⟨A.BON_CS n, 0, 32⟩
def A.BON_COMMITS : Nat := 0x40130100
def F.BON_COMMITS_COUNT : Fld := ⟨A.BON_COMMITS, 0, 32⟩
def A.BON_SWITCHES : Nat := 0x40130104
def F.BON_SWITCHES_COUNT : Fld := ⟨A.BON_SWITCHES, 0, 32⟩
def A.BON_CS_CE : Nat := 0x40130108
def F.BON_CS_CE_COUNT : Fld := ⟨A.BON_CS_CE, 0, 32⟩
def A.BON_EVT_LOST : Nat := 0x4013010c
def F.BON_EVT_LOST_COUNT : Fld := ⟨A.BON_EVT_LOST, 0, 32⟩
def regs_bon_0 : List RegD := [
  reg "BON_CTRL" 0x0 1 0x0 [fd "RUN" 0 1 .rw 0 false],
  reg "BON_STAT" 0x4 1 0x0 [fd "SUPPLY" 0 1 .ro 0 false, fd "COMMIT_BUSY" 1 1 .ro 0 false, fd "TIME_LOST" 2 1 .ro 1 false, fd "VBATLOW" 3 1 .ro 0 false, fd "FROZEN" 4 1 .ro 0 false],
  reg "BON_ERR" 0x8 1 0x0 [fd "STOPONLY" 0 1 .w1c 0 false, fd "CONFIG" 1 1 .w1c 0 false, fd "CSPROT" 2 1 .w1c 0 false, fd "CSUE" 3 1 .w1c 0 false, fd "CMDREF" 4 1 .w1c 0 false, fd "CFG_CAUSE" 8 8 .ro 0 false],
  reg "BON_CFG" 0xc 1 0x0 [fd "FOLLOW" 0 1 .rw 0 false, fd "RILL" 8 6 .rw 0 true, fd "EN" 14 1 .rw 0 true],
  reg "BON_CMD" 0x10 1 0x0 [fd "SET" 0 1 .wo 0 false, fd "SYNC" 1 1 .wo 0 false],
  reg "BON_TRIM" 0x14 1 0x0 [fd "STEPS" 0 12 .rw 0 false],
  reg "BON_RTC_SEC_LO" 0x18 1 0x0 [fd "SEC" 0 32 .ro 0 false],
  reg "BON_RTC_SEC_HI" 0x1c 1 0x0 [fd "SEC" 0 16 .ro 0 false],
  reg "BON_RTC_SUB" 0x20 1 0x0 [fd "SUB" 0 15 .ro 0 false],
  reg "BON_RTC_RELEASE" 0x24 1 0x0 [fd "PULSES" 0 32 .rc 0 false],
  reg "BON_RTC_SET_LO" 0x28 1 0x0 [fd "VALUE" 0 32 .rw 0 false],
  reg "BON_RTC_SET_HI" 0x2c 1 0x0 [fd "VALUE" 0 16 .rw 0 false]]
def regs_bon_1 : List RegD := [
  reg "BON_RTC_SET_SUB" 0x30 1 0x0 [fd "VALUE" 0 15 .rw 0 false],
  reg "BON_ALARMa_SEC_LO" 0x40 4 0x10 [fd "VALUE" 0 32 .rw 0 false],
  reg "BON_ALARMa_SEC_HI" 0x44 4 0x10 [fd "VALUE" 0 16 .rw 0 false],
  reg "BON_ALARMa_SUB" 0x48 4 0x10 [fd "VALUE" 0 15 .rw 0 false],
  reg "BON_ALARMa_CTL" 0x4c 4 0x10 [fd "EN" 0 1 .rw 0 false, fd "WAKE" 1 1 .rw 0 false, fd "FIRED" 2 1 .ro 0 false, fd "LATE" 3 1 .ro 0 false],
  reg "BON_TAMPER_CFG" 0x80 1 0x0 [fd "EN0" 0 1 .rw 0 false, fd "EN1" 8 1 .rw 0 false, fd "POL0" 1 1 .rw 0 false, fd "POL1" 9 1 .rw 0 false, fd "DEB0" 2 2 .rw 1 false, fd "DEB1" 10 2 .rw 1 false, fd "ERASE0" 4 1 .rw 0 false, fd "ERASE1" 12 1 .rw 0 false, fd "KEYS0" 5 1 .rw 0 false, fd "KEYS1" 13 1 .rw 0 false, fd "WAKE0" 6 1 .rw 0 false, fd "WAKE1" 14 1 .rw 0 false],
  reg "BON_TAMPER" 0x84 1 0x0 [fd "HIT0" 0 1 .w1c 0 false, fd "HIT1" 1 1 .w1c 0 false, fd "LEVEL0" 2 1 .ro 0 false, fd "LEVEL1" 3 1 .ro 0 false],
  reg "BON_TAMPERt_TIME" 0x88 2 0x4 [fd "SEC" 0 32 .ro 0 false],
  reg "BON_VBAT" 0x90 1 0x0 [fd "MV" 0 13 .ro 0 false],
  reg "BON_BSRAMw" 0x1000 128 0x4 [fd "DATA" 0 32 .rw 0 false],
  reg "BON_CSw" 0x2000 1024 0x4 [fd "DATA" 0 32 .rw 0 false],
  reg "BON_COMMITS" 0x100 1 0x0 [fd "COUNT" 0 32 .rc 0 false]]
def regs_bon_2 : List RegD := [
  reg "BON_SWITCHES" 0x104 1 0x0 [fd "COUNT" 0 32 .rc 0 false],
  reg "BON_CS_CE" 0x108 1 0x0 [fd "COUNT" 0 32 .rc 0 false],
  reg "BON_EVT_LOST" 0x10c 1 0x0 [fd "COUNT" 0 32 .rc 0 false]]
/-- The registers of BON. -/
def regs_bon : List RegD := regs_bon_0 ++ regs_bon_1 ++ regs_bon_2
/-! ## REC (spec/16_bonnet_recorder.md) -/
def A.REC_CTRL : Nat := 0x40140000
def F.REC_CTRL_RUN : Fld := ⟨A.REC_CTRL, 0, 1⟩
def A.REC_STAT : Nat := 0x40140004
def F.REC_STAT_FIRSTFULL : Fld := ⟨A.REC_STAT, 0, 1⟩
def F.REC_STAT_WRAPPED : Fld := ⟨A.REC_STAT, 1, 1⟩
def F.REC_STAT_QUEUE : Fld := ⟨A.REC_STAT, 2, 5⟩
def A.REC_ERR : Nat := 0x40140008
def F.REC_ERR_STOPONLY : Fld := ⟨A.REC_ERR, 0, 1⟩
def F.REC_ERR_KIND : Fld := ⟨A.REC_ERR, 1, 1⟩
def A.REC_NEXT : Nat := 0x4014000c
def F.REC_NEXT_SEQ : Fld := ⟨A.REC_NEXT, 0, 32⟩
def A.REC_SNAP : Nat := 0x40140010
def F.REC_SNAP_GO : Fld := ⟨A.REC_SNAP, 0, 1⟩
def A.REC_SNAP_LOW : Nat := 0x40140014
def F.REC_SNAP_LOW_SEQ : Fld := ⟨A.REC_SNAP_LOW, 0, 32⟩
def A.REC_SNAP_HIGH : Nat := 0x40140018
def F.REC_SNAP_HIGH_SEQ : Fld := ⟨A.REC_SNAP_HIGH, 0, 32⟩
def A.REC_CURSOR : Nat := 0x4014001c
def F.REC_CURSOR_SEQ : Fld := ⟨A.REC_CURSOR, 0, 32⟩
def A.REC_WSTAT : Nat := 0x40140020
def F.REC_WSTAT_STATE : Fld := ⟨A.REC_WSTAT, 0, 2⟩
def F.REC_WSTAT_FIRST : Fld := ⟨A.REC_WSTAT, 2, 1⟩
def A.REC_WIN (n : Nat) : Nat := 0x40140040 + 0x4 * n
def F.REC_WIN_DATA (n : Nat) : Fld := ⟨A.REC_WIN n, 0, 32⟩
def A.REC_LOG_KIND : Nat := 0x40140060
def F.REC_LOG_KIND_KIND : Fld := ⟨A.REC_LOG_KIND, 0, 16⟩
def A.REC_LOG_SUBJ_LO : Nat := 0x40140064
def F.REC_LOG_SUBJ_LO_VALUE : Fld := ⟨A.REC_LOG_SUBJ_LO, 0, 32⟩
def A.REC_LOG_SUBJ_HI : Nat := 0x40140068
def F.REC_LOG_SUBJ_HI_VALUE : Fld := ⟨A.REC_LOG_SUBJ_HI, 0, 32⟩
def A.REC_LOG_DET_LO : Nat := 0x4014006c
def F.REC_LOG_DET_LO_VALUE : Fld := ⟨A.REC_LOG_DET_LO, 0, 32⟩
def A.REC_LOG_DET_HI : Nat := 0x40140070
def F.REC_LOG_DET_HI_VALUE : Fld := ⟨A.REC_LOG_DET_HI, 0, 32⟩
def A.REC_DROPPED : Nat := 0x40140080
def F.REC_DROPPED_COUNT : Fld := ⟨A.REC_DROPPED, 0, 32⟩
def regs_rec_0 : List RegD := [
  reg "REC_CTRL" 0x0 1 0x0 [fd "RUN" 0 1 .rw 1 false],
  reg "REC_STAT" 0x4 1 0x0 [fd "FIRSTFULL" 0 1 .ro 0 false, fd "WRAPPED" 1 1 .ro 0 false, fd "QUEUE" 2 5 .ro 0 false],
  reg "REC_ERR" 0x8 1 0x0 [fd "STOPONLY" 0 1 .w1c 0 false, fd "KIND" 1 1 .w1c 0 false],
  reg "REC_NEXT" 0xc 1 0x0 [fd "SEQ" 0 32 .ro 0 false],
  reg "REC_SNAP" 0x10 1 0x0 [fd "GO" 0 1 .wo 0 false],
  reg "REC_SNAP_LOW" 0x14 1 0x0 [fd "SEQ" 0 32 .ro 0 false],
  reg "REC_SNAP_HIGH" 0x18 1 0x0 [fd "SEQ" 0 32 .ro 0 false],
  reg "REC_CURSOR" 0x1c 1 0x0 [fd "SEQ" 0 32 .rw 0 false],
  reg "REC_WSTAT" 0x20 1 0x0 [fd "STATE" 0 2 .ro 0 false, fd "FIRST" 2 1 .ro 0 false],
  reg "REC_WINw" 0x40 8 0x4 [fd "DATA" 0 32 .ro 0 false],
  reg "REC_LOG_KIND" 0x60 1 0x0 [fd "KIND" 0 16 .wo 0 false],
  reg "REC_LOG_SUBJ_LO" 0x64 1 0x0 [fd "VALUE" 0 32 .rw 0 false]]
def regs_rec_1 : List RegD := [
  reg "REC_LOG_SUBJ_HI" 0x68 1 0x0 [fd "VALUE" 0 32 .rw 0 false],
  reg "REC_LOG_DET_LO" 0x6c 1 0x0 [fd "VALUE" 0 32 .rw 0 false],
  reg "REC_LOG_DET_HI" 0x70 1 0x0 [fd "VALUE" 0 32 .rw 0 false],
  reg "REC_DROPPED" 0x80 1 0x0 [fd "COUNT" 0 32 .rc 0 false]]
/-- The registers of REC. -/
def regs_rec : List RegD := regs_rec_0 ++ regs_rec_1
/-! ## GPIO (spec/18_module_interface.md) -/
def A.GPIO_CTRL : Nat := 0x40160000
def F.GPIO_CTRL_RUN : Fld := ⟨A.GPIO_CTRL, 0, 1⟩
def A.GPIO_STAT : Nat := 0x40160004
def F.GPIO_STAT_PENDING : Fld := ⟨A.GPIO_STAT, 0, 4⟩
def A.GPIO_ERR : Nat := 0x40160008
def F.GPIO_ERR_STOPONLY : Fld := ⟨A.GPIO_ERR, 0, 1⟩
def A.GPIO_IN : Nat := 0x4016000c
def F.GPIO_IN_GPIO : Fld := ⟨A.GPIO_IN, 0, 24⟩
def F.GPIO_IN_TRIG : Fld := ⟨A.GPIO_IN, 24, 4⟩
def A.GPIO_OUT : Nat := 0x40160010
def F.GPIO_OUT_OUT : Fld := ⟨A.GPIO_OUT, 0, 24⟩
def A.GPIO_OUT_SET : Nat := 0x40160014
def F.GPIO_OUT_SET_OUT : Fld := ⟨A.GPIO_OUT_SET, 0, 24⟩
def A.GPIO_OUT_CLR : Nat := 0x40160018
def F.GPIO_OUT_CLR_OUT : Fld := ⟨A.GPIO_OUT_CLR, 0, 24⟩
def A.GPIO_DIR : Nat := 0x4016001c
def F.GPIO_DIR_BITS : Fld := ⟨A.GPIO_DIR, 0, 24⟩
def A.GPIO_OD : Nat := 0x40160020
def F.GPIO_OD_BITS : Fld := ⟨A.GPIO_OD, 0, 24⟩
def A.GPIO_PULL_LO : Nat := 0x40160024
def F.GPIO_PULL_LO_PULL : Fld := ⟨A.GPIO_PULL_LO, 0, 32⟩
def A.GPIO_PULL_HI : Nat := 0x40160028
def F.GPIO_PULL_HI_PULL : Fld := ⟨A.GPIO_PULL_HI, 0, 16⟩
def F.GPIO_PULL_HI_TPULL : Fld := ⟨A.GPIO_PULL_HI, 16, 8⟩
def A.GPIO_TRIG_CFG (n : Nat) : Nat := 0x40160040 + 0x20 * n
def F.GPIO_TRIG_CFG_EDGE (n : Nat) : Fld := ⟨A.GPIO_TRIG_CFG n, 0, 2⟩
def F.GPIO_TRIG_CFG_STAMPARG (n : Nat) : Fld := ⟨A.GPIO_TRIG_CFG n, 2, 1⟩
def A.GPIO_TRIG_W0LO (n : Nat) : Nat := 0x40160044 + 0x20 * n
def F.GPIO_TRIG_W0LO_ENTRY (n : Nat) : Fld := ⟨A.GPIO_TRIG_W0LO n, 0, 32⟩
def A.GPIO_TRIG_W0HI (n : Nat) : Nat := 0x40160048 + 0x20 * n
def F.GPIO_TRIG_W0HI_FLAGS (n : Nat) : Fld := ⟨A.GPIO_TRIG_W0HI n, 0, 32⟩
def A.GPIO_TRIG_ARGLO (n : Nat) : Nat := 0x4016004c + 0x20 * n
def F.GPIO_TRIG_ARGLO_ARG (n : Nat) : Fld := ⟨A.GPIO_TRIG_ARGLO n, 0, 32⟩
def A.GPIO_TRIG_ARGHI (n : Nat) : Nat := 0x40160050 + 0x20 * n
def F.GPIO_TRIG_ARGHI_ARG (n : Nat) : Fld := ⟨A.GPIO_TRIG_ARGHI n, 0, 32⟩
def A.GPIO_TRIG_DL (n : Nat) : Nat := 0x40160054 + 0x20 * n
def F.GPIO_TRIG_DL_NS (n : Nat) : Fld := ⟨A.GPIO_TRIG_DL n, 0, 32⟩
def A.GPIO_TRIG_STAMP_LO (n : Nat) : Nat := 0x40160058 + 0x20 * n
def F.GPIO_TRIG_STAMP_LO_VALUE (n : Nat) : Fld := ⟨A.GPIO_TRIG_STAMP_LO n, 0, 32⟩
def A.GPIO_TRIG_STAMP_HI (n : Nat) : Nat := 0x4016005c + 0x20 * n
def F.GPIO_TRIG_STAMP_HI_VALUE (n : Nat) : Fld := ⟨A.GPIO_TRIG_STAMP_HI n, 0, 32⟩
def A.GPIO_TRIG_SUB (n : Nat) : Nat := 0x40160100 + 0x4 * n
def F.GPIO_TRIG_SUB_COUNT (n : Nat) : Fld := ⟨A.GPIO_TRIG_SUB n, 0, 32⟩
def A.GPIO_TRIG_OVR (n : Nat) : Nat := 0x40160110 + 0x4 * n
def F.GPIO_TRIG_OVR_COUNT (n : Nat) : Fld := ⟨A.GPIO_TRIG_OVR n, 0, 32⟩
def regs_gpio_0 : List RegD := [
  reg "GPIO_CTRL" 0x0 1 0x0 [fd "RUN" 0 1 .rw 0 false],
  reg "GPIO_STAT" 0x4 1 0x0 [fd "PENDING" 0 4 .ro 0 false],
  reg "GPIO_ERR" 0x8 1 0x0 [fd "STOPONLY" 0 1 .w1c 0 false],
  reg "GPIO_IN" 0xc 1 0x0 [fd "GPIO" 0 24 .ro 0 false, fd "TRIG" 24 4 .ro 0 false],
  reg "GPIO_OUT" 0x10 1 0x0 [fd "OUT" 0 24 .rw 0 false],
  reg "GPIO_OUT_SET" 0x14 1 0x0 [fd "OUT" 0 24 .w1s 0 false],
  reg "GPIO_OUT_CLR" 0x18 1 0x0 [fd "OUT" 0 24 .w1c 0 false],
  reg "GPIO_DIR" 0x1c 1 0x0 [fd "BITS" 0 24 .rw 0 false],
  reg "GPIO_OD" 0x20 1 0x0 [fd "BITS" 0 24 .rw 0 false],
  reg "GPIO_PULL_LO" 0x24 1 0x0 [fd "PULL" 0 32 .rw 0xaaaaaaaa false],
  reg "GPIO_PULL_HI" 0x28 1 0x0 [fd "PULL" 0 16 .rw 0xaaaa false, fd "TPULL" 16 8 .rw 0x55 false],
  reg "GPIO_TRIGn_CFG" 0x40 4 0x20 [fd "EDGE" 0 2 .rw 0 true, fd "STAMPARG" 2 1 .rw 0 true]]
def regs_gpio_1 : List RegD := [
  reg "GPIO_TRIGn_W0LO" 0x44 4 0x20 [fd "ENTRY" 0 32 .rw 0 true],
  reg "GPIO_TRIGn_W0HI" 0x48 4 0x20 [fd "FLAGS" 0 32 .rw 0 true],
  reg "GPIO_TRIGn_ARGLO" 0x4c 4 0x20 [fd "ARG" 0 32 .rw 0 true],
  reg "GPIO_TRIGn_ARGHI" 0x50 4 0x20 [fd "ARG" 0 32 .rw 0 true],
  reg "GPIO_TRIGn_DL" 0x54 4 0x20 [fd "NS" 0 32 .rw 0 true],
  reg "GPIO_TRIGn_STAMP_LO" 0x58 4 0x20 [fd "VALUE" 0 32 .rl 0 false],
  reg "GPIO_TRIGn_STAMP_HI" 0x5c 4 0x20 [fd "VALUE" 0 32 .ro 0 false],
  reg "GPIO_TRIGn_SUB" 0x100 4 0x4 [fd "COUNT" 0 32 .rc 0 false],
  reg "GPIO_TRIGn_OVR" 0x110 4 0x4 [fd "COUNT" 0 32 .rc 0 false]]
/-- The registers of GPIO. -/
def regs_gpio : List RegD := regs_gpio_0 ++ regs_gpio_1
end Sys2Proof.Machine
end

