-- ==== Sys2Proof/Machine/RegMap.lean ====
section
/-!
DEFINITION. The 25 register blocks of R34: their order (the SOURCE numbers of R487), their bases, their power domains,
and the register that stands at an address.
-/
namespace Sys2Proof.Machine

/-- The register blocks in the order of R34; the position is the SOURCE number of R487. -/
inductive Block where
  | sys | weir | rill | lamp | corr | pmap | pxp | flk | rad | etha | ethb | tsu
  | can | met | oxb | upd | gnt | lcs | mem | bon | recd | sto | gpio | svc | drc
  deriving DecidableEq, Repr

/-- The number of a block, 0 for SYS to 24 for DRC (R34, R487). -/
def Block.num : Block → Nat
  | .sys => 0 | .weir => 1 | .rill => 2 | .lamp => 3 | .corr => 4 | .pmap => 5 | .pxp => 6 | .flk => 7
  | .rad => 8 | .etha => 9 | .ethb => 10 | .tsu => 11 | .can => 12 | .met => 13 | .oxb => 14 | .upd => 15
  | .gnt => 16 | .lcs => 17 | .mem => 18 | .bon => 19 | .recd => 20 | .sto => 21 | .gpio => 22 | .svc => 23
  | .drc => 24

/-- All blocks, in the order of R34. -/
def allBlocks : List Block :=
  [.sys, .weir, .rill, .lamp, .corr, .pmap, .pxp, .flk, .rad, .etha, .ethb, .tsu, .can, .met, .oxb, .upd,
   .gnt, .lcs, .mem, .bon, .recd, .sto, .gpio, .svc, .drc]

/-- The base address of a block (R34). -/
def Block.base (b : Block) : Nat := 0x40000000 + 0x10000 * b.num

/-- The power domain of a block (R34). -/
def Block.domain : Block → Nat
  | .sys => 4 | .weir => 9 | .rill => 9 | .lamp => 10 | .corr => 10 | .pmap => 11 | .pxp => 11 | .flk => 11
  | .rad => 13 | .etha => 12 | .ethb => 12 | .tsu => 12 | .can => 15 | .met => 1 | .oxb => 4 | .upd => 4
  | .gnt => 3 | .lcs => 3 | .mem => 4 | .bon => 0 | .recd => 4 | .sto => 15 | .gpio => 15 | .svc => 15
  | .drc => 14

/-- The map of a block whose registers the spec does not list: its `CTRL` with the `RUN` bit that every block has (R10), in the place that
they have in every other block (log entry 40). Every other offset follows R35. -/
def regs_bare (name : String) : List RegD := [reg name 0 1 0 [fd "RUN" 0 1 .rw 0 false]]

/-- The register map of a block. -/
def Block.map : Block → List RegD
  | .sys => regs_sys | .weir => regs_weir | .rill => regs_rill | .lamp => regs_lamp | .corr => regs_corr
  | .pmap => regs_pmap | .pxp => regs_pxp | .flk => regs_flk | .rad => regs_rad | .etha => regs_eth ++ regs_ethA
  | .ethb => regs_eth | .tsu => regs_tsu | .can => regs_can | .met => regs_met | .oxb => regs_oxb
  | .upd => regs_upd | .gnt => regs_gnt | .lcs => regs_lcs | .mem => regs_mem | .bon => regs_bon
  | .recd => regs_rec | .sto => regs_bare "STO_CTRL" | .gpio => regs_gpio | .svc => regs_bare "SVC_CTRL"
  | .drc => regs_bare "DRC_CTRL"

/-- The block whose 64 KiB hold an address (R30, R34). -/
def blockAt (a : Nat) : Option Block :=
  if a < 0x40000000 then none else allBlocks[(a - 0x40000000) / 0x10000]?

/-- The register family that has a register at an address. -/
def regAt (a : Nat) : Option RegD :=
  match blockAt a with
  | none => none
  | some b => b.map.find? (fun r => r.holds (a - b.base))

/-- The reset value of the register at an address; zero where no register stands (R35). -/
def resetWord (a : Nat) : Word :=
  match regAt a with
  | some r => r.resetWord
  | none => 0

/-- The bits of the register at an address that belong to a field (R8: the others read zero). -/
def regMask (a : Nat) : Word :=
  match regAt a with
  | some r => r.mask
  | none => 0

/-- The bits of the register at an address that a read returns: those of write-only fields read zero (R7). -/
def readMask (a : Nat) : Word :=
  match regAt a with
  | some r => r.fields.foldl (fun x f => if f.ty = .wo then x &&& ~~~ fieldMask f.lo f.w else x) r.mask
  | none => 0

end Sys2Proof.Machine
end

