-- ==== Sys2Proof/Machine/Tab.lean ====
section
/-!
DEFINITION. Tables: sparse data as a list of (key, value) pairs in ONE canonical form, keys strictly rising and no entry
equal to what an unlisted key reads as, so that equal tables are equal lists.
-/
namespace Sys2Proof.Machine

variable {α : Type}

/-- What a table holds at a key; `d` says what an unlisted key reads as. -/
def tget (d : Nat → α) : List (Nat × α) → Nat → α
  | [], k => d k
  | (k', v) :: t, k => if k = k' then v else tget d t k

/-- The table with the key `k` holding `v`; writing what an unlisted key reads as removes the entry. -/
def tput [DecidableEq α] (d : Nat → α) (k : Nat) (v : α) : List (Nat × α) → List (Nat × α)
  | [] => if v = d k then [] else [(k, v)]
  | (k', v') :: t =>
    if k < k' then (if v = d k then (k', v') :: t else (k, v) :: (k', v') :: t)
    else if k = k' then (if v = d k then t else (k, v) :: t)
    else (k', v') :: tput d k v t

/-- The table without the keys from `lo` up to but not including `hi`. -/
def tdrop (lo hi : Nat) (t : List (Nat × α)) : List (Nat × α) :=
  t.filter (fun e => decide (e.1 < lo) || decide (hi ≤ e.1))

/-- The canonical form: keys strictly rising, and no entry that an unlisted key would read as. -/
abbrev TabWf (d : Nat → α) (t : List (Nat × α)) : Prop :=
  t.Pairwise (fun a b => a.1 < b.1) ∧ ∀ e ∈ t, e.2 ≠ d e.1

theorem mem_tput [DecidableEq α] (d : Nat → α) (k : Nat) (v : α) (t : List (Nat × α)) :
    ∀ e ∈ tput d k v t, e ∈ t ∨ (e = (k, v) ∧ v ≠ d k) := by
  induction t with
  | nil => intro e he; simp only [tput] at he; split at he <;> simp_all
  | cons p t ih =>
    intro e he
    obtain ⟨k', v'⟩ := p
    simp only [tput] at he
    split at he
    · split at he
      · exact .inl he
      · rcases List.mem_cons.1 he with h | h
        · exact .inr ⟨h, by assumption⟩
        · exact .inl h
    · split at he
      · split at he
        · exact .inl (List.mem_cons_of_mem _ he)
        · rcases List.mem_cons.1 he with h | h
          · exact .inr ⟨h, by assumption⟩
          · exact .inl (List.mem_cons_of_mem _ h)
      · rcases List.mem_cons.1 he with h | h
        · exact .inl (h ▸ List.mem_cons_self)
        · rcases ih e h with h | h
          · exact .inl (List.mem_cons_of_mem _ h)
          · exact .inr h

/-- A table operation keeps the canonical form: `tput`. -/
theorem tput_wf [DecidableEq α] (d : Nat → α) (k : Nat) (v : α) (t : List (Nat × α)) (h : TabWf d t) :
    TabWf d (tput d k v t) := by
  refine ⟨?_, ?_⟩
  · obtain ⟨hs, -⟩ := h
    induction t with
    | nil => simp only [tput]; split <;> simp
    | cons p t ih =>
      obtain ⟨k', v'⟩ := p
      obtain ⟨hp, ht⟩ := List.pairwise_cons.1 hs
      simp only [tput]
      split
      · split
        · exact hs
        · refine List.pairwise_cons.2 ⟨?_, hs⟩
          intro b hb
          rcases List.mem_cons.1 hb with hb | hb
          · subst hb; assumption
          · exact Nat.lt_trans (by assumption) (hp b hb)
      · split
        · split
          · exact ht
          · rename_i hk _
            subst hk
            exact List.pairwise_cons.2 ⟨hp, ht⟩
        · refine List.pairwise_cons.2 ⟨?_, ih ht⟩
          intro b hb
          rcases mem_tput d k v t b hb with hb | ⟨hb, -⟩
          · exact hp b hb
          · subst hb; simp only; omega
  · intro e he
    rcases mem_tput d k v t e he with h' | ⟨h', hv⟩
    · exact h.2 e h'
    · rw [h']; exact hv

/-- A table operation keeps the canonical form: `tdrop`. -/
theorem tdrop_wf (d : Nat → α) (lo hi : Nat) (t : List (Nat × α)) (h : TabWf d t) : TabWf d (tdrop lo hi t) :=
  ⟨h.1.filter _, fun e he => h.2 e (List.mem_filter.1 he).1⟩

/-- Reading the key just written gives the value written. -/
theorem tget_tput_same [DecidableEq α] (d : Nat → α) (k : Nat) (v : α) (t : List (Nat × α)) (h : TabWf d t) :
    tget d (tput d k v t) k = v := by
  have key : ∀ t : List (Nat × α), (∀ b ∈ t, k < b.1) → tget d t k = d k := by
    intro t
    induction t with
    | nil => intro _; rfl
    | cons p t ih =>
      intro hb
      have h1 := hb p List.mem_cons_self
      simp only [tget]
      rw [if_neg (by omega)]
      exact ih (fun b hb' => hb b (List.mem_cons_of_mem _ hb'))
  obtain ⟨hs, -⟩ := h
  induction t with
  | nil => simp only [tput]; split <;> simp_all [tget]
  | cons p t ih =>
    obtain ⟨k', v'⟩ := p
    obtain ⟨hp, ht⟩ := List.pairwise_cons.1 hs
    simp only [tput]
    split
    · rename_i hlt
      split
      · rename_i hv
        rw [hv]
        apply key
        intro b hb
        rcases List.mem_cons.1 hb with hb | hb
        · subst hb; exact hlt
        · exact Nat.lt_trans hlt (hp b hb)
      · simp [tget]
    · split
      · split
        · rename_i hk hv
          rw [hv]; apply key; intro b hb; rw [hk]; exact hp b hb
        · simp [tget]
      · rename_i hne
        simp only [tget]
        rw [if_neg hne]
        exact ih ht

/-- Writing one key leaves what every other key reads as. -/
theorem tget_tput_other [DecidableEq α] (d : Nat → α) (k j : Nat) (v : α) (t : List (Nat × α)) (hj : j ≠ k) :
    tget d (tput d k v t) j = tget d t j := by
  induction t with
  | nil => simp only [tput]; split <;> simp [tget, hj]
  | cons p t ih =>
    obtain ⟨k', v'⟩ := p
    simp only [tput]
    split
    · split
      · rfl
      · simp only [tget]; rw [if_neg hj]
    · split
      · rename_i hk
        split
        · simp only [tget]; rw [if_neg (by omega)]
        · simp only [tget]; rw [if_neg hj, if_neg (by omega)]
      · simp only [tget]; rw [ih]

end Sys2Proof.Machine
end

