-- ==== Sys2Proof/Machine/Store.lean ====
section
/-!
DEFINITION. The stores of the module in canonical form: the register file of all blocks, the bytes of every memory, the
bit errors that code words hold, the valid bits, and the fuses that have been burned.
Every byte memory lies in ONE table; a memory that the core address map of R30 does not reach has a key space of its own.
-/
namespace Sys2Proof.Machine

/-- The stores. Keys of `mem`, `errs` and `valid` are core addresses for the shared memories of R30 and the key spaces
below for the others. -/
structure Store where
  /-- register words by address; an unlisted register holds its reset value -/
  regs : List (Nat × Word)
  /-- memory bytes -/
  mem : List Host.Cell
  /-- bit errors of a code word, by the address of its first byte: data bits [63:0], check bits [71:64] (R451) -/
  errs : List (Nat × BitVec 72)
  /-- valid bits (R457), by doubleword address in Basin and rill SRAM, by page address in DRAM -/
  valid : List (Nat × Bool)
  /-- fuse bits that have been burned (R437 and R439); no operation removes one -/
  fuses : List Nat
  deriving DecidableEq, Repr

/-- Key of byte `a` of the local memories of core `n` (R30: reached by their own core alone). -/
def localKey (n a : Nat) : Nat := 0x100000000 * (n + 1) + a

/-- Key of byte `o` of the lamp record store (R160). -/
def lampKey (o : Nat) : Nat := 0x4000000000 + o

/-- Key of byte `o` of the pixel port buffers. -/
def pxpKey (o : Nat) : Nat := 0x4100000000 + o

/-- Key of byte `o` of the CAN entry SRAM (R334). -/
def canKey (o : Nat) : Nat := 0x4200000000 + o

/-- Key of byte `o` of entry `i` of RAD's neighbour table (R284). -/
def nbrKey (i o : Nat) : Nat := 0x4300000000 + 64 * i + o

/-- Key of byte `o` of the commit store (R484). -/
def csKey (o : Nat) : Nat := 0x4400000000 + o

/-- What an unlisted byte reads as: the key numbers of the two counter slots of a neighbour entry read 0xFF (R283: free); NOR reads as erased (0xFF), every other memory as zero (R457, R458, R454). -/
def memDefault (k : Nat) : Byte :=
  if 0x0C000000 ≤ k ∧ k < 0x10000000 then 0xFF
  else if 0x4300000000 ≤ k ∧ k < 0x4300008000 ∧ (k % 64 = 0x12 ∨ k % 64 = 0x13) then 0xFF
  else 0

/-- No bit error. -/
def noErr (_ : Nat) : BitVec 72 := 0

/-- A valid bit never set. -/
def notValid (_ : Nat) : Bool := false

/-- The canonical form of the byte memories (keys strictly rising, no entry equal to what an unlisted byte reads as). -/
abbrev Memory.wf (m : List Host.Cell) : Prop := TabWf memDefault m

/-- The canonical form of all stores; a register word has ones in no reserved bit (R8). -/
abbrev Store.Wf (t : Store) : Prop :=
  TabWf resetWord t.regs ∧ (∀ e ∈ t.regs, e.2 &&& ~~~ regMask e.1 = 0) ∧ Memory.wf t.mem ∧ TabWf noErr t.errs
    ∧ TabWf notValid t.valid

/-- The word of the register at address `a`. -/
def Store.reg (t : Store) (a : Nat) : Word := tget resetWord t.regs a

/-- The value of a register field. -/
def Store.fld (t : Store) (f : Fld) : Nat := fieldOf (t.reg f.addr) f.lo f.w

/-- One byte of memory. -/
def Store.byte (t : Store) (k : Nat) : Byte := tget memDefault t.mem k

/-- `n` bytes of memory from key `k`, the lowest address first. -/
def Store.bytes (t : Store) (k : Nat) : Nat → List Byte
  | 0 => []
  | n + 1 => t.byte k :: t.bytes (k + 1) n

/-- The number that bytes spell, the first the least significant (spec/00: little-endian). -/
def leNat : List Byte → Nat
  | [] => 0
  | b :: bs => b.toNat + 256 * leNat bs

/-- The number that bytes spell, the first the most significant. -/
def beNat (bs : List Byte) : Nat := leNat bs.reverse

/-- The `n` bytes of a number, the least significant first. -/
def leBytes : Nat → Nat → List Byte
  | 0, _ => []
  | n + 1, v => BitVec.ofNat 8 v :: leBytes n (v / 256)

/-- The `n` bytes of a number, the most significant first. -/
def beBytes (n v : Nat) : List Byte := (leBytes n v).reverse

/-- A number of `n` bytes at key `k`. -/
def Store.le (t : Store) (k n : Nat) : Nat := leNat (t.bytes k n)

/-- The 32-bit word at key `k`. -/
def Store.w32 (t : Store) (k : Nat) : Word := BitVec.ofNat 32 (t.le k 4)

/-- The 64-bit doubleword at key `k`. -/
def Store.w64 (t : Store) (k : Nat) : DWord := BitVec.ofNat 64 (t.le k 8)

/-- Stores a register word, without its reserved bits. -/
def Store.putReg (t : Store) (a : Nat) (v : Word) : Store :=
  { t with regs := tput resetWord a (v &&& regMask a) t.regs }

/-- Stores one byte. -/
def Store.putByte (t : Store) (k : Nat) (v : Byte) : Store := { t with mem := tput memDefault k v t.mem }

/-- Stores bytes at rising keys. -/
def Store.putBytes (t : Store) (k : Nat) : List Byte → Store
  | [] => t
  | b :: bs => (t.putByte k b).putBytes (k + 1) bs

/-- Records the bit errors of a code word. -/
def Store.putErr (t : Store) (k : Nat) (e : BitVec 72) : Store := { t with errs := tput noErr k e t.errs }

/-- Records a valid bit. -/
def Store.putValid (t : Store) (k : Nat) (v : Bool) : Store := { t with valid := tput notValid k v t.valid }

/-- Returns the registers from `lo` up to `hi` to their reset values. -/
def Store.dropRegs (t : Store) (lo hi : Nat) : Store := { t with regs := tdrop lo hi t.regs }

/-- Returns the memory from `lo` up to `hi`, with its errors and valid bits, to what an unlisted byte reads as. -/
def Store.dropMem (t : Store) (lo hi : Nat) : Store :=
  { t with mem := tdrop lo hi t.mem, errs := tdrop lo hi t.errs, valid := tdrop lo hi t.valid }

/-- Burns a fuse bit. -/
def Store.burn (t : Store) (n : Nat) : Store :=
  { t with fuses := if n ∈ t.fuses then t.fuses else n :: t.fuses }

theorem Store.putReg_wf (t : Store) (a : Nat) (v : Word) (h : t.Wf) : (t.putReg a v).Wf := by
  obtain ⟨h1, h2, h3, h4, h5⟩ := h
  refine ⟨tput_wf _ _ _ _ h1, ?_, h3, h4, h5⟩
  intro e he
  rcases mem_tput _ _ _ _ e he with he | ⟨he, -⟩
  · exact h2 e he
  · subst he
    simp [BitVec.and_assoc]

theorem Store.putByte_wf (t : Store) (k : Nat) (v : Byte) (h : t.Wf) : (t.putByte k v).Wf :=
  ⟨h.1, h.2.1, tput_wf _ _ _ _ h.2.2.1, h.2.2.2.1, h.2.2.2.2⟩

theorem Store.putBytes_wf (k : Nat) (bs : List Byte) : ∀ (t : Store), t.Wf → (t.putBytes k bs).Wf := by
  induction bs generalizing k with
  | nil => intro t h; exact h
  | cons b bs ih => intro t h; exact ih (k + 1) _ (t.putByte_wf k b h)

theorem Store.putErr_wf (t : Store) (k : Nat) (e : BitVec 72) (h : t.Wf) : (t.putErr k e).Wf :=
  ⟨h.1, h.2.1, h.2.2.1, tput_wf _ _ _ _ h.2.2.2.1, h.2.2.2.2⟩

theorem Store.putValid_wf (t : Store) (k : Nat) (v : Bool) (h : t.Wf) : (t.putValid k v).Wf :=
  ⟨h.1, h.2.1, h.2.2.1, h.2.2.2.1, tput_wf _ _ _ _ h.2.2.2.2⟩

theorem Store.dropRegs_wf (t : Store) (lo hi : Nat) (h : t.Wf) : (t.dropRegs lo hi).Wf :=
  ⟨tdrop_wf _ _ _ _ h.1, fun e he => h.2.1 e (List.mem_filter.1 he).1, h.2.2.1, h.2.2.2.1, h.2.2.2.2⟩

theorem Store.dropMem_wf (t : Store) (lo hi : Nat) (h : t.Wf) : (t.dropMem lo hi).Wf :=
  ⟨h.1, h.2.1, tdrop_wf _ _ _ _ h.2.2.1, tdrop_wf _ _ _ _ h.2.2.2.1, tdrop_wf _ _ _ _ h.2.2.2.2⟩

theorem Store.burn_wf (t : Store) (n : Nat) (h : t.Wf) : (t.burn n).Wf := h

theorem Store.putBytes_fuses (k : Nat) (bs : List Byte) : ∀ (t : Store), (t.putBytes k bs).fuses = t.fuses := by
  induction bs generalizing k with
  | nil => intro t; rfl
  | cons b bs ih => intro t; exact (ih (k + 1) _).trans rfl

end Sys2Proof.Machine
end

