-- ==== Sys2Proof/Machine/State.lean ====
section
/-!
DEFINITION. The state of the module as plain data: the stores (registers, memories, fuses), the state of each block that
no register shows, and the queue of commands that are waiting. Also the reasons a step can stop, and the state after reset.
-/
namespace Sys2Proof.Machine

/-! ## Eddy cores (spec/02, spec/03) -/

/-- What has issued and not yet returned: an access over Delta, one to the core's own local data memory, a lamp conversion, an atomic. -/
inductive LoadKind where
  | shared | near | lamp | atomic
  deriving DecidableEq, Repr

/-- A load, atomic, lamp conversion or temperature report that has issued and not yet returned (R44, R72, R121): the registers it
writes when it returns, and the `cx.lstat` bits it sets. -/
structure Load where
  writes : List (RegNo × Word)
  kind : LoadKind
  lstat : Word
  deriving DecidableEq, Repr

/-- A store that was refused and whose fault response is on its way or pending (R29, R87). `retired` is the retired
instruction count once the store had retired. -/
structure StoreFault where
  addr : Word
  code : Nat
  retired : Nat
  deriving DecidableEq, Repr

/-- A work item as Weir holds it (R131): descriptor fields, argument, deadline. -/
structure Item where
  entry : Word
  prio : Nat
  group : Nat
  edf : Bool
  cls : Nat
  arg : DWord
  deadline : Nat
  deriving DecidableEq, Repr

/-- What a core is doing: running instructions, or waiting inside one. -/
inductive CoreRun where
  /-- issues instructions -/
  | running
  /-- waits in the dispatch form of TAKE (R98) -/
  | takeWait
  /-- waits in TAKE on a rill, for the pair `pd` (R107) -/
  | rillWait (pd : RegNo) (rill : RillNo)
  /-- waits in TWAIT or TWAITD for an instant (R116) -/
  | timeWait (wd : RegNo) (instant : Nat)
  /-- waits in GCALL for the Gauntlet (R126) -/
  | callWait (wd : RegNo)
  /-- waits in GCALL until the Gauntlet, which holds 16 calls, accepts a call of a service with a block (R126) -/
  | callQueue (wd : RegNo) (service : Nat) (block : Nat)
  /-- halted by a double fault (R88) -/
  | halted
  /-- stopped by a debugger (R81, R116) -/
  | debug
  /-- restart in progress (R509) -/
  | restarting
  /-- its cluster's power domain is off (R502) -/
  | off
  deriving DecidableEq, Repr

/-- One Eddy core. Word register 0 is held as a register that every access reads as zero (R46). -/
structure Core where
  w : Vector Word 32
  pc : Word
  st : Word
  mode : Word
  cause : Word
  epc : Word
  eaddr : Word
  est : Word
  vec : Word
  scratch0 : Word
  scratch1 : Word
  budget : Word
  icount : Nat
  icounth : Word
  sat : Word
  lerr : Word
  item : Word
  takepc : Word
  popen : Word
  lstat : Word
  run : CoreRun
  loads : List Load
  /-- refused stores whose response has not arrived, oldest first -/
  stores : List StoreFault
  /-- store faults that have arrived and not been raised, oldest first -/
  faults : List StoreFault
  /-- words of local instruction memory that fetch still sees as they were (R33), by address -/
  oldFetch : List (Nat × Word)
  /-- the item that runs, for deadline accounting (R141), and whether it was dispatched past due -/
  work : Option (Item × Bool)
  /-- a debugger is attached to the core (R81) -/
  attached : Bool
  deriving DecidableEq, Repr

/-- A core at reset: the values of R51, R52 and R94; w1 to w31 and the pc have none there (log entry 1). -/
def Core.reset : Core :=
  { w := Vector.replicate 32 0, pc := 0x08000000, st := 0, mode := 1, cause := 0, epc := 0, eaddr := 0, est := 0,
    vec := 0x08000000, scratch0 := 0, scratch1 := 0, budget := 0, icount := 0, icounth := 0, sat := 0, lerr := 0,
    item := 0, takepc := 0, popen := 0, lstat := 0, run := .running, loads := [], stores := [], faults := [],
    oldFetch := [], work := none, attached := false }

/-! ## Weir and the rills (spec/04) -/

/-- Who has a packet open on a rill: a core or a fixed-function block. -/
inductive Master where
  | core (c : CoreId)
  | block (n : Nat)
  deriving DecidableEq, Repr

/-- One rill (R147). Positions are kept as the release position and three counts above it, so that
Rd = Rl + `nread`, V = Rd + `unread`, W = V + `npkt`, each modulo the size. -/
structure Rill where
  rl : Nat
  nread : Nat
  unread : Nat
  npkt : Nat
  /-- the position M that was last marked -/
  mark : Nat
  /-- slots from Rl to the mark while it is valid -/
  markOff : Option Nat
  armed : Bool
  /-- the master of the open packet -/
  pkt : Option Master
  /-- cores that wait in TAKE on the rill, in the order their TAKE arrived (R103), with the pair each names -/
  waiters : List CoreId
  deriving DecidableEq, Repr

/-- A rill as R149 leaves it when it is enabled. -/
def Rill.reset : Rill :=
  { rl := 0, nread := 0, unread := 0, npkt := 0, mark := 0, markOff := none, armed := true, pkt := none, waiters := [] }

/-- Weir and the rill controller. -/
structure Weir where
  /-- ready items in the order of acceptance (R138) -/
  ready : List Item
  /-- cores that wait in dispatch TAKE, in the order their TAKE reached Weir, each with the group in whose waiting queue it
  stands, if in any (R137) -/
  waiting : List (CoreId × Option Nat)
  /-- the group served last (R139) -/
  lastGroup : Nat
  rills : Vector Rill 64
  /-- the feed rill served last (R155) -/
  lastFeed : Nat
  deriving DecidableEq, Repr

def Weir.reset : Weir :=
  { ready := [], waiting := [], lastGroup := 3, rills := Vector.replicate 64 Rill.reset, lastFeed := 63 }

/-! ## Event recorder (spec/16) -/

/-- A record of R487 without its sequence number. -/
structure Record where
  kind : Nat
  source : Nat
  flags : Nat
  time : Nat
  subject : DWord
  detail : DWord
  deriving DecidableEq, Repr

/-- The event recorder: input queue, the two record areas, the sequence counter. -/
structure Recorder where
  /-- records accepted and not yet written, oldest first (R489) -/
  queue : List Record
  /-- records with their sequence numbers: the first 256 since cold start -/
  first : List (Nat × Record)
  /-- the circulating area of 4,096 records, newest first -/
  circ : List (Nat × Record)
  /-- records written since cold start; SEQ is this modulo 2^32 -/
  next : Nat
  /-- records dropped since the last one written (R489) -/
  dropped : Nat
  /-- no further record is taken, from a system reset command on (R507) -/
  closed : Bool
  /-- records latched in D0 while D4 was off (R488), oldest first -/
  latched : List Record
  deriving DecidableEq, Repr

def Recorder.reset : Recorder := { queue := [], first := [], circ := [], next := 0, dropped := 0, closed := false, latched := [] }

/-! ## Memory integrity (spec/15) -/

/-- An erase or program operation of STO on NOR (R410, R464): byte offset in NOR, length, and the bytes to program, none for an
erase. -/
structure NorOp where
  off : Nat
  len : Nat
  data : Option (List Byte)
  deriving DecidableEq, Repr

/-- MEM: what no register shows. -/
structure MemUnit where
  /-- words the scrubber has reported as uncorrectable and that have not been written since, newest first, at most 16 (R462) -/
  scrubbed : List Nat
  /-- write-backs of corrected words that wait: address, data and bit errors of the code word that was read, data to write
  (R452) -/
  writebacks : List (Nat × DWord × BitVec 72 × DWord)
  /-- where the scrubber of each memory stands: the offset of the first doubleword of its pass that it has not read (R462) -/
  scrubAt : Vector Nat 3
  /-- the operation of STO that waits for the grant or holds it, and those that STO makes after it, oldest first -/
  nor : Option NorOp
  norq : List NorOp
  /-- first address and bytes of the ranges whose initialisation has not ended (R459) -/
  inits : List (Nat × Nat)
  /-- first address and bytes of the region of the self-test that runs, as they stood at its grant (R467) -/
  test : Nat × Nat
  deriving DecidableEq, Repr

def MemUnit.reset : MemUnit := { scrubbed := [], writebacks := [], scrubAt := Vector.replicate 3 0, nor := none, norq := [], inits := [], test := (0, 0) }

/-! ## Lamp engine (spec/05) -/

/-- The thermal state of a lamp record (R169): state code, last temperature if any, time base value of the report, entries
into FAULT since the state last started. -/
structure Therm where
  state : Nat
  temp : Option (BitVec 16)
  since : Nat
  faults : Nat
  deriving DecidableEq, Repr

/-- A batch in progress (R173, R176). -/
structure Batch where
  /-- address of the descriptor -/
  desc : Nat
  op : Nat
  bflags : Nat
  rill : Nat
  count : Nat
  src : Nat
  dst : Nat
  first : Nat
  /-- entries completed -/
  idx : Nat
  errors : Nat
  /-- CLAMP, DERATE and TFAULT over all entries so far -/
  flags : Nat
  /-- the status, once no further entry is to be done -/
  status : Option Nat
  /-- RESULT has been written, or the attempt has faulted -/
  written : Bool
  deriving DecidableEq, Repr

/-- The lamp engine: what stands beside the record store, the curves and the batches. -/
structure Lamp where
  /-- thermal state by record index; a record without one is unlisted -/
  therm : List (Nat × Option Therm)
  /-- curve entries T_c[i] by 512 × c + i; an unlisted entry holds 256 × i -/
  curves : List (Nat × Nat)
  /-- addresses of the batches held, oldest first, without the one in progress -/
  held : List Word
  cur : Option Batch
  deriving DecidableEq, Repr

def Lamp.reset : Lamp := { therm := [], curves := [], held := [], cur := none }

/-! ## Street services (spec/06) -/

/-- The table image in force (R194): the records in use of each part. -/
structure Image where
  nodes : List DWord
  edges : List Word
  sched : List (DWord × DWord)
  hols : List DWord
  offs : List (DWord × DWord)
  deriving DecidableEq, Repr

/-- What CORR keeps of a node (R211, R212): when it was last reported, its raised level (0: not raised), the instant its hold
ends, its fall time in ms, the profile of the last walk that raised it or extended its hold. -/
structure Node where
  seen : Option Nat
  lvl : Nat
  hold : Nat
  fall : Nat
  prof : Nat
  deriving DecidableEq, Repr

/-- An entry of the fault coalescing table (R216). `phase` is 0 open, 1 open and flushed (R220), 2 closed with its summary
waiting. -/
structure FaultEntry where
  id : Nat
  code : Nat
  subj : Nat
  sev : Nat
  who : Nat
  count : Nat
  first : Nat
  last : Nat
  opened : Nat
  phase : Nat
  deriving DecidableEq, Repr

/-- A fault event that waits for `FLT_OUT` (R217, R219). -/
inductive FaultEvent where
  | opened (body : List DWord)
  | summary (id : Nat)
  | full
  | clear (lost : Nat)
  deriving DecidableEq, Repr

/-- CORR: what no register shows. -/
structure Corr where
  image : Option Image
  /-- dynamic state by node number; an unlisted node has none -/
  nodes : List (Nat × Option Node)
  /-- azimuths that the next read of `CORR_SITEs_EL` latches -/
  azimuth : Vector Word 4
  /-- the azimuth that the next read of `CORR_SOL_QEL` latches -/
  queryAz : Word
  /-- the query that runs: instant and site (R204) -/
  query : Option (Nat × Nat)
  /-- clock and solar entries that have fired, with the local date (day number) each fired for -/
  fired : List (Nat × Int)
  /-- solar entries that wait for their delay: entry, crossing instant, day number of the crossing -/
  solar : List (Nat × Nat × Int)
  /-- crossing and schedule items that wait for their rill, oldest first (R208) -/
  items : List DWord
  /-- the raise or fall packet that waits for `COR_OUT`: flags and body (R214) -/
  held : Option (Word × List DWord)
  /-- fault entries in use, in the order in which they were opened -/
  faults : List FaultEntry
  nextId : Nat
  /-- fault events that wait for `FLT_OUT`, oldest first -/
  events : List FaultEvent
  /-- reports lost since TABLE_FULL was posted, while the table has been full since (R218) -/
  lost : Option Nat
  /-- time base at the last stop, where the time was set then (R221) -/
  stopped : Option Nat
  /-- the second of the latest update of the sites (R201) -/
  updated : Option Nat
  /-- the TAI − UTC that stays in force until a tick, and that tick, after a write of `CORR_TAI_UTC` (R224) -/
  tai : Option (Nat × Nat)
  /-- `CORR_RILLS` and `CORR_SOL_CFG` as they were when CORR last stopped: what it still holds goes to their rills (R195, R221) -/
  rills : Option (Word × Word)
  deriving DecidableEq, Repr

def Corr.reset : Corr :=
  { image := none, nodes := [], azimuth := Vector.replicate 4 0, queryAz := 0, query := none, fired := [], solar := [],
    items := [], held := none, faults := [], nextId := 0, events := [], lost := none, stopped := none, updated := none, tai := none,
    rills := none }

/-! ## Show services (spec/07) -/

/-- What FLK tracks of a genlock or LTC source (R225, R231). -/
structure Track where
  /-- the latest edge, accepted or not -/
  edge : Option Nat
  /-- the last accepted edge -/
  stamp : Option Nat
  /-- the last accepted intervals, newest first, at most 8 -/
  ivals : List Nat
  /-- consecutive accepted intervals, up to 4 -/
  good : Nat
  /-- consecutive misses -/
  misses : Nat
  locked : Bool
  deriving DecidableEq, Repr

def Track.reset : Track := { edge := none, stamp := none, ivals := [], good := 0, misses := 0, locked := false }

/-- FLK: what no register shows. -/
structure Flk where
  gen : Track
  ltc : Track
  /-- the requested source that FLK has not switched to yet -/
  want : Option Nat
  /-- the source whose first instant is to be chosen after the walk in progress -/
  after : Bool
  /-- the next instant and its frame number -/
  next : Option (Nat × Nat)
  /-- the next instant is the first after a switch -/
  first : Bool
  /-- the last frame number committed or used up -/
  used : Option Nat
  /-- the last committed frame number -/
  frame : Nat
  /-- the last commit instant -/
  last : Nat
  /-- no frame has been committed since `RUN` was set -/
  fresh : Bool
  cues : List DWord
  cPrev : Option Nat
  /-- consecutive valid LTC frames -/
  valid : Nat
  /-- the next LTC frame is the first after lock -/
  newLock : Bool
  ltcStamp : Nat
  /-- commit items that wait for their rill -/
  items : List DWord
  /-- consecutive late frames, up to 3 -/
  lateRun : Nat
  deriving DecidableEq, Repr

def Flk.reset : Flk :=
  { gen := Track.reset, ltc := Track.reset, want := none, after := false, next := none, first := false, used := none,
    frame := 0, last := 0, fresh := true, cues := [], cPrev := none, valid := 0, newLock := true, ltcStamp := 0, items := [], lateRun := 0 }

/-- A video stream (R236). -/
structure Ingest where
  /-- the newest complete frame's buffer -/
  newest : Option Nat
  /-- it has completed since the last walk took one -/
  new : Bool
  /-- the buffer a walk holds -/
  held : Option Nat
  /-- the frame being received: buffer, RTP timestamp, first sequence number, sequence numbers received relative to it, whether
  a packet of it was dropped -/
  cur : Option (Nat × Nat × Nat × List Nat × Bool)
  /-- the sequence number expected next, once a frame has ended -/
  expect : Option Nat
  deriving DecidableEq, Repr

def Ingest.reset : Ingest := { newest := none, new := false, held := none, cur := none, expect := none }

/-- A send that a walk gathers (R246): first universe, slots of each, body so far. -/
structure Gather where
  univ : Nat
  last : Nat
  slots : Nat
  body : List Byte
  deriving DecidableEq, Repr

/-- A walk in progress. -/
structure Walk where
  frame : Nat
  start : Nat
  bank : Nat
  level : Nat
  /-- points and entries consumed -/
  point : Nat
  entry : Nat
  /-- universes and port segments among the entries (R241) -/
  univs : Nat
  segs : Nat
  gather : Option Gather
  /-- where the next record of the send ring goes -/
  head : Nat
  /-- the walk has counted that its points ran out -/
  short : Bool
  /-- the walk waits for space in the send ring -/
  waiting : Bool
  /-- every entry has been mapped and every send handed over -/
  mapped : Bool
  /-- when PMAP reported the walk done -/
  done : Option Nat
  deriving DecidableEq, Repr

/-- An RDM request of a port (R255). -/
inductive Rdm where
  | idle
  | queued
  /-- the request is being sent, until `fin`, or its response is awaited or captured -/
  | running (fin : Nat)
  /-- the result item waits for its rill -/
  | result (item : DWord)
  deriving DecidableEq, Repr

/-- A pixel port (R250): which buffer is the front one, bytes in the back one, end of the frame it sends, and the last frame it
began: its start on the time base as it stands, and its bytes as they go over the wire (R251 to R253, R255). -/
structure Port where
  front : Nat
  back : Nat
  sends : Option Nat
  began : Int
  wire : List Byte
  /-- the port drives its pads: it has been enabled while PXP ran (R517) -/
  driven : Bool
  /-- the last thing the port did was to end a DMX frame -/
  dmxEnded : Bool
  rdm : Rdm
  deriving DecidableEq, Repr

def Port.reset : Port := { front := 0, back := 0, sends := none, began := 0, wire := [], driven := false, dmxEnded := false, rdm := .idle }

/-- The show blocks. -/
structure Show where
  flk : Flk
  ins : Vector Ingest 2
  walk : Option Walk
  /-- the frame number for which the last walk was started -/
  walked : Option Nat
  /-- when universe discovery was sent last, on the time base as it stands (R249) -/
  disc : Int
  ports : Vector Port 16
  deriving DecidableEq, Repr

def Show.reset : Show :=
  { flk := Flk.reset, ins := Vector.replicate 2 Ingest.reset, walk := none, walked := none, disc := 0, ports := Vector.replicate 16 Port.reset }

/-! ## Ethernet and network time (spec/09) -/

/-- A transmit descriptor (R306). -/
structure SendDesc where
  kind : Nat
  flags : Nat
  tci : Nat
  hlen : Nat
  seg : Nat
  hdr : Nat
  body : Nat
  blen : Nat
  tsoff : Nat
  paOff : Nat
  paStart : Nat
  pbOff : Nat
  pbValue : Nat
  ipid : Nat
  deriving DecidableEq, Repr

/-- A send: the descriptor's address, what it says, frames sent, egress stamp of the first, status once it has ended, whether
RESULT has been written. `raw` is the frame of a universe discovery page, which has no descriptor. -/
structure Send where
  addr : Nat
  d : SendDesc
  raw : List Byte
  sent : Nat
  stamp : Nat
  status : Option Nat
  written : Bool
  deriving DecidableEq, Repr

/-- A frame on the wire, from the destination address up to the FCS, without it. -/
structure TxFrame where
  bytes : List Byte
  stamp : Nat
  /-- its FCS is inverted (R314) -/
  badFcs : Bool
  deriving DecidableEq, Repr

/-- An Ethernet port. -/
structure EthPort where
  /-- the group table (R301); an unlisted entry is 0 -/
  groups : List (Nat × Word)
  /-- the buffer each receive queue has in hand -/
  inHand : Vector (Option Nat) 8
  /-- completion items of received frames that wait for their rill, with their queues, oldest first (R156) -/
  items : List (Nat × DWord)
  /-- the descriptor each transmit queue works on -/
  tx : Vector (Option Send) 4
  /-- the show queue, oldest first (port B) -/
  shows : List Send
  /-- the launch slot (port B) -/
  launch : Option (List Byte)
  /-- launch frames whose instant came during a pause, oldest first (R312) -/
  launchLate : List (List Byte)
  /-- frames that wait in the bridge buffer for this egress, with their ingress stamps, oldest first -/
  waiting : List (List Byte × Nat)
  pauseEnd : Nat
  /-- the last frame sent -/
  last : Option TxFrame
  deriving DecidableEq, Repr

def EthPort.reset : EthPort :=
  { groups := [], inHand := Vector.replicate 8 none, items := [], tx := Vector.replicate 4 none, shows := [], launch := none,
    launchLate := [], waiting := [], pauseEnd := 0, last := none }

/-- A learned address of the bridge (R313), and when it was seen last, on the time base as it stands. -/
structure BridgeEntry where
  mac : Nat
  port : Nat
  seen : Int
  deriving DecidableEq, Repr

/-- A tracker of the TSU (R321): x in 2⁻¹⁶ ns, y in 2⁻¹⁶ ppb, stamp and number of measurements, consecutive measurements inside
the lock window and outside the unlock threshold, when the last measurement came. -/
structure Tracker where
  x : Int
  y : Int
  t : Nat
  n : Nat
  inside : Nat
  outside : Nat
  seen : Nat
  deriving DecidableEq, Repr

def Tracker.reset : Tracker := { x := 0, y := 0, t := 0, n := 0, inside := 0, outside := 0, seen := 0 }

/-- The time-stamp unit: fraction of the time base in 2⁻³² ns, applied rate in 2⁻¹⁶ ppb, trackers, the source a switch waits
for, the last accepted `PPS_IN` edge, when the last second with or without an edge was counted, the rise of `PPS_OUT` while it
is high. -/
structure Tsu where
  frac : Nat
  a : Int
  trk : Vector Tracker 3
  want : Option Nat
  ppsEdge : Option Nat
  ppsRef : Nat
  ppsOut : Option Int
  deriving DecidableEq, Repr

def Tsu.reset : Tsu :=
  { frac := 0, a := 0, trk := Vector.replicate 3 Tracker.reset, want := none, ppsEdge := none, ppsRef := 0, ppsOut := none }

/-- Both ports, the bridge's address table, the TSU. -/
structure Net where
  ports : Vector EthPort 2
  table : List BridgeEntry
  tsu : Tsu
  deriving DecidableEq, Repr

def Net.reset : Net := { ports := Vector.replicate 2 EthPort.reset, table := [], tsu := Tsu.reset }

/-! ## Gauntlet (spec/14) -/

/-- A filled key slot: attributes (R423) and key bytes. A type 4 key is a 32-byte big-endian scalar. -/
structure KeySlot where
  attr : Nat
  key : List Byte
  deriving DecidableEq, Repr

/-- A management session (R443, R444): its credential, when it was opened or last used, whether it waits for the host's
response, the transcript T0, the ephemeral private key, the roles once it is open. -/
structure Session where
  cred : Nat
  since : Nat
  waiting : Bool
  t0 : List Byte
  priv : List Byte
  roles : Nat
  deriving DecidableEq, Repr

/-- A loaded credential (R442) with its consecutive failures and the instant it was locked (R445). -/
structure Credential where
  bytes : List Byte
  fails : Nat
  locked : Option Nat
  deriving DecidableEq, Repr

/-- A call that the Gauntlet has accepted (R126, R127): service, block address, the 64 bytes of the block if they could be read, whether its caller runs in system mode, the core
that waits for it or else the rill of a posted call, its answer once it has one. -/
structure Call where
  svc : Nat
  blk : Nat
  fields : Option (List Byte)
  sys : Bool
  who : CoreId
  rill : Option RillNo
  answer : Option DWord
  /-- the completion of a posted call has been tried -/
  tried : Bool
  /-- its refusal for lack of room has counted (R156) -/
  told : Bool
  deriving DecidableEq, Repr

/-- What the Gauntlet does to its slots by itself: closes a session with a reason (R446), or opens debug (R441). -/
inductive VaultAct where
  | close (session reason : Nat)
  | debug
  deriving DecidableEq, Repr

/-- The Gauntlet and the life-cycle controller: what no register shows. -/
structure Gnt where
  /-- filled slots by number -/
  slots : List (Nat × KeySlot)
  /-- key changes of a slot since D3 was reset -/
  gens : List (Nat × Nat)
  sessions : Vector (Option Session) 8
  creds : Vector (Option Credential) 16
  /-- accepted calls, oldest first, at most 16 -/
  calls : List Call
  /-- acts that wait for calls accepted before them, each with the number of calls ahead of it (R430, R446) -/
  due : List (VaultAct × Nat)
  /-- the instant before which no unlock attempt is accepted (R441) -/
  unlockAt : Nat
  /-- failed unlocks since D3 was reset -/
  unlockFails : Nat
  deriving DecidableEq, Repr

def Gnt.reset : Gnt :=
  { slots := [], gens := [], sessions := Vector.replicate 8 none, creds := Vector.replicate 16 none, calls := [], due := [],
    unlockAt := 0, unlockFails := 0 }

/-! ## Mesh radio (spec/08) -/

/-- A schedule image that RAD has loaded (R268, R269): hopping sequences, slotframe lengths, cell records. -/
structure Bank where
  sub : List Nat
  ghz : List Nat
  frames : List Nat
  cells : List DWord
  deriving DecidableEq, Repr

/-- A queued frame (R275): the descriptor's address and fields, the header and payload RAD has copied, when it was accepted,
attempts made, the frame counter and sequence number of its first attempt. -/
structure RadFrame where
  desc : Nat
  nbr : Nat
  key : Nat
  level : Nat
  flags : Nat
  retries : Nat
  expire : Nat
  hdr : List Byte
  payload : List Byte
  since : Nat
  tries : Nat
  fc : Option Nat
  seq : Option Nat
  deriving DecidableEq, Repr

/-- What a radio does in the slot in progress. -/
inductive RadioAct where
  | idle
  /-- it has sent a frame and awaits the acknowledgement: neighbour, descriptor, whether the cell is shared, the delimiter at which the
  acknowledgement is expected -/
  | awaits (nbr desc : Nat) (shared : Bool) (ack : Int)
  /-- it receives: neighbour, channel, centre and half width of the window in ns, expected delimiter by the time parent's slots as
  last observed and by the module's own slots (R286), whether the cell expects a beacon of the time parent, whether that beacon came,
  whether a frame has come -/
  | listens (nbr chan : Nat) (centre : Int) (half : Nat) (expect own : Int) (beacon heard got : Bool)
  deriving DecidableEq, Repr

/-- A frame that a radio has sent: PSDU, channel, delimiter instant. -/
structure AirFrame where
  psdu : List Byte
  chan : Nat
  sof : Int
  deriving DecidableEq, Repr

/-- What RAD still has to push for a received frame (R156, R280): the rill, the item of a delivered frame with its buffer, or the body of
a fault report's packet. -/
inductive Arrival where
  | frame (rill : Nat) (item : DWord) (buf : Nat)
  | report (rill : Nat) (body : List DWord)
  deriving DecidableEq, Repr

/-- RAD: what no register shows. -/
structure Rad where
  bank : Option Bank
  /-- a loaded bank that waits for its switch -/
  next : Option (Nat × Bank)
  /-- a bank that is being loaded -/
  loading : Option Nat
  /-- queued frames in the order of acceptance -/
  queue : List RadFrame
  /-- backoff exponent and cells to skip, by queue -/
  backoff : List (Nat × Nat × Nat)
  /-- completion items that wait for their rill -/
  done : List DWord
  /-- receive buffers in hand, oldest first -/
  bufs : List Nat
  /-- what waits for the rill controller, or for another master's packet to close, oldest first -/
  arrived : List Arrival
  /-- bit k: the next block of key entry k is armed -/
  armed : BitVec 8
  /-- bit k: event 7 has been posted for the present block -/
  warned : BitVec 8
  /-- bit k: key entry k is exhausted and event 9 has been posted -/
  stalled : BitVec 8
  /-- sleepy neighbours that have been told of pending data, with the last ASN of the hold -/
  holds : List (Nat × Nat)
  /-- the next sequence number -/
  seq : Nat
  /-- relay role: time base at which slot 0 would start by the time parent -/
  base : Int
  /-- `base` has been taken from a time parent since RAD last ran as coordinator or scanned (R266, R288) -/
  timed : Bool
  /-- the ASN of the last slot that was run -/
  asn : Option Nat
  acts : Vector RadioAct 3
  sent : Vector (Option AirFrame) 3
  /-- index of the channel that is scanned, since when, and the neighbour whose beacon ends the scan -/
  scanCh : Nat
  scanSince : Nat
  scanFor : Option Nat
  /-- the radio gate was closed when the slot in progress began (R378) -/
  mute : Bool
  /-- the radio whose recalibration is pending or runs -/
  cal : Nat
  calRuns : Bool
  deriving DecidableEq, Repr

def Rad.reset : Rad :=
  { bank := none, next := none, loading := none, queue := [], backoff := [], done := [], bufs := [], arrived := [], armed := 0, warned := 0,
    stalled := 0, holds := [], seq := 0, base := 0, timed := false, asn := none, acts := Vector.replicate 3 .idle,
    sent := Vector.replicate 3 none, scanCh := 0, scanSince := 0, scanFor := none, mute := false, cal := 0, calRuns := false }

/-! ## Cabinet bus (spec/10) -/

/-- A frame as it stands on the cabinet bus (ISO 11898-1). -/
structure CanFrame where
  id : BitVec 29
  xtd : Bool
  rtr : Bool
  dlc : BitVec 4
  fdf : Bool
  brs : Bool
  esi : Bool
  /-- the res bit is recessive -/
  res : Bool
  data : List Byte
  deriving DecidableEq, Repr

/-- CAN: what no register shows. The entry chosen for the next frame or being transmitted, whether its cancellation has been
requested, the frame being sent, and for each entry the time base at the start of its last attempt. -/
structure Can where
  cur : Option Nat
  cancel : Bool
  sent : Option CanFrame
  sof : List (Nat × Nat)
  /-- items that wait for their rill, oldest first: which rill field (0 receive, 1 completion, 2 event), item -/
  items : List (Nat × DWord)
  deriving DecidableEq, Repr

def Can.reset : Can := { cur := none, cancel := false, sent := none, sof := [], items := [] }

/-- CAN has neither chosen a frame nor one in transmission. -/
def Can.free (c : Can) : Can := { c with cur := none, cancel := false, sent := none }

/-! ## Feeder metering (spec/11) -/

/-- A demand interval in progress (R361, R363): its start, the integer parts of the registers then, and the flags of its record so
far: partial, a sample lost, battery mode began or ended in it, it ran on the free count of the time base. -/
structure Interval where
  start : Nat
  base : Vector Nat 38
  early : Bool
  lost : Bool
  batt : Bool
  notime : Bool
  deriving DecidableEq, Repr

/-- MET: what no register shows. -/
structure Met where
  /-- the energy registers with their 32 fraction bits (R356) -/
  regs : Vector Nat 38
  /-- the snapshot bank (R358) -/
  bank : Vector Nat 38
  /-- a snapshot is due at the end of the next sample -/
  snap : Bool
  /-- samples since the island last started -/
  num : Nat
  /-- by channel, the last code less its offset, and what the high-pass made of it -/
  last : Vector (Int × Int) 8
  /-- calibrated samples, newest first, at most 256 -/
  hist : List (Vector Int 8)
  /-- samples since the last positive-going zero crossing of the reference voltage, and in the last whole cycle -/
  cross : Option Nat
  cycle : Option Nat
  /-- what the last sample added to the registers -/
  added : List (Nat × Nat)
  /-- samples since settling began -/
  settle : Nat
  /-- by channel, the samples in a row whose ones density was above 99.9 % (counted negative: below 0.1 %), and those for which it
  was normal (R353) -/
  extreme : Vector Int 8
  calm : Vector Nat 8
  /-- samples toward the next count of registers 36 and 37 -/
  battN : Nat
  cutN : Nat
  /-- samples for which the theft conditions have held without a break, and whether each has been told -/
  cutHeld : Nat
  cutTold : Bool
  residHeld : Nat
  residTold : Bool
  interval : Option Interval
  /-- number of the next demand record -/
  number : Nat
  /-- the next record is the first after a restore -/
  fresh : Bool
  /-- bodies of the records that wait for their rill, oldest first -/
  records : List (List DWord)
  /-- D1 has powered up and no image has been looked for yet (R371) -/
  restore : Bool
  /-- sequence number of the last image -/
  seq : Nat
  deriving DecidableEq, Repr

/-- MET as a power-up of D1 leaves it, with the restore due. -/
def Met.reset : Met :=
  { regs := Vector.replicate 38 0, bank := Vector.replicate 38 0, snap := false, num := 0, last := Vector.replicate 8 (0, 0), hist := [],
    cross := none, cycle := none, added := [], settle := 0, extreme := Vector.replicate 8 0,
    calm := Vector.replicate 8 0, battN := 0, cutN := 0, cutHeld := 0, cutTold := false, residHeld := 0,
    residTold := false, interval := none, number := 0, fresh := false, records := [], restore := true, seq := 0 }

/-! ## Oxbow pairing (spec/12) -/

/-- What OXB does once the marks it has changed are durable (R391 to R394): goes on with a reservation of entry `k` at base `b`, arms
an owner's block, answers `RESERVE`, goes on with a `CLEAR`, answers `CLEAR`. -/
inductive MarkAct where
  | reserve (k b : Nat)
  | arm (k b : Nat)
  | resAck (k mark : Nat)
  | clear (k : Nat)
  | clrAck (k : Nat)
  deriving DecidableEq, Repr

/-- OXB: what no register shows. Instants are counts of the crystal's pulses. -/
structure Oxb where
  /-- the last edge on `OWN_B` -/
  edge : Option Nat
  /-- since when the pin is watched: `RUN` was set, or this module gave up its own pulses -/
  watch : Nat
  /-- a `YIELD` frame has come since this module's last claim and the partner's last report of OWNER -/
  yielded : Bool
  /-- the loss of the partner's ownership has been told since the last edge -/
  lossTold : Bool
  /-- when the partner last reported OWNER, and last reported at all -/
  ownerRep : Option Nat
  report : Option Nat
  /-- the last valid frame, or the setting of `RUN` -/
  frame : Nat
  /-- frames arrive: a valid frame has come since `RUN` was set or the link was lost -/
  linkUp : Bool
  /-- the link has been lost since the last valid frame -/
  linkLost : Bool
  /-- when `PEERLOST` set -/
  peerLost : Nat
  /-- this module has sent its `SYNC` and awaits its partner's -/
  syncSent : Bool
  /-- when the present state was entered -/
  since : Nat
  /-- a claim that clashed retries then -/
  retry : Option Nat
  /-- the positions clash: no claim until `RUN` is set again -/
  clash : Bool
  /-- the last kick of the watchdog -/
  kick : Nat
  /-- the last `HEALTH` sent, and the sequence numbers of the next report and the next frame -/
  health : Option Nat
  reportSeq : Nat
  frameSeq : Nat
  /-- the bytes of the last link frame sent -/
  sent : List Byte
  /-- bit b: condition b has been counted as held in its present occurrence -/
  held : BitVec 8
  /-- since when each condition is present without a break -/
  cond : Vector (Option Nat) 8
  /-- the owner has written `OXB_READY.FW` 0 -/
  fwDropped : Bool
  /-- since when the revert hold runs -/
  revert : Option Nat
  /-- a reservation that awaits `RES_ACK`: entry, base, when it was first and last sent -/
  reserving : Option (Nat × Nat × Nat × Nat)
  /-- a `CLEAR` that awaits `CLR_ACK`: entry, when it was first and last sent -/
  clearing : Option (Nat × Nat × Nat)
  /-- what waits until the marks are durable, oldest first (R391) -/
  acts : List MarkAct
  /-- when the last self-test was requested by its period, or `RUN` was set (R390) -/
  tested : Nat
  /-- since when `OWN_A` toggles (R376) -/
  toggles : Nat
  /-- marks that `SETMIN` has set since `HWMLOST` set -/
  setMarks : BitVec 8
  /-- when the module became owner, on the time base as it stands, while gates 2 and 3 still wait for an instant (R388) -/
  showHold : Option Int
  /-- `APP` items that wait for their rill, oldest first -/
  items : List DWord
  deriving DecidableEq, Repr

def Oxb.reset : Oxb :=
  { edge := none, watch := 0, yielded := false, lossTold := false, ownerRep := none, report := none, frame := 0, linkUp := false,
    linkLost := false, peerLost := 0, syncSent := false, since := 0, retry := none, clash := false, kick := 0, health := none,
    reportSeq := 0, frameSeq := 0, sent := [], held := 0, cond := Vector.replicate 8 none, fwDropped := false, revert := none,
    reserving := none, clearing := none, acts := [], tested := 0, toggles := 0, setMarks := 0, showHold := none, items := [] }

/-! ## Firmware update (spec/13), general-purpose pads (spec/18) -/

/-- The boot state that UPD keeps durably (R405): confirmed slot, trial slot, tries, failed flags, security floor, trial window in
minutes, and whether the trial was installed by recovery (R417). Slots are 0 for A and 1 for B. -/
structure BootState where
  confirmed : Option Nat
  trial : Option Nat
  tries : Nat
  failed : BitVec 2
  floor : Nat
  window : Nat
  recovered : Bool
  deriving DecidableEq, Repr

/-- No slot confirmed, none on trial. -/
def BootState.reset : BootState :=
  { confirmed := none, trial := none, tries := 0, failed := 0, floor := 0, window := 10, recovered := false }

/-- ROM recovery in progress (R416, R417): the path that is served (true: Ethernet), the slot it writes with the image length, the
next host sequence number, when HELLO was sent last. -/
structure Recovery where
  path : Option Bool
  slot : Option (Nat × Nat)
  seq : Option Nat
  hello : Option Nat
  deriving DecidableEq, Repr

/-- A UDP datagram of the ROM on Ethernet port A: the interface the port runs, its MAC and IPv4 address, its netmask, the source port,
the frame (R400, R416). -/
structure RomDatagram where
  iface : Nat
  mac : List Byte
  ip : List Byte
  mask : List Byte
  port : Nat
  frame : List Byte
  deriving DecidableEq, Repr

/-- UPD: what no register shows. -/
structure Upd where
  /-- a module reset has been made and the ROM has not yet chosen a slot -/
  boot : Bool
  state : BootState
  /-- the next reset enters recovery -/
  recover : Bool
  /-- bit n: the last VERIFY of slot n gave OK and no write has reached it since -/
  verified : BitVec 2
  /-- the slot that a verification checks, and whether a write has overtaken it -/
  checking : Option Nat
  overtaken : Bool
  /-- the slot that runs -/
  running : Option Nat
  /-- when the trial image started, in pulses -/
  trialAt : Nat
  /-- the code memory of each radio's baseband, which may hold no code (R411) -/
  code : Vector (Option (List Byte)) 3
  recovery : Option Recovery
  /-- what the ROM sent last in recovery, on Ethernet port A and on the USB serial path -/
  udp : Option RomDatagram
  usb : List Byte
  deriving DecidableEq, Repr

def Upd.reset : Upd :=
  { boot := true, state := BootState.reset, recover := false, verified := 0, checking := none, overtaken := false, running := none,
    trialAt := 0, code := Vector.replicate 3 none, recovery := none, udp := none, usb := [] }

/-! ## The whole module -/

/-- The time base and the clocks. -/
structure Clock where
  /-- the time base in ns, 64 bits (R15, R317) -/
  tb : Nat
  /-- the RTC: seconds × 32,768 + fraction (R477), 63 bits -/
  rtc : Nat
  /-- pulses of the crystal since the Bonnet rail rose -/
  pulses : Nat
  /-- the part of a pulse that has passed: 10⁹ make one -/
  frac : Nat
  deriving DecidableEq, Repr

/-- Power and supervision (spec/17). -/
structure Power where
  /-- bit d: domain d is usable -/
  dom : BitVec 16
  vinGood : Bool
  /-- the Bonnet rail has fallen below retention (R476) -/
  railLost : Bool
  /-- D3 to D15 are off and D2 watches for a wake (R508) -/
  standby : Bool
  /-- the trigger pads that D2 watches in standby -/
  wakeMask : BitVec 4
  /-- a wake source has acted in standby -/
  wake : Bool
  /-- pulse count at the last kick of the watchdog -/
  kick : Nat
  /-- the watchdog has run out and a reset of kind 6 is due, with the pulse count of the expiry -/
  expired : Option Nat
  /-- the service block runs (R520) -/
  svc : Bool
  /-- `USB_VBUS` is above 4.0 V -/
  vbus : Bool
  /-- levels of the trigger pads after their last edges -/
  trig : BitVec 4
  /-- the last stamp of each trigger binding (R524) -/
  stamps : Vector Nat 4
  /-- bit n: Weir has accepted what binding n submitted; its answer is due (R524) -/
  accepted : BitVec 4
  /-- the supplies of banks A and B in mV -/
  vio : Vector Nat 2
  /-- the flags of the banks as `SYS_STAT` shows them: A in range, A at 3.3 V, B in range, B at 3.3 V (R498, R503) -/
  bank : BitVec 4
  /-- VIN is below the warning level (R503) -/
  vinWarn : Bool
  /-- the least voltage of VHOLD in mV that R497 leaves -/
  vhold : Nat
  /-- while VIN charges VHOLD: the pulse count at which it stands at 5.0 V (R497) -/
  charge : Option Nat
  deriving DecidableEq, Repr

/-- The commands that load the RTC (R478): from the set registers, from the time base. -/
inductive RtcCommand
  | set | sync
  deriving DecidableEq, Repr

/-- The Bonnet domain (spec/16): what no register shows. -/
structure Bon where
  /-- the command of `BON_CMD` that takes effect on the next pulse edge (R478) -/
  due : Option RtcCommand
  /-- trim corrections due, in 2⁻³⁵ pulses (R479) -/
  trim : Int
  /-- RTC value and pulse count at the freeze (R477) -/
  freeze : Option (Nat × Nat)
  /-- bit a: alarm a will fire late (R480) -/
  late : BitVec 4
  /-- consecutive active samples of each tamper input, up to 4 -/
  active : Vector Nat 2
  /-- a commit may start at this loss of VIN (R474) -/
  armed : Bool
  /-- the image that a commit writes -/
  image : List Byte
  /-- writes to the commit store that wait for the end of a commit (R485): offset and word -/
  waits : List (Nat × Word)
  deriving DecidableEq, Repr

def Bon.reset : Bon :=
  { due := none, trim := 0, freeze := none, late := 0, active := Vector.replicate 2 0, armed := true, image := [], waits := [] }

/-- The state of the blocks that no register shows. -/
structure Blocks where
  cores : Vector Core 24
  weir : Weir
  rcd : Recorder
  clk : Clock
  pwr : Power
  bon : Bon
  memu : MemUnit
  lamp : Lamp
  corr : Corr
  shows : Show
  net : Net
  gnt : Gnt
  rad : Rad
  can : Can
  met : Met
  oxb : Oxb
  upd : Upd
  /-- bit b: a stop of block b has been requested and it still runs (R10) -/
  stopping : BitVec 25
  /-- events of each block that wait for their rill, oldest first (R372, R470 and the like) -/
  evq : Vector (List DWord) 25
  /-- the places (`Block.place`) whose oldest waiting item has been refused for lack of room, which `RILL_FULLCNTn` has counted (R156) -/
  told : List Nat
  /-- counts the free values drawn (the model's own field, no state of the module) -/
  free : Nat
  deriving DecidableEq, Repr

/-- The state of the module, and the commands that are waiting, first in first out. -/
structure State where
  store : Store
  blk : Blocks
  pending : List Instr
  deriving DecidableEq, Repr

/-- Reasons for which a command of the module stops it with a fault. No meaning of this model raises one: every row of the
opcode table has an effect (safe). -/
inductive Fault where
  | unused
  deriving DecidableEq, Repr

/-- Reasons for which the model has no answer. -/
inductive Refusal where
  /-- raised by `exec`'s arm of a row that has no meaning yet (safe: the model stops) -/
  | notModelled (mnemonic : String)
  deriving DecidableEq, Repr

/-- The stores right after a cold reset of a module that has never been programmed: NOR is erased, no fuse is burned, and every register
holds its reset value but those that say what the reset found: the kind of the reset (R506), the band of erased factory
data (R400; log entry 19), the high-water marks that no commit store holds (R396), and the RAW state with its open debug and the test root
(R432, R435). -/
def Store.reset : Store :=
  { regs := [(A.SYS_RST_CAUSE, 0x1), (A.RAD_PHY, 0x007F201B), (A.OXB_STAT, 0x48), (A.LCS_STAT, 0x18)],
    mem := [], errs := [], valid := [], fuses := [] }

/-- The vault of a module in RAW: the root slots hold the test root's keys for the erased serial number (R434, R435). -/
def Gnt.start : Gnt :=
  { Gnt.reset with
    slots := (((List.range 4).zip ((rootKeys ((List.range 32).map fun i => (Config.testRoot i).toNat) (List.replicate 8 0xFF) 0).zip
      rootAttrs)).map fun p => (p.1, ⟨p.2.2, octets p.2.1⟩)).reverse }

/-- The recorder with the record of the lost time and the start record of the reset, not yet written (R476, R506). -/
def Recorder.start : Recorder :=
  { Recorder.reset with queue := [⟨0x42, 0x80, 1, 0, 0, 0⟩, ⟨0x01, 0, 2, 0, 0, 1⟩] }

/-- The blocks right after a cold reset: every domain is powered and the supply is good. -/
def Blocks.reset : Blocks :=
  { cores := Vector.replicate 24 Core.reset, weir := Weir.reset, rcd := Recorder.start,
    clk := { tb := 0, rtc := 0, pulses := 0, frac := 0 },
    pwr := { dom := 0xFFFF, vinGood := true, railLost := false, standby := false, wakeMask := 0, wake := false, kick := 0, expired := none,
             svc := true, vbus := false, trig := 0, stamps := Vector.replicate 4 0, accepted := 0, vio := Vector.replicate 2 0, bank := 0,
             vinWarn := false, vhold := 0, charge := some 6553 },
    bon := Bon.reset, memu := MemUnit.reset, lamp := Lamp.reset, corr := Corr.reset, shows := Show.reset, net := Net.reset,
    gnt := Gnt.start, rad := Rad.reset, can := Can.reset, met := Met.reset, oxb := Oxb.reset, upd := Upd.reset, stopping := 0,
    evq := (Vector.replicate 25 []).set 19 [4], told := [], free := 0 }

/-- The module right after reset. -/
def State.reset : State := { store := Store.reset, blk := Blocks.reset, pending := [] }

end Sys2Proof.Machine
end

