-- ==== Sys2Proof/Machine/Op.lean ====
section
/-!
DEFINITION. What a command may do to the state. An `Op` is a state change that carries the proof that it keeps the stores
in canonical form, leaves the queue of waiting commands alone and never unburns a fuse; every meaning is built from the few
operations below, so these facts hold of every command at once.
-/
namespace Sys2Proof.Machine

/-- What every operation keeps: the canonical form of the stores (once it holds), the command queue, burned fuses. -/
structure Keeps (s t : State) : Prop where
  wf : s.store.Wf → t.store.Wf
  pending : t.pending = s.pending
  fuses : ∀ f ∈ s.store.fuses, f ∈ t.store.fuses

theorem Keeps.refl (s : State) : Keeps s s := ⟨id, rfl, fun _ h => h⟩

theorem Keeps.trans {s t u : State} (h : Keeps s t) (k : Keeps t u) : Keeps s u :=
  ⟨fun w => k.wf (h.wf w), k.pending.trans h.pending, fun f hf => k.fuses f (h.fuses f hf)⟩

/-- A state change that keeps what `Keeps` says. -/
structure Op where
  run : State → State
  keeps : ∀ s, Keeps s (run s)

/-- No effect. -/
def Op.skip : Op := ⟨id, Keeps.refl⟩

/-- One operation after another. -/
def Op.andThen (a b : Op) : Op := ⟨fun s => b.run (a.run s), fun s => (a.keeps s).trans (b.keeps _)⟩

/-- Operations in order. -/
def Op.all : List Op → Op
  | [] => Op.skip
  | a :: l => a.andThen (Op.all l)

/-- An operation that depends on the state it finds. -/
def Op.get (f : State → Op) : Op := ⟨fun s => (f s).run s, fun s => (f s).keeps s⟩

/-- An operation under a condition. -/
def Op.when (c : Bool) (a : Op) : Op := if c then a else Op.skip

/-- One operation for each element of a list, in order. -/
def Op.each {α : Type} (l : List α) (f : α → Op) : Op := Op.all (l.map f)

/-- Changes the state of the blocks outside the stores. -/
def Op.blk (f : Blocks → Blocks) : Op := ⟨fun s => { s with blk := f s.blk }, fun _ => ⟨id, rfl, fun _ h => h⟩⟩

/-- Writes a register word, without its reserved bits. -/
def Op.putReg (a : Nat) (v : Word) : Op :=
  ⟨fun s => { s with store := s.store.putReg a v }, fun s => ⟨s.store.putReg_wf a v, rfl, fun _ h => h⟩⟩

/-- Writes bytes at rising keys. -/
def Op.putBytes (k : Nat) (bs : List Byte) : Op :=
  ⟨fun s => { s with store := s.store.putBytes k bs },
   fun s => ⟨Store.putBytes_wf k bs s.store, rfl, fun _ h => by simpa [Store.putBytes_fuses] using h⟩⟩

/-- Records the bit errors of a code word. -/
def Op.putErr (k : Nat) (e : BitVec 72) : Op :=
  ⟨fun s => { s with store := s.store.putErr k e }, fun s => ⟨s.store.putErr_wf k e, rfl, fun _ h => h⟩⟩

/-- Records a valid bit. -/
def Op.putValid (k : Nat) (v : Bool) : Op :=
  ⟨fun s => { s with store := s.store.putValid k v }, fun s => ⟨s.store.putValid_wf k v, rfl, fun _ h => h⟩⟩

/-- Returns registers to their reset values. -/
def Op.dropRegs (lo hi : Nat) : Op :=
  ⟨fun s => { s with store := s.store.dropRegs lo hi }, fun s => ⟨s.store.dropRegs_wf lo hi, rfl, fun _ h => h⟩⟩

/-- Clears memory, with its errors and valid bits. -/
def Op.dropMem (lo hi : Nat) : Op :=
  ⟨fun s => { s with store := s.store.dropMem lo hi }, fun s => ⟨s.store.dropMem_wf lo hi, rfl, fun _ h => h⟩⟩

/-- Burns a fuse bit. -/
def Op.burn (n : Nat) : Op :=
  ⟨fun s => { s with store := s.store.burn n },
   fun s => ⟨id, rfl, fun f h => by
     show f ∈ (if n ∈ s.store.fuses then s.store.fuses else n :: s.store.fuses)
     split
     · exact h
     · exact List.mem_cons_of_mem _ h⟩⟩

/-- The answer of a command whose effect is the operation. -/
def Op.go (o : Op) (s : State) : Host.Outcome State Fault Refusal := .next (o.run s)

/-! ### Registers and fields -/

/-- The value of a register field. -/
def State.fld (s : State) (f : Fld) : Nat := s.store.fld f

/-- Whether a one-bit field holds 1. -/
def State.bit (s : State) (f : Fld) : Bool := s.store.fld f == 1

/-- The word of the register at an address. -/
def State.reg (s : State) (a : Nat) : Word := s.store.reg a

/-- Sets a register field; the register's other fields stay. -/
def Op.set (f : Fld) (v : Nat) : Op := Op.get fun s => Op.putReg f.addr (withField (s.reg f.addr) f.lo f.w v)

/-- Counts in a 32-bit counter register, saturating at 0xFFFF_FFFF. -/
def Op.count (a n : Nat) : Op := Op.get fun s => Op.putReg a (BitVec.ofNat 32 (satAdd 32 (s.reg a).toNat n))

/-- Counts one in a counter register. -/
def Op.inc (a : Nat) : Op := Op.count a 1

/-- Sets a 32-bit register whole. -/
def Op.setReg (a : Nat) (v : Nat) : Op := Op.putReg a (BitVec.ofNat 32 v)

end Sys2Proof.Machine
end

