-- ==== Sys2Proof/Machine/Ops.lean ====
section
/-!
DEFINITION. Operations that every block shares: power domains, the cores' registers, the event recorder's input, the
storing of memory words with the flip mask, free values.
-/
namespace Sys2Proof.Machine

/-! ### Power domains and run bits -/

/-- Whether a power domain is usable (R500, R502). -/
def State.domOn (s : State) (d : Nat) : Bool := s.blk.pwr.dom.getLsbD d

/-- Whether the block's domain is usable. -/
def State.powered (s : State) (b : Block) : Bool := s.domOn b.domain

/-- The `RUN` bit of a block: bit 0 of its first register (R10). -/
def Block.run (b : Block) : Fld := ⟨b.base, 0, 1⟩

/-- Whether a block is powered and its `RUN` bit reads 1. -/
def State.running (s : State) (b : Block) : Bool := s.powered b && s.bit b.run

/-- Whether a stop of the block has been requested and it still runs (R10). -/
def State.ending (s : State) (b : Block) : Bool := s.blk.stopping.getLsbD b.num

/-- Whether a block runs and takes new work. -/
def State.working (s : State) (b : Block) : Bool := s.running b && !(s.ending b)

/-- Whether an output that only the owner drives is held (R378, R388): 0 radio, 1 cabinet bus, 2 pixel ports, 3 show network. -/
def State.gated (s : State) (b : Nat) : Bool :=
  natBits (s.fld F.OXB_CFG_GATE) b 1 == 1 && (s.fld F.OXB_STAT_STATE != 4 || (2 ≤ b && s.blk.oxb.showHold.isSome))

/-- Pad bank A is usable (R518): its outputs are driven, and levels and edges at its inputs reach their blocks (R519). -/
def State.bankA (s : State) : Bool := s.blk.pwr.vinGood && s.blk.pwr.bank.getLsbD 0

/-- Pad bank B is usable. -/
def State.bankB (s : State) : Bool := s.blk.pwr.vinGood && s.blk.pwr.bank.getLsbD 2

/-- An operation on a block that has power; nothing happens in a block that has none. -/
def Op.on (b : Block) (o : Op) : Op := Op.get fun s => Op.when (s.powered b) o

/-- The time base in ns (R15). -/
def State.now (s : State) : Nat := s.blk.clk.tb

/-- The crystal's pulses since the Bonnet rail rose. -/
def State.pulses (s : State) : Nat := s.blk.clk.pulses

/-- The least voltage of VHOLD in mV at present (R497). -/
def State.vhold (s : State) : Nat := if s.blk.pwr.charge.any (· ≤ s.pulses) then 5000 else s.blk.pwr.vhold

/-- Draws a free value: the count passed on is used for no other draw. -/
def Op.draw (f : Nat → Op) : Op :=
  Op.get fun s => (Op.blk fun b => { b with free := b.free + 1 }).andThen (f s.blk.free)

/-- Whether the time base has been set (R319). -/
def State.timeSet (s : State) : Bool := s.powered .tsu && s.bit F.TSU_STAT_SET

/-! ### Core registers -/

/-- One core. -/
def State.core (s : State) (c : CoreId) : Core := s.blk.cores[c]

/-- Changes one core. -/
def Op.core (c : CoreId) (f : Core → Core) : Op :=
  Op.blk fun b => { b with cores := b.cores.set c (f b.cores[c]) }

/-- A word register; w0 reads as zero (R46). -/
def Core.rd (k : Core) (r : RegNo) : Word := if r = 0 then 0 else k.w[r]

/-- Writes a word register; a write to w0 is discarded (R46). -/
def Core.wr (k : Core) (r : RegNo) (v : Word) : Core := if r = 0 then k else { k with w := k.w.set r v }

/-- A pair, named by its even register: the high word in w(2k), the low word in w(2k+1). -/
def Core.rdp (k : Core) (r : RegNo) : DWord := joinWords (k.rd r) (k.rd (r + 1))

/-- Writes a pair. -/
def Core.wrp (k : Core) (r : RegNo) (v : DWord) : Core := (k.wr r (hiWord v)).wr (r + 1) (loWord v)

/-- Writes several word registers in order. -/
def Core.wrs (k : Core) (l : List (RegNo × Word)) : Core := l.foldl (fun k p => k.wr p.1 p.2) k

/-- Whether a register field names a pair: even, and not 0 (R47). -/
def isPair (r : RegNo) : Bool := r.val % 2 == 0 && r.val != 0

/-- The rill valid tag T of `st` (R49). -/
def Core.setT (k : Core) (t : Bool) : Core := { k with st := withField k.st 4 1 (bit01 t) }

/-- Whether the core runs in system mode (R52). -/
def Core.sys (k : Core) : Bool := k.mode.getLsbD 0

/-- `cx.mode.EXL` (R52). -/
def Core.exl (k : Core) : Bool := k.mode.getLsbD 1

/-- Whether retired instructions count against the budget: BUDEN is 1 and EXL is 0 (R54). -/
def Core.budgeted (k : Core) : Bool := k.mode.getLsbD 3 && !k.exl

/-- Retires an instruction: the next pc, the instruction count, and the budget where `counts` says the instruction was
issued with the budget enabled (R54: never below 0). A model choice (log entry 25): an instruction that changes BUDEN or EXL itself counts by
what they were as it issued. -/
def Core.retire (k : Core) (counts : Bool) (npc : Word) : Core :=
  { k with
    pc := npc
    icount := (k.icount + 1) % 2 ^ 64
    budget := if counts && k.budget != 0 then k.budget - 1 else k.budget
    run := .running }

/-- The cluster of a core (spec/02). -/
def clusterOf (c : CoreId) : Nat := c.val / 6

/-- The power domain of a core's cluster (R500). -/
def coreDomain (c : CoreId) : Nat := 5 + clusterOf c

/-- The dispatch group mapped to a core (R135). -/
def State.groupOf (s : State) (c : CoreId) : Nat :=
  if c.val < 16 then natBits (s.reg A.WEIR_CORE_GRP_LO).toNat (2 * c.val) 2
  else natBits (s.reg A.WEIR_CORE_GRP_HI).toNat (2 * (c.val - 16)) 2

/-- Whether a core receives work (R137). -/
def State.coreEn (s : State) (c : CoreId) : Bool := (s.reg A.WEIR_CORE_EN).getLsbD c.val

/-! ### Event recorder input (R487, R489) -/

/-- The RTC converted to ns. -/
def rtcNs (pulses : Nat) : Nat := pulses * 1000000000 / 32768

/-- The TIME field and its flags: the time base while it is set, else the RTC while its time is not lost, else the free
count of the time base (R487). -/
def State.stampTime (s : State) : Nat × Nat :=
  if s.powered .tsu && s.bit F.TSU_STAT_SET then (s.now, 0)
  else if !(s.bit F.BON_STAT_TIME_LOST) then (rtcNs s.blk.clk.rtc, 1)
  else (s.now, 2)

def Op.rcd (f : Recorder → Recorder) : Op := Op.blk fun b => { b with rcd := f b.rcd }

/-- Latches a record in D0, with its time from the RTC (R488). -/
def Op.latch (kind subject detail : Nat) : Op := Op.get fun s =>
  Op.rcd fun q => { q with
    latched := q.latched ++ [⟨kind, 0x80, 1, rtcNs s.blk.clk.rtc, BitVec.ofNat 64 subject, BitVec.ofNat 64 detail⟩] }

/-- Raises a record: it goes into the recorder's input queue of 16, or is dropped and counted while the queue is full or
`REC_CTRL.RUN` reads 0. While D4 is off, kinds 0x0040 to 0x0042 are latched in D0 (R488). RECORD_LOG writes the queue. -/
def Op.log (kind source subject detail : Nat) : Op := Op.get fun s =>
  let (t, fl) := s.stampTime
  let r : Record := ⟨kind, source, fl, t, BitVec.ofNat 64 subject, BitVec.ofNat 64 detail⟩
  if !(s.powered .recd) then
    if 0x40 ≤ kind ∧ kind ≤ 0x42 then Op.latch kind subject detail else Op.skip
  else if s.blk.rcd.closed then Op.skip
  else if s.running .recd && s.blk.rcd.queue.length < 16 then Op.rcd fun q => { q with queue := q.queue ++ [r] }
  else (Op.rcd fun q => { q with dropped := q.dropped + 1 }).andThen (Op.inc A.REC_DROPPED)

/-- A configuration check or a command refused: kind 0x0008 (R488, R536). -/
def Op.logRefused (b : Block) (cause index : Nat) : Op :=
  Op.log 0x0008 b.num b.base (cause % 256 + index % 2 ^ 16 * 2 ^ 16)

/-- A refused stop-only write (R11): `ERR.STOPONLY` of the block sets, and the recorder takes the register and the value. -/
def Op.refuseStopOnly (b : Block) (a : Nat) (v : Word) : Op :=
  (Op.set ⟨b.base + 8, 0, 1⟩ 1).andThen (Op.log 0x0002 b.num a v.toNat)

/-- The SOURCE and master number of a core (R487). -/
def coreSource (c : CoreId) : Nat := 0x40 + c.val

/-! ### Memory words -/

/-- The regions of the core address map (R30). -/
inductive Region where
  | localI | localD | rom | nor | basin | rill | regs | dram | none
  deriving DecidableEq, Repr

/-- The region of an address (R30). -/
def regionOf (a : Nat) : Region :=
  if a < 0x4000 then .localI
  else if 0x8000 ≤ a ∧ a < 0xC000 then .localD
  else if 0x08000000 ≤ a ∧ a < 0x08010000 then .rom
  else if 0x0C000000 ≤ a ∧ a < 0x10000000 then .nor
  else if 0x10000000 ≤ a ∧ a < 0x10400000 then .basin
  else if 0x20000000 ≤ a ∧ a < 0x20100000 then .rill
  else if 0x40000000 ≤ a ∧ a < 0x40190000 then .regs
  else if 0x80000000 ≤ a ∧ a < 0xF0000000 then .dram
  else .none

/-- The number of a protected memory: 0 Basin, 1 rill SRAM, 2 DRAM (R470). -/
def memNumber (a : Nat) : Nat :=
  match regionOf a with
  | .rill => 1
  | .dram => 2
  | _ => 0

/-- Whether the flip mask applies to a write of the doubleword at `a` (R461). -/
def State.flips (s : State) (a : Nat) : Bool :=
  s.bit F.MEM_FLIP_CFG_ARM && s.fld F.MEM_FLIP_CFG_TARGET == memNumber a
    && (!(s.bit F.MEM_FLIP_CFG_ADDRMATCH) || (s.reg A.MEM_FLIP_ADDR).toNat / 8 == a / 8)

/-- The flip mask: data bits, then check bits. -/
def State.flipMask (s : State) : BitVec 72 :=
  BitVec.ofNat 72 (s.fld F.MEM_FLIP_CFG_CHECK * 2 ^ 64 + (s.reg A.MEM_FLIP_HI).toNat * 2 ^ 32 + (s.reg A.MEM_FLIP_LO).toNat)

def Op.memu (f : MemUnit → MemUnit) : Op := Op.blk fun b => { b with memu := f b.memu }

end Sys2Proof.Machine
end

