-- ==== Sys2Proof/Machine/Room.lean ====
section
/-!
DEFINITION. The rills as their users find them: positions and room (spec/04), and the queues in which blocks keep events for their rills.
-/
namespace Sys2Proof.Machine

def Op.weir (f : Weir → Weir) : Op := Op.blk fun b => { b with weir := f b.weir }

/-! ### Rill positions (R146 to R148) -/

def rillNo (n : Nat) : RillNo := Fin.ofNat 64 n

def State.rill (s : State) (n : RillNo) : Rill := s.blk.weir.rills[n]

def Op.rill (n : RillNo) (f : Rill → Rill) : Op :=
  Op.weir fun w => { w with rills := w.rills.set n (f w.rills[n]) }

/-- The size of a rill in slots (R146). -/
def State.rillSize (s : State) (n : RillNo) : Nat := 2 ^ (s.fld (F.RILL_CFG_SIZE n) + 4)

/-- The address of a position's slot (R146). -/
def State.slotAddr (s : State) (n : RillNo) (pos : Nat) : Nat :=
  0x20000000 + 8 * (s.fld (F.RILL_CFG_BASE n) + pos % s.rillSize n)

/-- Slots reserved, unread, or read and not released (R147). -/
def Rill.occ (r : Rill) : Nat := r.nread + r.unread + r.npkt

/-- Rd, V and W before the reduction modulo the size (R147). -/
def Rill.rd (r : Rill) : Nat := r.rl + r.nread
def Rill.vis (r : Rill) : Nat := r.rd + r.unread
def Rill.wr (r : Rill) : Nat := r.vis + r.npkt

def State.rillFree (s : State) (n : RillNo) : Nat := s.rillSize n - (s.rill n).occ

/-- Whether a rill's enable bit reads 1 (R149). -/
def State.rillEn (s : State) (n : RillNo) : Bool :=
  if n.val < 32 then (s.reg A.RILL_EN_LO).getLsbD n.val else (s.reg A.RILL_EN_HI).getLsbD (n.val - 32)

/-- Whether a rill can be used: enabled, with the controller running (R105) and no stop requested, after which only the instruction in
progress goes on (R151). -/
def State.rillOn (s : State) (n : RillNo) : Bool := s.working .rill && s.rillEn n

/-- A feed rill is one of the rills 4 to 63 (R155). -/
def State.isFeed (s : State) (n : RillNo) : Bool := 4 ≤ n.val && s.bit (F.RILL_CFG_FEED n)

/-- Rills 0 to 3 and feed rills are never in packet mode (R105, R155). -/
def State.isPacket (s : State) (n : RillNo) : Bool := 4 ≤ n.val && s.bit (F.RILL_CFG_PACKET n) && !(s.isFeed n)

/-- Whether a rill number may be named as the rill of a block's events or results: 4 to 63, and no feed rill. -/
def State.rillUsable (s : State) (n : Nat) : Bool := 4 ≤ n && n < 64 && !(s.isFeed (rillNo n))

/-- An item as a rill stores it: rills 4 to 63 set bit 63 (R106). -/
def storedItem (n : RillNo) (v : DWord) : DWord := if n.val < 4 then v else v ||| 0x8000000000000000

/-! ### Room for a push (R156) -/

/-- What a fixed-function block finds when it pushes. -/
inductive Room where
  /-- there is room -/
  | ok
  /-- the rill is not enabled, or is in the other mode (packet or plain) -/
  | off
  /-- the controller is stopped: the block waits (R156) -/
  | stopped
  /-- another master has a packet open: the block waits (R156) -/
  | busy
  /-- the rill lacks room: the block's own overflow rule applies (R156) -/
  | full
  deriving DecidableEq, Repr

/-- What a push of `need` slots finds; `packet` says that it is a packet. A model choice (log entry 26): a plain item for a rill in packet
mode, and a packet for a plain one, find the rill as one that is not enabled. -/
def State.room (s : State) (n : RillNo) (packet : Bool) (need : Nat) : Room :=
  if !(s.working .rill) then .stopped
  else if !(s.rillEn n) || s.isPacket n != packet then .off
  else if (s.rill n).pkt.isSome then .busy
  else if s.rillFree n < need then .full
  else .ok

/-- Whether an enabled rill of the mode has `need` free slots, whatever the block must wait for before it can push (R156). -/
def State.hasRoom (s : State) (n : RillNo) (packet : Bool) (need : Nat) : Bool :=
  s.rillEn n && s.isPacket n == packet && need ≤ s.rillFree n

/-! ### Event queues -/

/-- How a block posts events: the rill field, the field that enables events, if it has one, the counter of lost events, and how many
events it holds while its rill is full or not enabled; nothing where it loses such an event at once. A block that holds no
events waits all the same while the controller is stopped or another packet is open (R156). -/
structure EvtCfg where
  rill : Fld
  en : Option Fld
  lost : Nat
  hold : Option Nat
  deriving DecidableEq, Repr

/-- Whether a block posts events. -/
def State.evOn (s : State) (e : EvtCfg) : Bool :=
  match e.en with
  | some f => s.bit f
  | none => true

/-- The events that wait in a block's queue. -/
def State.evq (s : State) (b : Block) : List DWord := s.blk.evq.toList.getD b.num []

/-- Replaces a block's queue of events. -/
def Op.setEvq (b : Block) (l : List DWord) : Op := Op.blk fun k => { k with evq := k.evq.setIfInBounds b.num l }

/-- A place where items of a block wait for a rill: 0 its events, then its other lines. -/
def Block.place (b : Block) (i : Nat) : Nat := b.num * 64 + i

/-- Whether the refusal of the oldest item of a place has counted (R156). -/
def State.isTold (s : State) (p : Nat) : Bool := s.blk.told.contains p

def Op.setTold (p : Nat) (v : Bool) : Op := Op.blk fun k =>
  let rest := k.told.filter (· != p)
  { k with told := if v then p :: rest else rest }

/-- A block loses the events that wait. -/
def Op.dropEvq (b : Block) : Op := (Op.setEvq b []).andThen (Op.setTold (b.place 0) false)

/-- How many events the rill of a block can take at once. -/
def State.evRoom (s : State) (e : EvtCfg) : Nat :=
  let n := rillNo (s.fld e.rill)
  if s.room n false 1 = .ok then s.rillFree n else 0

/-- Puts an event into its block's queue, or loses it and counts the loss while the queue is full of events that the rill cannot take. -/
def Op.enqueueEvent (b : Block) (e : EvtCfg) (v : DWord) : Op := Op.get fun s =>
  match e.hold with
  | some m => if (s.evq b).length < m + s.evRoom e then Op.setEvq b (s.evq b ++ [v]) else Op.inc e.lost
  | none => Op.setEvq b (s.evq b ++ [v])

/-- How MEM posts events (R470). -/
def memEvt : EvtCfg := ⟨F.MEM_EVT_RILL, some F.MEM_EVT_EN, A.MEM_EVT_LOST, some 8⟩

/-- An event item of MEM: kind, memory or activity, detail (R470). -/
def memItem (kind memory detail : Nat) : DWord := BitVec.ofNat 64 (kind + memory * 2 ^ 8 + detail % 2 ^ 31 * 2 ^ 32)

end Sys2Proof.Machine
end

