-- ==== Sys2Proof/Machine/Grant.lean ====
section
/-!
DEFINITION. The maintenance grant and its holders (R410, R464 to R467), what an access to memory waits for (R459, R468), and the writes of
whole doublewords (R456, R457).
-/
namespace Sys2Proof.Machine

/-- A list of free values. -/
def Op.drawMany : Nat → (List DWord → Op) → Op
  | 0, k => k []
  | n + 1, k => Op.draw fun i => Op.drawMany n fun vs => k (Config.eccData i :: vs)

/-! ### STO's operations on NOR (R410, R464) -/

def Op.upd (f : Upd → Upd) : Op := Op.blk fun b => { b with upd := f b.upd }

def State.upd (s : State) : Upd := s.blk.upd

/-- The NOR offset and the window address of a slot, 0 A and 1 B (R399). -/
def imageOff (n : Nat) : Nat := if n = 0 then 0x1000000 else 0x2800000
def imageBase (n : Nat) : Nat := 0x0C000000 + imageOff n
def imageSize : Nat := 0x1800000

/-- Whether the span reaches slot `n`. -/
def touchesSlot (off len n : Nat) : Bool := off < imageOff n + imageSize && imageOff n < off + len

/-- Whether an operation reaches a protected part of NOR. -/
def State.norProtected (s : State) (off len : Nat) : Bool :=
  let slot (n : Nat) : Bool := touchesSlot off len n
    && (s.blk.upd.state.confirmed == some n || s.blk.upd.running == some n || s.bit F.UPD_STAT_TRIAL)
  slot 0 || slot 1 || (off < 0x100000 && s.fld F.LCS_STAT_STATE != 0 && s.fld F.LCS_STAT_STATE != 1)

/-- The verified state of a slot. -/
def Op.setVerified (n : Nat) (v : Bool) : Op := Op.upd fun u =>
  { u with verified := if v then u.verified ||| BitVec.twoPow 2 n else u.verified &&& ~~~ BitVec.twoPow 2 n }

/-- A write is accepted, or takes place: slots it touches are no longer verified, and a verification of one is overtaken (R409, R410). -/
def Op.norMark (o : NorOp) : Op :=
  Op.each [0, 1] fun n => Op.when (touchesSlot o.off o.len n)
    ((Op.setVerified n false).andThen (Op.upd fun u => { u with overtaken := u.overtaken || u.checking == some n }))

/-- A write that reaches a protected part is refused. -/
def Op.norRefuse (o : NorOp) : Op :=
  Op.all [ Op.set F.UPD_ERR_PROTWR 1, Op.inc A.UPD_PROT_REFUSED, Op.log 0x0012 Block.sto.num (0x0C000000 + o.off) 0 ]

/-- STO's next operation asks for the grant at the moment of a release (R465); one whose slot has become protected since is refused. -/
def Op.norNext : List NorOp → Op
  | [] => Op.memu fun m => { m with norq := [] }
  | o :: rest => Op.get fun s =>
    if s.norProtected o.off o.len then (Op.norRefuse o).andThen (Op.norNext rest)
    else (Op.memu fun m => { m with nor := some o, norq := rest }).andThen (Op.set ⟨A.MEM_MAINT_STAT, 8, 1⟩ 1)

/-! ### The grant (R464 to R469) -/

/-- Whether the self-test region lies in Basin or DRAM at whole 4 KiB units (R469); a region of no unit is none. -/
def State.testRegionOk (s : State) : Bool :=
  let a := (s.reg A.MEM_ST_BASE).toNat
  let n := s.fld F.MEM_ST_CTL_LEN * 4096
  let r := regionOf a
  a % 4096 == 0 && n != 0 && (r == .basin || r == .dram) && regionOf (a + n - 1) == r

/-- The bytes that NOR holds after programming `new` over `old`. The spec gives no result where a byte is not erased: such a
byte takes a free value (log entry 10). -/
def programmed (old new : List Byte) (free : List DWord) : List Byte :=
  (old.zip (new.zip free)).map fun p => if p.1 = 0xFF then p.2.1 else BitVec.ofNat 8 p.2.2.toNat

/-- STO's operation takes place. -/
def Op.norRun : Op := Op.get fun s =>
  match s.blk.memu.nor with
  | none => Op.skip
  | some o => (Op.norMark o).andThen
    (match o.data with
    | none => Op.dropMem (0x0C000000 + o.off) (0x0C000000 + o.off + o.len)
    | some bs => Op.drawMany o.len fun f =>
      Op.putBytes (0x0C000000 + o.off) (programmed (s.store.bytes (0x0C000000 + o.off) o.len) (bs.take o.len) f))

def Op.grantTo (act : Nat) : Op := Op.set F.MEM_MAINT_STAT_GRANT act

/-- An activity of MEM or STO starts with the grant it holds; a self-test whose region is wrong at the grant ends with result
3 (R467, R469). The continuation is told whether it started. -/
def Op.startActivity (act : Nat) (k : Bool → Op) : Op := Op.get fun s =>
  match act with
  | 1 => Op.all [ Op.grantTo 1, Op.norRun, k true ]
  | 2 => Op.all [ Op.grantTo 2, Op.set F.MEM_STAT_RETRAIN 1, Op.set F.MEM_MAINT_STAT_RESULT 0, k true ]
  | 3 =>
    if s.testRegionOk then
      Op.all
        [ Op.grantTo 3, Op.memu fun m => { m with test := ((s.reg A.MEM_ST_BASE).toNat, s.fld F.MEM_ST_CTL_LEN * 4096) },
          Op.set F.MEM_STAT_STBUSY 1, Op.set F.MEM_STAT_SCRUBPAUSE 1, Op.set F.MEM_MAINT_STAT_RESULT 0, k true ]
    else Op.all [ Op.grantTo 0, Op.set F.MEM_MAINT_STAT_RESULT 3, k false ]
  | _ => Op.all [ Op.grantTo act, k true ]

/-- Whether activity `a` is queued. -/
def State.maintQueued (s : State) (a : Nat) : Bool := s.bit ⟨A.MEM_MAINT_STAT, 7 + a, 1⟩

/-- Grants the lowest-numbered queued request; one that cannot start gives way to the next. `n` bounds the tries. -/
def Op.grantNext : Nat → Op
  | 0 => Op.skip
  | n + 1 => Op.get fun s =>
    match [1, 2, 3].find? s.maintQueued with
    | none => Op.skip
    | some a =>
      (Op.set ⟨A.MEM_MAINT_STAT, 7 + a, 1⟩ 0).andThen
        (Op.startActivity a fun ok => if ok then Op.skip else Op.grantNext n)

/-- The holder of activity `act` releases its grant (R466); STO asks for its next operation at that moment. The moment lasts until a row
of the grant or a tick has chosen among the requests queued and those arriving (R465, log entry 20). -/
def Op.releaseGrant (act : Nat) : Op := Op.get fun s =>
  Op.when (s.fld F.MEM_MAINT_STAT_GRANT == act)
    ((Op.grantTo 0).andThen
      (Op.when (act == 1) ((Op.memu fun m => { m with nor := none }).andThen (Op.norNext s.blk.memu.norq))))

/-- A grant that is free goes to the lowest-numbered queued request. -/
def Op.grantFree : Op := Op.get fun s => Op.when (s.fld F.MEM_MAINT_STAT_GRANT == 0) (Op.grantNext 3)

/-! ### What an access to memory waits for (R459, R468) -/

/-- The initialisations in progress end. -/
def Op.initEnd : Op := (Op.set F.MEM_STAT_INITBUSY 0).andThen (Op.memu fun m => { m with inits := [] })

/-- DRAM retraining ends: its event is posted, and DRC releases its grant (R466, R468). -/
def Op.retrainEnd (event : Op) : Op := Op.all [ Op.set F.MEM_STAT_RETRAIN 0, event, Op.releaseGrant 2 ]

/-- An event of MEM that arises inside an access: it goes through MEM's queue, from which it is pushed (R470). -/
def Op.memQueue (v : DWord) : Op := Op.get fun s => Op.when (s.bit F.MEM_EVT_EN) (Op.enqueueEvent .mem memEvt v)

/-- The access to the doubleword at `a` waits until the initialisation of a range that holds it, or DRAM retraining, has ended: when it
acts its wait is over, and so are they (log entry 24). -/
def Op.await (a : Nat) : Op := Op.get fun s =>
  (Op.when (s.blk.memu.inits.any fun r => r.1 ≤ a && a < r.1 + r.2) Op.initEnd).andThen
    (Op.when (regionOf a == .dram && s.bit F.MEM_STAT_RETRAIN) (Op.retrainEnd (Op.memQueue (memItem 4 2 0))))

/-! ### Writes of whole doublewords (R456, R457, R461) -/

/-- One whole, aligned write of a doubleword to Basin, rill SRAM or DRAM: a full code word, with the flip mask where it is
armed for it (R461); the valid bit sets, in DRAM that of the page, whose other doublewords read as zero already (R457). A
word the scrubber has reported may be reported again (R462). -/
def Op.storeDw (a : Nat) (v : DWord) : Op := (Op.await a).andThen (Op.get fun s =>
  Op.all
    [ Op.putBytes a (leBytes 8 v.toNat),
      Op.putErr a (if s.flips a then s.flipMask else 0),
      Op.when (s.flips a) (Op.set F.MEM_FLIP_CFG_ARM 0),
      Op.putValid (if regionOf a = .dram then a / 4096 * 4096 else a) true,
      Op.memu fun m => { m with scrubbed := m.scrubbed.filter (· != a) } ])

/-- Doublewords at rising addresses. -/
def Op.storeDws (a : Nat) : List DWord → Op
  | [] => Op.skip
  | v :: vs => (Op.storeDw a v).andThen (Op.storeDws (a + 8) vs)

/-- Bytes cut into doublewords, the last filled up with zeros (R456); `n` bounds the number of doublewords. -/
def dwordsOf : Nat → List Byte → List DWord
  | 0, _ => []
  | _, [] => []
  | n + 1, bs => BitVec.ofNat 64 (leNat (bs.take 8)) :: dwordsOf n (bs.drop 8)

/-- A fixed-function master's write of bytes at a doubleword boundary, in whole doublewords (R456). -/
def Op.hwWrite (a : Nat) (bs : List Byte) : Op := Op.storeDws a (dwordsOf (bs.length / 8 + 1) bs)

end Sys2Proof.Machine
end

