-- ==== Sys2Proof/Machine/Mem.lean ====
section
/-!
DEFINITION. Reads of the protected memories: valid bits, correction, the report of errors (R451 to R453, R457).
-/
namespace Sys2Proof.Machine

/-! ### Reading a code word (R451 to R453, R457) -/

/-- The key of the valid bit of the doubleword at `a`: its page in DRAM, itself elsewhere. -/
def validKey (a : Nat) : Nat := if regionOf a = .dram then a / 4096 * 4096 else a

/-- The valid bit that governs the doubleword at `a`. -/
def State.isValid (s : State) (a : Nat) : Bool := tget notValid s.store.valid (validKey a)

/-- The bit errors of the code word at `k`. -/
def State.errAt (s : State) (k : Nat) : BitVec 72 := tget noErr s.store.errs k

/-- How many bits of a code word are in error. -/
def weight {n : Nat} (e : BitVec n) : Nat := (List.range n).countP (fun i => e.getLsbD i)

/-- The domain that feeds a protected memory (R500): D14 for DRAM, D9 for Basin and rill SRAM. -/
def memDomain (a : Nat) : Nat := if regionOf a = .dram then 14 else 9

/-- The offset of a code word from the start of its memory (R470). -/
def memOffset (a : Nat) : Nat :=
  match regionOf a with
  | .dram => a - 0x80000000
  | .rill => a - 0x20000000
  | _ => a - 0x10000000

/-- A correctable error was found (R452): it counts, `MEM_LAST_CE` takes the address, and a write-back is queued. `v` is
the corrected data. -/
def Op.reportCe (a : Nat) (v : DWord) (e : BitVec 72) : Op := Op.get fun s =>
  Op.all
    [ Op.inc (A.MEM_CE_BASIN + 4 * memNumber a),
      Op.setReg A.MEM_LAST_CE a,
      Op.memu fun m => { m with writebacks := m.writebacks ++ [(a, s.store.w64 a, e, v)] } ]

/-- An uncorrectable error was found (R453): error bit, counter, address, record, event 1. -/
def Op.reportUe (a master : Nat) : Op :=
  Op.all
    [ Op.set ⟨A.MEM_ERR, 2 + memNumber a, 1⟩ 1,
      Op.inc (A.MEM_UE_BASIN + 4 * memNumber a),
      Op.setReg A.MEM_LAST_UE a,
      Op.log 0x0010 18 a (memNumber a + master * 2 ^ 8),
      Op.memQueue (memItem 1 (memNumber a) (memOffset a)) ]

/-- One read of the doubleword at `a` by a master; the continuation gets the data, or nothing where the error cannot be
corrected. Three or more bits in error have one of the outcomes of R451, which the spec leaves open (log entry 2). -/
def Op.readDw (master a : Nat) (k : Option DWord → Op) : Op := (Op.await a).andThen (Op.get fun s =>
  if !(s.isValid a) then k (some 0)
  else
    let v := s.store.w64 a
    let e := s.errAt a
    match weight e with
    | 0 => k (some v)
    | 1 => (Op.reportCe a v e).andThen (k (some v))
    | 2 => (Op.reportUe a master).andThen (k none)
    | _ => Op.draw fun n =>
      match Config.eccOutcome n with
      | 0 => (Op.reportCe a (Config.eccData n) e).andThen (k (some (Config.eccData n)))
      | 1 => (Op.reportUe a master).andThen (k none)
      | 2 => k (some (Config.eccData n)))

/-- Whether a fixed-function master can reach the doubleword at `a` at all: Basin or DRAM, with power (R36, R456). -/
def State.reaches (s : State) (a : Nat) : Bool :=
  (regionOf a == .basin || regionOf a == .dram) && s.domOn (memDomain a)

/-- `n` doublewords from `a`, read by a fixed-function master; the address of the first that cannot be read where there is one. -/
def Op.fetchDws (master : Nat) : Nat → Nat → (Except Nat (List DWord) → Op) → Op
  | _, 0, k => k (.ok [])
  | a, n + 1, k => Op.get fun s =>
    if !(s.reaches a) then k (.error a)
    else Op.readDw master a fun
      | none => k (.error a)
      | some v => Op.fetchDws master (a + 8) n fun
        | .error b => k (.error b)
        | .ok vs => k (.ok (v :: vs))

/-- The same where the address of a fault is of no use. -/
def Op.readDws (master a n : Nat) (k : Option (List DWord) → Op) : Op :=
  Op.fetchDws master a n fun
    | .ok vs => k (some vs)
    | .error _ => k none

/-- The little-endian field of `n` bytes at an offset of a record. -/
def mf (m : List Byte) (o n : Nat) : Nat := leNat ((m.drop o).take n)

def isZero (m : List Byte) (o n : Nat) : Bool := ((m.drop o).take n).all (· == 0)

/-- The bytes of doublewords, lowest address first. -/
def dwBytes (l : List DWord) : List Byte := l.flatMap fun v => leBytes 8 v.toNat

/-- `n` bytes from `a`, read by a fixed-function master in the doublewords that hold them; the address of the doubleword that
faulted where one does. -/
def Op.fetchBytes (master a n : Nat) (k : Except Nat (List Byte) → Op) : Op :=
  Op.fetchDws master (a / 8 * 8) ((a % 8 + n + 7) / 8) fun
    | .error b => k (.error b)
    | .ok vs => k (.ok (((dwBytes vs).drop (a % 8)).take n))

/-- The same where the address of a fault is of no use. -/
def Op.readBytes (master a n : Nat) (k : Option (List Byte) → Op) : Op :=
  Op.fetchBytes master a n fun
    | .ok bs => k (some bs)
    | .error _ => k none

/-- Doublewords written by a fixed-function master at rising addresses; the continuation gets the first address that could not be
reached, if there is one, and the doublewords before it have been written. -/
def Op.putDws : Nat → List DWord → (Option Nat → Op) → Op
  | _, [], k => k none
  | a, v :: vs, k => Op.get fun s =>
    if !(s.reaches a) then k (some a) else (Op.storeDw a v).andThen (Op.putDws (a + 8) vs k)

/-- The same where the address of a fault is of no use: the continuation learns whether every doubleword could be reached. -/
def Op.writeDws (a : Nat) (l : List DWord) (k : Bool → Op) : Op := Op.putDws a l fun fault => k fault.isNone

end Sys2Proof.Machine
end

