-- ==== Sys2Proof/Machine/Weir.lean ====
section
/-!
DEFINITION. Weir and the rill controller below the instructions (spec/04): submission of descriptors, dispatch, rill
positions, packets, brim marks, exceptions of the cores, delivery to waiting cores, pushes of the fixed-function blocks.
-/
namespace Sys2Proof.Machine

/-! ### Submission (R131 to R134) -/

/-- The work item that the descriptor words spell (R131). Weir ignores the deadline of a priority item. -/
def itemOf (w0 arg : DWord) (deadline : Nat) : Item :=
  let w := w0.toNat
  { entry := loWord w0, prio := natBits w 32 4, group := natBits w 36 2, edf := natBits w 38 1 == 1, cls := natBits w 40 4,
    arg := arg, deadline := if natBits w 38 1 = 1 then deadline else 0 }

/-- Whether word 0 of a descriptor is valid (R132). -/
def State.validDescriptor (s : State) (w0 : DWord) : Bool :=
  let w := w0.toNat
  let g := natBits w 36 2
  natBits w 0 2 == 0 && natBits w 39 1 == 0 && natBits w 44 20 == 0 && s.bit (F.WEIR_GCFG_EN g)
    && s.fld (F.WEIR_GCFG_ORDER g) == natBits w 38 1

/-- The status of a submission (R101), the first refusal of R134's order; `task` says that a SPAWN was issued in task mode. -/
def State.submitStatus (s : State) (w0 : DWord) (task : Bool) : Nat :=
  if !(s.running .weir) then 4
  else if !(s.validDescriptor w0) then 2
  else if task && s.bit (F.WEIR_GCFG_MODE (natBits w0.toNat 36 2)) then 3
  else if 4096 ≤ s.blk.weir.ready.length then 1
  else 0

/-- Accepts an item into the ready set; reaching 4,096 items sets `WEIR_ERR.FULL`. -/
def Op.accept (i : Item) : Op := Op.get fun s =>
  (Op.weir fun w => { w with ready := w.ready ++ [i] }).andThen
    (Op.when (s.blk.weir.ready.length + 1 == 4096) (Op.set F.WEIR_ERR_FULL 1))

/-- Submits a descriptor; the continuation gets the status. -/
def Op.submit (w0 arg : DWord) (deadline : Nat) (task : Bool) (k : Nat → Op) : Op := Op.get fun s =>
  let r := s.submitStatus w0 task
  (Op.when (r == 0) (Op.accept (itemOf w0 arg deadline))).andThen (k r)

/-- Word 0 of a descriptor built from registers. -/
def word0 (entry : Word) (prio group edf cls : Nat) : DWord :=
  BitVec.ofNat 64 (entry.toNat + prio * 2 ^ 32 + group * 2 ^ 36 + edf * 2 ^ 38 + cls * 2 ^ 40)

/-! ### Brim marks (R153, R154) -/

/-- The brim item of a rill (R154), submitted under R134. -/
def Op.submitBrim (n : RillNo) (occ : Nat) : Op := Op.get fun s =>
  Op.submit
    (word0 (s.reg A.RILL_BRIM_ENTRY) (s.fld F.RILL_BRIM_FLAGS_PRIO) (s.fld F.RILL_BRIM_FLAGS_GROUP) 0
      (s.fld F.RILL_BRIM_FLAGS_CLASS))
    (BitVec.ofNat 64 (n.val + occ * 2 ^ 32)) 0 false fun
      | 0 => Op.skip
      | 2 => Op.inc A.WEIR_INVALID
      | _ => Op.inc A.RILL_BRIM_LOST

/-- The evaluation of a rill's brim mark after a change of its occupancy (R153). -/
def Op.brim (n : RillNo) : Op := Op.get fun s =>
  let r := s.rill n
  let high := s.fld (F.RILL_BRIM_HIGH n)
  if high = 0 then Op.skip
  else if r.armed && 8 * high ≤ r.occ then
    Op.all
      [ Op.set ⟨if n.val < 32 then A.RILL_BRIM_STAT_LO else A.RILL_BRIM_STAT_HI, n.val % 32, 1⟩ 1,
        Op.when (s.bit F.RILL_BRIM_FLAGS_EN) (Op.submitBrim n r.occ),
        Op.rill n fun r => { r with armed := false } ]
  else if !r.armed && r.occ ≤ 8 * s.fld (F.RILL_BRIM_LOW n) then Op.rill n fun r => { r with armed := true }
  else Op.skip

/-- Advances the release position past `k` slots, modulo the size. -/
def Op.freeSlots (n : RillNo) (k : Nat) : Op := Op.get fun s =>
  Op.rill n fun r => { r with rl := (r.rl + k) % s.rillSize n }

/-! ### Packets (R109 to R113) -/

/-- Opens a packet: reserves the slot of the length word (R109). -/
def Op.pktOpen (n : RillNo) (m : Master) : Op :=
  (Op.rill n fun r => { r with npkt := 1, pkt := some m }).andThen (Op.brim n)

/-- Appends a body word; the caller has seen that a slot is free (R110). -/
def Op.pktWord (n : RillNo) (v : DWord) : Op := Op.get fun s =>
  Op.all
    [ Op.storeDw (s.slotAddr n (s.rill n).wr) (storedItem n v),
      Op.rill n fun r => { r with npkt := r.npkt + 1 },
      Op.brim n ]

/-- Gives back the slots of an open packet; nothing of it becomes visible (R112, R113). -/
def Op.pktDrop (n : RillNo) : Op :=
  (Op.rill n fun r => { r with npkt := 0, pkt := none }).andThen (Op.brim n)

/-- The length word of a packet (R111). -/
def lengthWord (count : Nat) (flags : Word) : DWord :=
  BitVec.ofNat 64 (count % 2 ^ 16 + flags.toNat * 2 ^ 16) ||| 0x8000000000000000

/-- Writes the length word into the reserved slot and makes the packet visible in one step (R111); delivery to waiting
cores follows in `Op.pktClose`. -/
def Op.pktCommit (n : RillNo) (count : Nat) (flags : Word) : Op := Op.get fun s =>
  Op.all
    [ Op.storeDw (s.slotAddr n (s.rill n).vis) (lengthWord count flags),
      Op.rill n fun r => { r with unread := r.unread + r.npkt, npkt := 0, pkt := none } ]

/-- A master's open packet on a rill ends without being committed: the packet is dropped where the rill still holds it. -/
def Op.pktAbort (n : RillNo) (m : Master) : Op := Op.get fun s =>
  Op.when ((s.rill n).pkt == some m) (Op.pktDrop n)

/-- The rill that `cx.popen` names, and whether a packet is open and broken (R96). -/
def Core.popenOpen (k : Core) : Bool := k.popen.getLsbD 0
def Core.popenBroken (k : Core) : Bool := k.popen.getLsbD 1
def Core.popenRill (k : Core) : RillNo := rillNo (fieldOf k.popen 8 6)
def Core.popenCount (k : Core) : Nat := fieldOf k.popen 16 16

/-- The value of `cx.popen` (R96). -/
def popenWord (broken : Bool) (n : RillNo) (count : Nat) : Word :=
  BitVec.ofNat 32 (1 + bit01 broken * 2 + n.val * 2 ^ 8 + count % 2 ^ 16 * 2 ^ 16)

/-- The packet that a core holds open is cancelled: nothing of it becomes visible, `RILL_PKT_ABANDON` counts, and the
recorder takes the rill and the core (R100, R152). A halted core has lost its packet already, while `cx.popen` still shows it (R88). -/
def Op.abandonPacket (c : CoreId) : Op := Op.get fun s =>
  let k := s.core c
  Op.when (k.popenOpen && k.run != .halted)
    (Op.all
      [ Op.pktAbort k.popenRill (.core c),
        Op.inc A.RILL_PKT_ABANDON,
        Op.log 0x0007 (coreSource c) k.popenRill.val (coreSource c) ])

/-- The packets that a block holds open are cancelled as it stops or is reset, with the block named in the record (R152). -/
def Op.abandonBlockPackets (b : Block) : Op := Op.each (List.finRange 64) fun n => Op.get fun s =>
  Op.when ((s.rill n).pkt == some (.block b.num))
    (Op.all [ Op.pktDrop n, Op.inc A.RILL_PKT_ABANDON, Op.log 0x0007 b.num n.val b.num ])

/-! ### Exceptions (R82 to R88) -/

/-- Outstanding loads return: their registers and their `cx.lstat` bits are written. -/
def Core.settleLoads (k : Core) : Core :=
  k.loads.foldl (fun k l => { k.wrs l.writes with lstat := k.lstat ||| l.lstat }) { k with loads := [] }

/-- Outstanding load number `n` returns. -/
def Core.returnLoad (k : Core) (n : Nat) : Core :=
  match k.loads[n]? with
  | some l => { ({ k with loads := [l] }).settleLoads with loads := k.loads.eraseIdx n }
  | none => k

/-- The oldest outstanding load that satisfies `p` returns. -/
def Core.returnFirst (k : Core) (p : Load → Bool) : Core := k.returnLoad (k.loads.findIdx p)

/-- The record of a store fault (R87, R488). -/
def Op.logStoreFault (c : CoreId) (f : StoreFault) : Op := Op.log 0x0005 (coreSource c) f.addr.toNat f.code

/-- A double fault (R88): the core halts with its control registers as they are, leaves Weir (R140) and loses its open
packet (R152). -/
def Op.doubleFault (c : CoreId) (code : Nat) (addr : Word) : Op :=
  Op.all
    [ Op.log 0x0006 (coreSource c) addr.toNat code,
      Op.abandonPacket c,
      Op.core c fun k => { k with run := .halted, work := none },
      Op.weir fun w => { w with waiting := w.waiting.filter (·.1 != c) },
      Op.set ⟨A.WEIR_HALTED, c.val, 1⟩ 1 ]

/-- What exception entry writes (R85). -/
def Core.entered (k : Core) (code detail : Nat) (imprecise multi : Bool) (epc eaddr : Word) : Core :=
  { k with
    cause := BitVec.ofNat 32 (code + bit01 imprecise * 2 ^ 8 + bit01 multi * 2 ^ 9 + detail % 2 ^ 16 * 2 ^ 16)
    epc := epc
    eaddr := eaddr
    est := k.st
    mode := withField (withField k.mode 2 1 (bit01 k.sys)) 0 2 3
    pc := k.vec
    run := .running }

/-- Takes an exception (R85): outstanding loads and stores complete first, a store fault that arrives meanwhile sets MULTI
and is logged; with EXL at 1 it is a double fault (R88). `addr` is the instruction's address for the record of R88. -/
def Op.enter (c : CoreId) (code detail : Nat) (imprecise multi : Bool) (epc eaddr addr : Word) : Op := Op.get fun s =>
  let late := (s.core c).stores
  Op.all
    [ Op.each late (Op.logStoreFault c),
      Op.core c fun k => { k.settleLoads with stores := [] },
      Op.get fun s =>
        if (s.core c).exl then Op.doubleFault c code addr
        else Op.core c fun k => k.entered code detail imprecise (multi || !late.isEmpty) epc eaddr ]

/-- A precise exception of the instruction at the core's pc. -/
def Op.raise (c : CoreId) (code detail : Nat) (eaddr : Word) : Op := Op.get fun s =>
  Op.enter c code detail false false (s.core c).pc eaddr (s.core c).pc

/-- A response to a refused store reaches the core: it becomes pending, and the recorder logs it. A model choice (log entry 23): of
several in flight the oldest is answered first, though R26 lets stores complete in any order. -/
def Op.storeFaultArrives (c : CoreId) : Op := Op.get fun s =>
  match (s.core c).stores with
  | [] => Op.skip
  | f :: fs => (Op.core c fun k => { k with stores := fs, faults := k.faults ++ [f] }).andThen (Op.logStoreFault c f)

/-- Raises the pending store faults (R29, R87): the earliest issued is reported; IMPRECISE says that an instruction has
retired since. -/
def Op.raiseStoreFault (c : CoreId) : Op := Op.get fun s =>
  match (s.core c).faults with
  | [] => Op.skip
  | f :: fs =>
    (Op.core c fun k => { k with faults := [] }).andThen
      (Op.enter c f.code 0 (f.retired != (s.core c).icount) (!fs.isEmpty) (s.core c).pc f.addr (s.core c).pc)

/-- A precise exception of an instruction in which the core waits: a store fault that has arrived meanwhile comes first (R86). -/
def Op.raiseWaiting (c : CoreId) (code : Nat) (eaddr : Word) : Op := Op.get fun s =>
  if (s.core c).faults.isEmpty then Op.raise c code 0 eaddr else Op.raiseStoreFault c

/-! ### The limits of Delta (R21 to R23) -/

/-- Whether an outstanding load is a transaction of Delta. -/
def Load.inDelta (l : Load) : Bool := l.kind != .near

/-- The stores of a core that count against its limit of 8: refused ones on their way back, and atomics (R22, R72). -/
def Core.storeSlots (k : Core) : Nat := k.stores.length + k.loads.countP (·.kind == .atomic)

/-- Whether a refused store is a transaction of Delta: a store to the core's own local memories never enters it. -/
def StoreFault.inDelta (f : StoreFault) : Bool := regionOf f.addr.toNat != .localI && regionOf f.addr.toNat != .localD

/-- The transactions of the cores that Delta holds (R21). -/
def State.transactions (s : State) : Nat :=
  s.blk.cores.toList.foldl (fun n k => n + k.loads.countP Load.inDelta + k.stores.countP StoreFault.inDelta) 0

/-- Responses reach a core up to that of its oldest refused store in Delta. -/
def Op.deltaAnswers (c : CoreId) : Op := Op.get fun s =>
  Op.each (List.range ((s.core c).stores.findIdx StoreFault.inDelta + 1)) fun _ => Op.storeFaultArrives c

/-- Makes room in Delta for a store or a load: while the cores share 192 transactions, the request waits until an earlier one of its kind
completes, that of the lowest core that has one, or where none has, one of the other kind (R21, R23; log entry 23). -/
def Op.deltaRoom (store : Bool) : Op := Op.get fun s =>
  let loader := (List.finRange 24).find? fun d => (s.core d).loads.any Load.inDelta
  let storer := (List.finRange 24).find? fun d => (s.core d).stores.any StoreFault.inDelta
  let load (d : CoreId) : Op := Op.core d (·.returnFirst Load.inDelta)
  if s.transactions < 192 then Op.skip
  else
    match loader, storer with
    | some d, some e => if store then Op.deltaAnswers e else load d
    | some d, none => load d
    | none, some e => Op.deltaAnswers e
    | none, none => Op.skip

/-- A request of core `c` enters Delta, as a store or a load. A fault of its own store that making room brings back is raised in place of
the request. -/
def Op.enterDelta (c : CoreId) (store : Bool) (request : Op) : Op :=
  (Op.deltaRoom store).andThen (Op.get fun s => if (s.core c).faults.isEmpty then request else Op.raiseStoreFault c)

/-! ### Dispatch (R137 to R139) -/

/-- Whether a waiting entry stands in the queue of group `g`. -/
def inQueue (g : Nat) (e : CoreId × Option Nat) : Bool := e.2 == some g

/-- The oldest item among those that satisfy `p`, with the rest of the list. -/
def takeFirst (p : Item → Bool) : List Item → Option (Item × List Item)
  | [] => none
  | i :: l => if p i then some (i, l) else (takeFirst p l).map fun (j, m) => (j, i :: m)

/-- Whether `i` comes before `j` whatever their order of acceptance (R138). -/
def before (edf : Bool) (i j : Item) : Bool :=
  if edf then i.deadline < j.deadline || (i.deadline == j.deadline && j.prio < i.prio) else j.prio < i.prio

/-- The item Weir gives from group `g`: no other ready item of the group comes before it, and it is the oldest such. -/
def chooseItem (ready : List Item) (g : Nat) (edf : Bool) : Option (Item × List Item) :=
  takeFirst (fun i => i.group == g && ready.all fun j => !(j.group == g && before edf j i)) ready

/-- Whether a group is enabled and has a ready item and a waiting core (R135, R138). -/
def State.canDispatch (s : State) (g : Nat) : Bool :=
  s.bit (F.WEIR_GCFG_EN g) && s.blk.weir.ready.any (·.group == g) && s.blk.weir.waiting.any (inQueue g)

/-- The group Weir serves next: the first that can be served after the one served last (R139). -/
def State.nextGroup (s : State) : Option Nat :=
  ([1, 2, 3, 4].map fun i => (s.blk.weir.lastGroup + i) % 4).find? s.canDispatch

/-- `cx.item` of a running item (R95). -/
def itemWord (i : Item) (pastdue : Bool) : Word :=
  BitVec.ofNat 32 (1 + bit01 i.edf * 2 + i.prio * 4 + i.group * 2 ^ 6 + bit01 pastdue * 2 ^ 8)

/-- The completion of dispatch TAKE (R98): argument in p2, deadline in p3, every other register zero; mode, budget and
`BUDEN` as the group configuration states. A TAKE that loads the budget does not decrement it (R54). -/
def Core.receive (k : Core) (i : Item) (pastdue sys buden : Bool) (budget : Word) : Core :=
  let k := k.retire (k.budgeted && !buden) i.entry
  let z : Core := { k with w := Vector.replicate 32 0 }
  { (z.wrp 4 i.arg).wrp 6 (BitVec.ofNat 64 i.deadline) with
    st := 0
    sat := 0
    item := itemWord i pastdue
    mode := withField (withField k.mode 0 1 (bit01 sys)) 3 1 (bit01 buden)
    budget := if buden then budget else k.budget
    work := some (i, pastdue) }

/-- Weir gives the chosen item of a group to the group's longest-waiting core (R138). -/
def Op.dispatch (g : Nat) : Op := Op.get fun s =>
  match s.blk.weir.waiting.find? (inQueue g), chooseItem s.blk.weir.ready g (s.bit (F.WEIR_GCFG_ORDER g)) with
  | some (c, _), some (i, rest) =>
    let pastdue := i.edf && i.deadline < s.now
    Op.all
      [ Op.weir fun w => { w with ready := rest, waiting := w.waiting.filter (·.1 != c), lastGroup := g },
        Op.inc (A.WEIR_GDISP g),
        Op.when pastdue (Op.inc A.WEIR_PASTDUE_CNT),
        Op.core c fun k =>
          k.receive i pastdue (s.bit (F.WEIR_GCFG_MODE g)) (s.bit (F.WEIR_GCFG_BUDEN g)) (s.reg (A.WEIR_GBUD g)) ]
  | _, _ => Op.skip

/-! ### Reading and delivering items (R39, R106, R107, R534) -/

/-- Reads the slot at the read position; a slot in error has been reported by the rill controller (R534). -/
def Op.readSlot (n : RillNo) (k : Option DWord → Op) : Op := Op.get fun s =>
  Op.readDw Block.rill.num (s.slotAddr n (s.rill n).rd) k

/-- Advances the read position past one slot. -/
def Op.advance (n : RillNo) : Op := Op.rill n fun r => { r with nread := r.nread + 1, unread := r.unread - 1 }

/-- Frees every slot from the release position to the read position; a mark that lies in the freed span becomes invalid (R107). -/
def Op.releaseRead (n : RillNo) : Op := Op.get fun s =>
  Op.rill n fun r =>
    { r with
      rl := (r.rl + r.nread) % s.rillSize n
      nread := 0
      markOff := match r.markOff with
        | some m => if m < r.nread then none else some (m - r.nread)
        | none => none }

/-- A POP or rill TAKE of a rill that holds an item (R107): the item goes to `pd` with T at 1; a slot in error is passed
and raises LOAD_ECC (R534), unless a store fault is pending for a core that waited. That comes first, and the slot stays, so that the
error is raised again as the instruction issues once more (R86). -/
def Op.takeItem (c : CoreId) (pd : RegNo) (n : RillNo) : Op := Op.get fun s =>
  Op.readSlot n fun
    | some v => (Op.advance n).andThen (Op.core c fun k => ((k.wrp pd v).setT true).retire k.budgeted (k.pc + 4))
    | none =>
      (Op.when (s.core c).faults.isEmpty (Op.advance n)).andThen
        (Op.raiseWaiting c 0x0A (BitVec.ofNat 32 (s.slotAddr n (s.rill n).rd)))

/-- Items go to the cores that wait in TAKE on the rill, the earliest TAKE first (R103); `fuel` bounds the deliveries. -/
def Op.deliver (n : RillNo) : Nat → Op
  | 0 => Op.skip
  | fuel + 1 => Op.get fun s =>
    match (s.rill n).waiters with
    | [] => Op.skip
    | c :: ws =>
      if (s.rill n).unread = 0 then Op.skip
      else
        let rest := (Op.rill n fun r => { r with waiters := ws }).andThen
        match (s.core c).run with
        | .rillWait pd _ => (rest (Op.takeItem c pd n)).andThen (Op.deliver n fuel)
        | _ => (rest Op.skip).andThen (Op.deliver n fuel)

/-- Writes an item at the write position and makes it visible; the caller has seen that a slot is free (R108). -/
def Op.rillPush (n : RillNo) (v : DWord) : Op := Op.get fun s =>
  Op.all
    [ Op.storeDw (s.slotAddr n (s.rill n).wr) (storedItem n v),
      Op.rill n fun r => { r with unread := r.unread + 1 },
      Op.deliver n 24,
      Op.brim n ]

/-- Commits a packet and delivers it to waiting cores (R111). -/
def Op.pktClose (n : RillNo) (count : Nat) (flags : Word) : Op :=
  (Op.pktCommit n count flags).andThen (Op.deliver n 24)

/-! ### Pushes of fixed-function blocks (R156) -/

/-- A fixed-function block's push of one item; a refusal for lack of room counts in `RILL_FULLCNTn` (R156). The
continuation gets what the push found. -/
def Op.hwPush (n : RillNo) (v : DWord) (k : Room → Op) : Op := Op.get fun s =>
  match s.room n false 1 with
  | .ok => (Op.rillPush n v).andThen (k .ok)
  | .full => (Op.inc (A.RILL_FULLCNT n)).andThen (k .full)
  | r => k r

/-- The refusal for lack of room of an item that goes on waiting at a place: only its first counts (R156). -/
def Op.refusedAt (p : Nat) (n : RillNo) : Op := Op.get fun s =>
  Op.when (!(s.isTold p)) ((Op.inc (A.RILL_FULLCNT n)).andThen (Op.setTold p true))

/-- A push by a block that keeps its item at a place while the rill cannot take it. -/
def Op.keepPush (p : Nat) (n : RillNo) (v : DWord) (k : Room → Op) : Op := Op.get fun s =>
  match s.room n false 1 with
  | .ok => Op.all [Op.setTold p false, Op.rillPush n v, k .ok]
  | .full => (Op.refusedAt p n).andThen (k .full)
  | r => k r

/-- A fixed-function block's push of a packet with its length word, whole (R111, R156), kept at a place of the block while the rill
cannot take it. -/
def Op.hwPacket (b : Block) (place : Nat) (n : RillNo) (flags : Word) (body : List DWord) (k : Room → Op) : Op := Op.get fun s =>
  match s.room n true (body.length + 1) with
  | .ok =>
    Op.all
      [ Op.setTold (b.place place) false, Op.pktOpen n (.block b.num), Op.each body (Op.pktWord n), Op.pktClose n body.length flags,
        k .ok ]
  | .full => (Op.refusedAt (b.place place) n).andThen (k .full)
  | r => k r

/-- Pushes the oldest waiting event of a block where its rill can take it (R372 and the like); a block that holds no events
loses one that finds its rill full or not enabled. Its first refusal for lack of room counts (R156). -/
def Op.drainEvent (b : Block) (e : EvtCfg) : Op := Op.get fun s =>
  match s.evq b with
  | [] => Op.skip
  | v :: vs =>
    let n := rillNo (s.fld e.rill)
    let pop := ((Op.setEvq b vs).andThen (Op.setTold (b.place 0) false)).andThen
    Op.when (s.evOn e)
      (match s.room n false 1 with
        | .ok => pop (Op.rillPush n v)
        | .stopped => Op.skip
        | .busy => Op.skip
        | .full => (Op.refusedAt (b.place 0) n).andThen (Op.when e.hold.isNone (pop (Op.inc e.lost)))
        | .off => Op.when e.hold.isNone (pop (Op.inc e.lost)))

/-- Pushes the waiting events of a block as far as its rill can take them; `n` bounds their number. -/
def Op.drainEvents (b : Block) (e : EvtCfg) : Nat → Op
  | 0 => Op.skip
  | n + 1 => (Op.drainEvent b e).andThen (Op.drainEvents b e n)

/-- Posts an event of a block while its events are enabled: it is pushed at once where the rill can take it after the earlier events that
wait, and waits or is lost otherwise. A model choice (log entry 26): a rill in packet mode is taken as one that is not enabled. -/
def Op.postEvent (b : Block) (e : EvtCfg) (v : DWord) : Op := Op.get fun s =>
  Op.when (s.evOn e) ((Op.drainEvents b e (s.evq b).length).andThen (Op.get fun s =>
    if (s.evq b).isEmpty then
      Op.hwPush (rillNo (s.fld e.rill)) v fun
        | .ok => Op.skip
        | .stopped => Op.enqueueEvent b e v
        | .busy => Op.enqueueEvent b e v
        | .full => if e.hold.isSome then (Op.enqueueEvent b e v).andThen (Op.setTold (b.place 0) true) else Op.inc e.lost
        | _ => if e.hold.isSome then Op.enqueueEvent b e v else Op.inc e.lost
    else Op.enqueueEvent b e v))

/-! ### Feed rills (R155) -/

/-- Whether a rill is a feed rill that holds an item and can be served. -/
def State.feedReady (s : State) (n : RillNo) : Bool := s.rillEn n && s.isFeed n && (s.rill n).unread != 0

/-- The feed rill served next, in turn by rill number. -/
def State.nextFeed (s : State) : Option RillNo :=
  ((List.range 64).map fun i => rillNo (s.blk.weir.lastFeed + 1 + i)).find? s.feedReady

/-- Takes the item at Rd of a feed rill, advancing Rd and Rl together, and submits its descriptor (R155); an invalid one is
lost and counts (R134), a slot in error is lost without a count (R534). A model choice (log entry 26): a mark that the rill kept from
before it was a feed rill stays valid, at the same distance from Rl. -/
def Op.feedOne (n : RillNo) : Op :=
  Op.readSlot n fun r =>
    Op.all
      [ Op.freeSlots n 1,
        Op.rill n fun r => { r with unread := r.unread - 1 },
        Op.weir fun w => { w with lastFeed := n.val },
        match r with
        | none => Op.skip
        | some v => Op.get fun s =>
          Op.submit
            (word0 (s.reg (A.RILL_FEED_ENTRY n)) (s.fld (F.RILL_FEED_FLAGS_PRIO n)) (s.fld (F.RILL_FEED_FLAGS_GROUP n))
              (s.fld (F.RILL_FEED_FLAGS_EDF n)) (s.fld (F.RILL_FEED_FLAGS_CLASS n)))
            v ((s.now + s.fld (F.RILL_FEED_DL_VALUE n)) % 2 ^ 64) false fun r => Op.when (r == 2) (Op.inc A.WEIR_INVALID),
        Op.brim n ]

/-! ### Fixed-function consumers (R148, R534) -/

/-- Takes one item of a rill and releases it at once. A model choice (log entry 26): R148 does not say when a consumer of fixed function
releases what it reads; here every slot up to the read position is free then, those that a core has read and kept among them. -/
def Op.consume (n : RillNo) (k : Option DWord → Op) : Op :=
  Op.readSlot n fun r => Op.all [ Op.advance n, Op.releaseRead n, Op.brim n, k r ]

/-- Takes the next item of a plain rill: nothing happens where there is none, or the rill cannot be used; an item in error is
lost (R534). -/
def Op.hwPop (n : RillNo) (k : DWord → Op) : Op := Op.get fun s =>
  Op.when (s.rillOn n && (s.rill n).unread != 0)
    (Op.consume n fun
      | some v => k v
      | none => Op.skip)

/-- Takes `m` items in order; nothing where one of them is in error. -/
def Op.consumeMany (n : RillNo) : Nat → (Option (List DWord) → Op) → Op
  | 0, k => k (some [])
  | m + 1, k => Op.consume n fun v => Op.consumeMany n m fun vs =>
    match v, vs with
    | some v, some vs => k (some (v :: vs))
    | _, _ => k none

/-- Takes the next packet of a packet rill whole (R188): the continuation gets the length word's flags and the body. A packet
with an item in error is consumed and lost (R534). -/
def Op.hwPopPacket (n : RillNo) (k : Word → List DWord → Op) : Op := Op.get fun s =>
  let len := natBits (s.store.w64 (s.slotAddr n (s.rill n).rd)).toNat 0 16
  Op.when (s.rillOn n && (s.rill n).unread != 0)
    (Op.consumeMany n (min (len + 1) (s.rill n).unread) fun
      | some (h :: body) => k (BitVec.ofNat 32 (natBits h.toNat 16 32)) body
      | _ => Op.skip)

end Sys2Proof.Machine
end

