-- ==== Sys2Proof/Machine/Cpu.lean ====
section
/-!
DEFINITION. Issuing an instruction on an Eddy core (spec/02): the order of exceptions at an instruction boundary (R86), the
fetch causes, the stall on an outstanding load (R44), the local memories (R74), and the shapes that instruction families share.
-/
namespace Sys2Proof.Machine

/-! ### Local memories (R74, R454) -/

/-- An uncorrectable error in a core's local memory: record and event 1 (R453, R470, R536), memory 3. -/
def Op.reportLocalUe (c : CoreId) (a : Nat) : Op :=
  Op.all
    [ Op.setReg A.MEM_LAST_UE a,
      Op.log 0x0010 18 a (3 + coreSource c * 2 ^ 8),
      Op.memQueue (memItem 1 3 (a % 0x8000)) ]

/-- Checks the 32-bit code word at `a` of core `c`'s local memory: a correctable error is corrected in place and counts in
`cx.lerr`; the continuation gets the data, or nothing where the error cannot be corrected (R74). Three or more bits in error
have one of the outcomes of R451, which the spec leaves open (log entry 2). -/
def Op.readLocal (c : CoreId) (a : Nat) (k : Option Word → Op) : Op := Op.get fun s =>
  let key := localKey c.val a
  let corrected (v : Word) : Op :=
    Op.all
      [ Op.putBytes key (leBytes 4 v.toNat),
        Op.putErr key 0,
        Op.core c fun q => { q with lerr := BitVec.ofNat 32 (satAdd 32 q.lerr.toNat 1) } ]
  let v := s.store.w32 key
  match weight (s.errAt key) with
  | 0 => k (some v)
  | 1 => (corrected v).andThen (k (some v))
  | 2 => (Op.reportLocalUe c a).andThen (k none)
  | _ => Op.draw fun n =>
    match Config.eccOutcome n with
    | 0 => (corrected (loWord (Config.eccData n))).andThen (k (some (loWord (Config.eccData n))))
    | 1 => (Op.reportLocalUe c a).andThen (k none)
    | 2 => k (some (loWord (Config.eccData n)))

/-- Whether the flip mask applies to a write of the local data word at `a` of core `c` (R461, target 3). -/
def State.flipsLocal (s : State) (c : CoreId) (a : Nat) : Bool :=
  s.bit F.MEM_FLIP_CFG_ARM && s.fld F.MEM_FLIP_CFG_TARGET == 3 && s.fld F.MEM_FLIP_CFG_CORE == c.val && 0x8000 ≤ a
    && (!(s.bit F.MEM_FLIP_CFG_ADDRMATCH) || (s.reg A.MEM_FLIP_ADDR).toNat / 4 == a / 4)

/-- Writes one whole 32-bit word of a local memory. -/
def Op.writeLocal (c : CoreId) (a : Nat) (v : Word) : Op := Op.get fun s =>
  let flip := s.flipsLocal c a
  let mask : BitVec 72 :=
    BitVec.ofNat 72 (s.fld F.MEM_FLIP_CFG_CHECK % 2 ^ 7 * 2 ^ 64 + (s.reg A.MEM_FLIP_LO).toNat)
  Op.all
    [ Op.putBytes (localKey c.val a) (leBytes 4 v.toNat),
      Op.putErr (localKey c.val a) (if flip then mask else 0),
      Op.when flip (Op.set F.MEM_FLIP_CFG_ARM 0) ]

/-! ### Fetch (R31, R32, R33) -/

/-- The word that fetch sees in local instruction memory: a store since the last FENCE is not visible to it (R33). -/
def State.fetchWord (s : State) (c : CoreId) (a : Nat) : Word :=
  match (s.core c).oldFetch.find? (·.1 == a) with
  | some (_, w) => w
  | none => s.store.w32 (localKey c.val a)

/-- An access outside every region of R30 is logged. -/
def Op.logOutside (c : CoreId) (a : Nat) : Op := Op.log 0x0004 (coreSource c) a (coreSource c)

/-- The fetch of the instruction at the core's pc: its exceptions (R86 rank 3), else the instruction itself. A fetch at the entry of the
item that runs raises FETCH where no region has the address (R99); elsewhere that is a bus fault (R30). Model choices (log entry 42): a pc
that is no multiple of 4, which ERET can bring about, raises FETCH ahead of any cause of its region; a task-mode fetch from rill SRAM or a
register block, which meets R31 and R32 alike, raises FETCH and not PRIVILEGE. -/
def Op.fetch (c : CoreId) (next : Op) : Op := Op.get fun s =>
  let k := s.core c
  let a := k.pc.toNat
  if a % 4 ≠ 0 then Op.raise c 0x03 0 k.pc
  else
    match regionOf a with
    | .localI => Op.readLocal c a fun
      | some _ => next
      | none => Op.raise c 0x0B 0 k.pc
    | .rom => if k.sys then next else Op.raise c 0x02 0 k.pc
    | .nor => if s.domOn 15 then next else (Op.log 0x0003 (coreSource c) a 4).andThen (Op.raise c 0x04 0 k.pc)
    | .none =>
      if k.work.any (·.1.entry == k.pc) then Op.raise c 0x03 0 k.pc
      else (Op.logOutside c a).andThen (Op.raise c 0x04 0 k.pc)
    | _ => Op.raise c 0x03 0 k.pc

/-! ### Issue (R44, R54, R86) -/

/-- The outstanding loads whose destination an instruction reads or overwrites return first (R44). -/
def Core.need (k : Core) (uses : List RegNo) : Core :=
  let waits (l : Load) : Bool := l.writes.any fun w => uses.contains w.1
  { ({ k with loads := k.loads.filter waits }).settleLoads with loads := k.loads.filter fun l => !(waits l) }

/-- Whether a core issues instructions: it runs, and its cluster has power. -/
def State.issues (s : State) (c : CoreId) : Bool := (s.core c).run == .running && s.domOn (coreDomain c)

/-- A core issues an instruction: a pending store fault comes first, then BUDGET, then the fetch causes (R86); then the
instruction's own body, which sees the core after the loads it depends on have returned. `uses` are the registers that the
instruction reads or writes. A core that issues nothing takes no instruction. -/
def Op.issue (c : CoreId) (uses : List RegNo) (body : Core → Op) : Op := Op.get fun s =>
  let k := s.core c
  if !(s.issues c) then Op.skip
  else if !k.faults.isEmpty then Op.raiseStoreFault c
  else if k.budgeted && k.budget = 0 then Op.raise c 0x0C 0 0
  else Op.fetch c ((Op.core c (·.need uses)).andThen (Op.get fun s => body (s.core c)))

/-- ILLEGAL with a reason of R84. -/
def Op.illegal (c : CoreId) (reason : Nat) : Op := Op.raise c 0x01 reason 0

/-- PRIVILEGE, with the address it concerns or 0. -/
def Op.privilege (c : CoreId) (eaddr : Word) : Op := Op.raise c 0x02 0 eaddr

/-- Continues where every register field names a pair, and raises ILLEGAL with reason 4 otherwise (R47). -/
def Op.pairs (c : CoreId) (l : List RegNo) (o : Op) : Op := if l.all isPair then o else Op.illegal c 4

/-- Both halves of a pair. -/
def both (r : RegNo) : List RegNo := [r, r + 1]

/-- Retires the instruction with the core changed by `f`; the next instruction is the one after it. -/
def Op.finish (c : CoreId) (f : Core → Core) : Op := Op.core c fun k => (f k).retire k.budgeted (k.pc + 4)

/-- Continues once every earlier load and store of the core has completed: loads return, and a refused store's response
raises its fault before the instruction issues (R27, R29). -/
def Op.settled (c : CoreId) (body : Core → Op) : Op := Op.get fun s =>
  if (s.core c).stores.isEmpty then (Op.core c (·.settleLoads)).andThen (Op.get fun s => body (s.core c))
  else Op.all [ Op.each (s.core c).stores fun _ => Op.storeFaultArrives c, Op.raiseStoreFault c ]

end Sys2Proof.Machine
end

