-- ==== Sys2Proof/Machine/Operands.lean ====
section
/-!
DEFINITION. Operand forms of Ocvar instructions: immediates, effective addresses, and the pure results of the integer and
fixed-point instructions (R59, R60, R62 to R65).
-/
namespace Sys2Proof.Machine

/-! ### Immediates and addresses -/

/-- A sign-extended immediate. -/
def sextW {n : Nat} (v : BitVec n) : Word := v.signExtend 32

/-- A zero-extended immediate. -/
def zextW {n : Nat} (v : BitVec n) : Word := v.zeroExtend 32

/-- The address of a load or store with an immediate offset (R66). -/
def Core.addr {n : Nat} (k : Core) (a : RegNo) (imm : BitVec n) : Word := k.rd a + sextW imm

/-- The address of an indexed load or store of `size` bytes (R67). -/
def Core.addrX (k : Core) (a b : RegNo) (scaled : Bool) (size : Nat) : Word :=
  k.rd a + k.rd b * (if scaled then BitVec.ofNat 32 size else 1)

/-- The target of a branch at `pc` (R75). -/
def branchTarget (pc : Word) (off : BitVec 16) : Word := pc + 4 * sextW off

/-- The target of `J` and `JAL` (R75). -/
def jumpTarget (t : BitVec 26) : Word := 4 * zextW t

/-! ### Integer results -/

/-- 1 or 0 as a word. -/
def boolW (b : Bool) : Word := if b then 1 else 0

/-- How many leading zeros a word has (R59: CLZ). -/
def clz (x : Word) : Nat := if x = 0 then 32 else 31 - Nat.log2 x.toNat

/-- How many ones a word has (R59: POPC). -/
def popc (x : Word) : Nat := weight x

/-- The bytes of a word in reverse order (R59: REV). -/
def rev (x : Word) : Word := BitVec.ofNat 32 (beNat (leBytes 4 x.toNat))

/-- Division and remainder, with the results of R63 for division by zero. -/
def divS (x y : Word) : Word := if y = 0 then 0xFFFFFFFF else BitVec.ofInt 32 (x.toInt.tdiv y.toInt)
def divU (x y : Word) : Word := if y = 0 then 0xFFFFFFFF else x / y
def remS (x y : Word) : Word := if y = 0 then x else BitVec.ofInt 32 (x.toInt.tmod y.toInt)
def remU (x y : Word) : Word := if y = 0 then x else x % y

/-- The exact products of two words. -/
def prodS (x y : Word) : Int := x.toInt * y.toInt
def prodU (x y : Word) : Nat := x.toNat * y.toNat

/-! ### Saturating results (R64, R65)

Each is computed exactly and then clamped; the second component says whether it was clamped. -/

/-- Clamped to the signed range of `w` bits. -/
def satS (w : Nat) (z : Int) : BitVec w × Bool := (BitVec.ofInt w (clampS w z), clampS w z != z)

/-- Clamped to the unsigned range of `w` bits. -/
def satU (w : Nat) (z : Int) : BitVec w × Bool := (BitVec.ofInt w (clampU w z), clampU w z != z)

/-- A value rounded and shifted right by `s`: half of the last kept unit is added, then the shift is arithmetic (R65). -/
def roundShift (z : Int) (s : Nat) : Int := if s = 0 then z else (z + 2 ^ (s - 1)) / 2 ^ s

/-- A word clamped to the signed or unsigned range of `n` bits, `n` from 1 to 32 (SATS, SATU). -/
def narrowS (n : Nat) (x : Word) : Word × Bool := (BitVec.ofInt 32 (clampS n x.toInt), clampS n x.toInt != x.toInt)
def narrowU (n : Nat) (x : Word) : Word × Bool := (BitVec.ofInt 32 (clampU n x.toInt), clampU n x.toInt != x.toInt)

/-- The signed 16-bit lanes of a word. -/
def laneHi (x : Word) : Int := (x.extractLsb' 16 16).toInt
def laneLo (x : Word) : Int := (x.extractLsb' 0 16).toInt

/-- An operation on each 16-bit lane, clamped; clamped if either lane is. -/
def lanes (f : Int → Int → Int) (x y : Word) : Word × Bool :=
  let h := satS 16 (f (laneHi x) (laneHi y))
  let l := satS 16 (f (laneLo x) (laneLo y))
  (h.1 ++ l.1, h.2 || l.2)

end Sys2Proof.Machine
end

