-- ==== Sys2Proof/Machine/Flags.lean ====
section
/-!
DEFINITION. The flags of `st` (R49, R61) and the conditions of BC and BR (R76, R77).
-/
namespace Sys2Proof.Machine

/-- `st` with one flag replaced: Z is bit 0, N 1, C 2, V 3, T 4. -/
def setFlag (st : Word) (i : Nat) (b : Bool) : Word := withField st i 1 (bit01 b)

/-- Z and N from a result; the other flags stay. -/
def znFlags {n : Nat} (st : Word) (r : BitVec n) : Word := setFlag (setFlag st 0 (r == 0)) 1 r.msb

/-- All four flags of the sum x + y + cin (R61, add_flags). -/
def addFlags {n : Nat} (st : Word) (x y : BitVec n) (cin : Bool) : Word :=
  let r := x + y + BitVec.ofNat n (bit01 cin)
  setFlag (setFlag (znFlags st r) 2 (decide (2 ^ n ≤ x.toNat + y.toNat + bit01 cin))) 3 (x.msb == y.msb && r.msb != x.msb)

/-- All four flags of the difference x − y − (1 − cin) (R61, sub_flags). -/
def subFlags {n : Nat} (st : Word) (x y : BitVec n) (cin : Bool) : Word := addFlags st x (~~~ y) cin

/-- The flags of a shift: Z and N from the result, C the last bit shifted out; C stays for an amount of 0 (R61). -/
def shiftFlags {n : Nat} (st : Word) (r : BitVec n) (amount : Nat) (out : Bool) : Word :=
  if amount = 0 then znFlags st r else setFlag (znFlags st r) 2 out

/-- The flags of a division: V says division by zero (R61). -/
def divFlags (st r : Word) (y : Word) : Word := setFlag (znFlags st r) 3 (y == 0)

/-- The flags of a fixed-point instruction: V says that the result saturated (R61). -/
def satFlags {n : Nat} (st : Word) (r : BitVec n) (clamped : Bool) : Word := setFlag (znFlags st r) 3 clamped

/-- The flags as Booleans. -/
def flagZ (st : Word) : Bool := st.getLsbD 0
def flagN (st : Word) : Bool := st.getLsbD 1
def flagC (st : Word) : Bool := st.getLsbD 2
def flagV (st : Word) : Bool := st.getLsbD 3
def flagT (st : Word) : Bool := st.getLsbD 4

/-- Whether the condition of BC holds on `st` (R76); nothing for an undefined condition. -/
def bcHolds (cond : Nat) (st : Word) : Option Bool :=
  let z := flagZ st; let n := flagN st; let c := flagC st; let v := flagV st; let t := flagT st
  match cond with
  | 0 => some z
  | 1 => some (!z)
  | 2 => some (!c)
  | 3 => some c
  | 4 => some (!c || z)
  | 5 => some (c && !z)
  | 6 => some (n != v)
  | 7 => some (n == v)
  | 8 => some (z || n != v)
  | 9 => some (!z && n == v)
  | 10 => some n
  | 11 => some (!n)
  | 12 => some v
  | 13 => some (!v)
  | 14 => some t
  | 15 => some (!t)
  | 16 => some true
  | _ => none

/-- Whether the test of BR holds on a register (R77); nothing for an undefined condition. -/
def brHolds (cond : Nat) (x : Word) : Option Bool :=
  match cond with
  | 0 => some (x.toInt == 0)
  | 1 => some (x.toInt != 0)
  | 2 => some (x.toInt < 0)
  | 3 => some (0 ≤ x.toInt)
  | 4 => some (0 < x.toInt)
  | 5 => some (x.toInt ≤ 0)
  | _ => none

end Sys2Proof.Machine
end

