-- ==== Sys2Proof/Machine/Arith.lean ====
section
/-!
DEFINITION. The integer, multiply and divide instructions (majors 0x00, 0x01 and the immediate majors; R59 to R63).
-/
namespace Sys2Proof.Machine

/-- A word instruction: the result of `f` goes to `d`, and its flags to `st` where `S` is 1. -/
def Op.aluW (c : CoreId) (d : RegNo) (uses : List RegNo) (S : Bool) (f : Core → Word × Word) : Op :=
  Op.issue c (d :: uses) fun _ => Op.finish c fun k =>
    let r := f k
    { k.wr d r.1 with st := if S then r.2 else k.st }

/-- An instruction whose result is a pair; `ps` are its pair fields beside `d`, `ws` its word fields. -/
def Op.aluP (c : CoreId) (d : RegNo) (ps ws : List RegNo) (S : Bool) (f : Core → DWord × Word) : Op :=
  Op.issue c (both d ++ ps.flatMap both ++ ws) fun _ => Op.pairs c (d :: ps) (Op.finish c fun k =>
    let r := f k
    { k.wrp d r.1 with st := if S then r.2 else k.st })

/-- An instruction that only sets flags. -/
def Op.flagsOnly (c : CoreId) (ps ws : List RegNo) (f : Core → Word) : Op :=
  Op.issue c (ps.flatMap both ++ ws) fun _ => Op.pairs c ps (Op.finish c fun k => { k with st := f k })

/-- ADD: wa + wb (R59). -/
def execAdd (c : CoreId) (d a b : RegNo) (S : Bool) (s : State) : Host.Outcome State Fault Refusal :=
  (Op.aluW c d [a, b] S fun k => let x := k.rd a; let y := k.rd b; let r : Word := x + y; (r, addFlags k.st x y false)).go s

/-- SUB: wa − wb (R59). -/
def execSub (c : CoreId) (d a b : RegNo) (S : Bool) (s : State) : Host.Outcome State Fault Refusal :=
  (Op.aluW c d [a, b] S fun k => let x := k.rd a; let y := k.rd b; let r : Word := x - y; (r, subFlags k.st x y true)).go s

/-- AND: wa and wb (R59). -/
def execAnd (c : CoreId) (d a b : RegNo) (S : Bool) (s : State) : Host.Outcome State Fault Refusal :=
  (Op.aluW c d [a, b] S fun k => let x := k.rd a; let y := k.rd b; let r : Word := x &&& y; (r, znFlags k.st r)).go s

/-- OR: wa or wb (R59). -/
def execOr (c : CoreId) (d a b : RegNo) (S : Bool) (s : State) : Host.Outcome State Fault Refusal :=
  (Op.aluW c d [a, b] S fun k => let x := k.rd a; let y := k.rd b; let r : Word := x ||| y; (r, znFlags k.st r)).go s

/-- XOR: wa xor wb (R59). -/
def execXor (c : CoreId) (d a b : RegNo) (S : Bool) (s : State) : Host.Outcome State Fault Refusal :=
  (Op.aluW c d [a, b] S fun k => let x := k.rd a; let y := k.rd b; let r : Word := x ^^^ y; (r, znFlags k.st r)).go s

/-- ANDN: wa and not wb (R59). -/
def execAndn (c : CoreId) (d a b : RegNo) (S : Bool) (s : State) : Host.Outcome State Fault Refusal :=
  (Op.aluW c d [a, b] S fun k => let x := k.rd a; let y := k.rd b; let r : Word := x &&& ~~~ y; (r, znFlags k.st r)).go s

/-- SLT: 1 if wa is less than wb, signed (R59). -/
def execSlt (c : CoreId) (d a b : RegNo) (S : Bool) (s : State) : Host.Outcome State Fault Refusal :=
  (Op.aluW c d [a, b] S fun k => let x := k.rd a; let y := k.rd b; let r : Word := boolW (x.slt y); (r, znFlags k.st r)).go s

/-- SLTU: 1 if wa is less than wb, unsigned (R59). -/
def execSltu (c : CoreId) (d a b : RegNo) (S : Bool) (s : State) : Host.Outcome State Fault Refusal :=
  (Op.aluW c d [a, b] S fun k => let x := k.rd a; let y := k.rd b; let r : Word := boolW (x.ult y); (r, znFlags k.st r)).go s

/-- SLL: wa shifted left by wb[4:0] (R59). -/
def execSll (c : CoreId) (d a b : RegNo) (S : Bool) (s : State) : Host.Outcome State Fault Refusal :=
  (Op.aluW c d [a, b] S fun k => let x := k.rd a; let n := (k.rd b).toNat % 32; let r : Word := x <<< n; (r, shiftFlags k.st r n (x.getLsbD (32 - n)))).go s

/-- SRL: wa shifted right, zero fill by wb[4:0] (R59). -/
def execSrl (c : CoreId) (d a b : RegNo) (S : Bool) (s : State) : Host.Outcome State Fault Refusal :=
  (Op.aluW c d [a, b] S fun k => let x := k.rd a; let n := (k.rd b).toNat % 32; let r : Word := x >>> n; (r, shiftFlags k.st r n (x.getLsbD (n - 1)))).go s

/-- SRA: wa shifted right, sign fill by wb[4:0] (R59). -/
def execSra (c : CoreId) (d a b : RegNo) (S : Bool) (s : State) : Host.Outcome State Fault Refusal :=
  (Op.aluW c d [a, b] S fun k => let x := k.rd a; let n := (k.rd b).toNat % 32; let r : Word := x.sshiftRight n; (r, shiftFlags k.st r n (x.getLsbD (n - 1)))).go s

/-- SLLI: wa shifted left by the b field (R59). -/
def execSlli (c : CoreId) (d a : RegNo) (n : Fin 32) (S : Bool) (s : State) : Host.Outcome State Fault Refusal :=
  (Op.aluW c d [a] S fun k => let x := k.rd a; let r : Word := x <<< n.val; (r, shiftFlags k.st r n.val (x.getLsbD (32 - n.val)))).go s

/-- SRLI: wa shifted right, zero fill, by the b field (R59). -/
def execSrli (c : CoreId) (d a : RegNo) (n : Fin 32) (S : Bool) (s : State) : Host.Outcome State Fault Refusal :=
  (Op.aluW c d [a] S fun k => let x := k.rd a; let r : Word := x >>> n.val; (r, shiftFlags k.st r n.val (x.getLsbD (n.val - 1)))).go s

/-- SRAI: wa shifted right, sign fill, by the b field (R59). -/
def execSrai (c : CoreId) (d a : RegNo) (n : Fin 32) (S : Bool) (s : State) : Host.Outcome State Fault Refusal :=
  (Op.aluW c d [a] S fun k => let x := k.rd a; let r : Word := x.sshiftRight n.val; (r, shiftFlags k.st r n.val (x.getLsbD (n.val - 1)))).go s

/-- ROR: wa rotated right by wb[4:0] (R59). -/
def execRor (c : CoreId) (d a b : RegNo) (S : Bool) (s : State) : Host.Outcome State Fault Refusal :=
  (Op.aluW c d [a, b] S fun k => let x := k.rd a; let n := (k.rd b).toNat % 32; let r : Word := x.rotateRight n; (r, shiftFlags k.st r n (x.getLsbD (n - 1)))).go s

/-- RORI: wa rotated right by the b field (R59). -/
def execRori (c : CoreId) (d a : RegNo) (n : Fin 32) (S : Bool) (s : State) : Host.Outcome State Fault Refusal :=
  (Op.aluW c d [a] S fun k => let x := k.rd a; let r : Word := x.rotateRight n.val; (r, shiftFlags k.st r n.val (x.getLsbD (n.val - 1)))).go s

/-- CLZ: the count of leading zeros of wa (R59). -/
def execClz (c : CoreId) (d a : RegNo) (S : Bool) (s : State) : Host.Outcome State Fault Refusal :=
  (Op.aluW c d [a] S fun k => let x := k.rd a; let r : Word := BitVec.ofNat 32 (clz x); (r, znFlags k.st r)).go s

/-- POPC: the count of ones in wa (R59). -/
def execPopc (c : CoreId) (d a : RegNo) (S : Bool) (s : State) : Host.Outcome State Fault Refusal :=
  (Op.aluW c d [a] S fun k => let x := k.rd a; let r : Word := BitVec.ofNat 32 (popc x); (r, znFlags k.st r)).go s

/-- REV: wa with its bytes reversed (R59). -/
def execRev (c : CoreId) (d a : RegNo) (S : Bool) (s : State) : Host.Outcome State Fault Refusal :=
  (Op.aluW c d [a] S fun k => let x := k.rd a; let r : Word := rev x; (r, znFlags k.st r)).go s

/-- MIN: the smaller, signed (R59). -/
def execMin (c : CoreId) (d a b : RegNo) (S : Bool) (s : State) : Host.Outcome State Fault Refusal :=
  (Op.aluW c d [a, b] S fun k => let x := k.rd a; let y := k.rd b; let r : Word := if x.slt y then x else y; (r, znFlags k.st r)).go s

/-- MAX: the larger, signed (R59). -/
def execMax (c : CoreId) (d a b : RegNo) (S : Bool) (s : State) : Host.Outcome State Fault Refusal :=
  (Op.aluW c d [a, b] S fun k => let x := k.rd a; let y := k.rd b; let r : Word := if x.slt y then y else x; (r, znFlags k.st r)).go s

/-- MINU: the smaller, unsigned (R59). -/
def execMinu (c : CoreId) (d a b : RegNo) (S : Bool) (s : State) : Host.Outcome State Fault Refusal :=
  (Op.aluW c d [a, b] S fun k => let x := k.rd a; let y := k.rd b; let r : Word := if x.ult y then x else y; (r, znFlags k.st r)).go s

/-- MAXU: the larger, unsigned (R59). -/
def execMaxu (c : CoreId) (d a b : RegNo) (S : Bool) (s : State) : Host.Outcome State Fault Refusal :=
  (Op.aluW c d [a, b] S fun k => let x := k.rd a; let y := k.rd b; let r : Word := if x.ult y then y else x; (r, znFlags k.st r)).go s

/-- ADDC: wa + wb + C (R59). -/
def execAddc (c : CoreId) (d a b : RegNo) (S : Bool) (s : State) : Host.Outcome State Fault Refusal :=
  (Op.aluW c d [a, b] S fun k => let x := k.rd a; let y := k.rd b; let r : Word := x + y + boolW (flagC k.st); (r, addFlags k.st x y (flagC k.st))).go s

/-- SUBC: wa − wb − (1 − C) (R59). -/
def execSubc (c : CoreId) (d a b : RegNo) (S : Bool) (s : State) : Host.Outcome State Fault Refusal :=
  (Op.aluW c d [a, b] S fun k => let x := k.rd a; let y := k.rd b; let r : Word := x - y - boolW (!(flagC k.st)); (r, subFlags k.st x y (flagC k.st))).go s

/-- ADDP: pa + pb, 64-bit (R59). -/
def execAddp (c : CoreId) (d a b : RegNo) (S : Bool) (s : State) : Host.Outcome State Fault Refusal :=
  (Op.aluP c d [a, b] [] S fun k => let x := k.rdp a; let y := k.rdp b; (x + y, addFlags k.st x y false)).go s

/-- SUBP: pa − pb, 64-bit (R59). -/
def execSubp (c : CoreId) (d a b : RegNo) (S : Bool) (s : State) : Host.Outcome State Fault Refusal :=
  (Op.aluP c d [a, b] [] S fun k => let x := k.rdp a; let y := k.rdp b; (x - y, subFlags k.st x y true)).go s

/-- SLLP: pa shifted left by wb[5:0] (R59). -/
def execSllp (c : CoreId) (d a b : RegNo) (S : Bool) (s : State) : Host.Outcome State Fault Refusal :=
  (Op.aluP c d [a] [b] S fun k => let x := k.rdp a; let n := (k.rd b).toNat % 64; let r : DWord := x <<< n; (r, shiftFlags k.st r n (x.getLsbD (64 - n)))).go s

/-- SRLP: pa shifted right, zero fill, by wb[5:0] (R59). -/
def execSrlp (c : CoreId) (d a b : RegNo) (S : Bool) (s : State) : Host.Outcome State Fault Refusal :=
  (Op.aluP c d [a] [b] S fun k => let x := k.rdp a; let n := (k.rd b).toNat % 64; let r : DWord := x >>> n; (r, shiftFlags k.st r n (x.getLsbD (n - 1)))).go s

/-- SRAP: pa shifted right, sign fill, by wb[5:0] (R59). -/
def execSrap (c : CoreId) (d a b : RegNo) (S : Bool) (s : State) : Host.Outcome State Fault Refusal :=
  (Op.aluP c d [a] [b] S fun k => let x := k.rdp a; let n := (k.rd b).toNat % 64; let r : DWord := x.sshiftRight n; (r, shiftFlags k.st r n (x.getLsbD (n - 1)))).go s

/-- MOVP: copies pa (R59). -/
def execMovp (c : CoreId) (d a : RegNo) (S : Bool) (s : State) : Host.Outcome State Fault Refusal :=
  (Op.aluP c d [a] [] S fun k => (k.rdp a, znFlags k.st (k.rdp a))).go s

/-- CMPP: the flags of pa − pb (R59). -/
def execCmpp (c : CoreId) (a b : RegNo) (s : State) : Host.Outcome State Fault Refusal :=
  (Op.flagsOnly c [a, b] [] fun k => subFlags k.st (k.rdp a) (k.rdp b) true).go s

/-- MUL: bits [31:0] of wa × wb (R62). -/
def execMul (c : CoreId) (d a b : RegNo) (S : Bool) (s : State) : Host.Outcome State Fault Refusal :=
  (Op.aluW c d [a, b] S fun k => let x := k.rd a; let y := k.rd b; let r : Word := x * y; (r, znFlags k.st r)).go s

/-- MULH: bits [63:32] of the signed product (R62). -/
def execMulh (c : CoreId) (d a b : RegNo) (S : Bool) (s : State) : Host.Outcome State Fault Refusal :=
  (Op.aluW c d [a, b] S fun k => let x := k.rd a; let y := k.rd b; let r : Word := BitVec.ofInt 32 (prodS x y / 2 ^ 32); (r, znFlags k.st r)).go s

/-- MULHU: bits [63:32] of the unsigned product (R62). -/
def execMulhu (c : CoreId) (d a b : RegNo) (S : Bool) (s : State) : Host.Outcome State Fault Refusal :=
  (Op.aluW c d [a, b] S fun k => let x := k.rd a; let y := k.rd b; let r : Word := BitVec.ofNat 32 (prodU x y / 2 ^ 32); (r, znFlags k.st r)).go s

/-- MULW: the signed 64-bit product (R62). -/
def execMulw (c : CoreId) (d a b : RegNo) (S : Bool) (s : State) : Host.Outcome State Fault Refusal :=
  (Op.aluP c d [] [a, b] S fun k => let x := k.rd a; let y := k.rd b; let r : DWord := BitVec.ofInt 64 (prodS x y); (r, znFlags k.st r)).go s

/-- MULWU: the unsigned 64-bit product (R62). -/
def execMulwu (c : CoreId) (d a b : RegNo) (S : Bool) (s : State) : Host.Outcome State Fault Refusal :=
  (Op.aluP c d [] [a, b] S fun k => let x := k.rd a; let y := k.rd b; let r : DWord := BitVec.ofNat 64 (prodU x y); (r, znFlags k.st r)).go s

/-- MAC: adds the signed product to pd, wrapping (R62). -/
def execMac (c : CoreId) (d a b : RegNo) (S : Bool) (s : State) : Host.Outcome State Fault Refusal :=
  (Op.aluP c d [] [a, b] S fun k => let x := k.rd a; let y := k.rd b; let r : DWord := k.rdp d + BitVec.ofInt 64 (prodS x y); (r, znFlags k.st r)).go s

/-- MACU: adds the unsigned product to pd, wrapping (R62). -/
def execMacu (c : CoreId) (d a b : RegNo) (S : Bool) (s : State) : Host.Outcome State Fault Refusal :=
  (Op.aluP c d [] [a, b] S fun k => let x := k.rd a; let y := k.rd b; let r : DWord := k.rdp d + BitVec.ofNat 64 (prodU x y); (r, znFlags k.st r)).go s

/-- DIV: signed division, truncated toward zero (R62, R63). -/
def execDiv (c : CoreId) (d a b : RegNo) (S : Bool) (s : State) : Host.Outcome State Fault Refusal :=
  (Op.aluW c d [a, b] S fun k => let x := k.rd a; let y := k.rd b; let r : Word := divS x y; (r, divFlags k.st r y)).go s

/-- DIVU: unsigned division (R62, R63). -/
def execDivu (c : CoreId) (d a b : RegNo) (S : Bool) (s : State) : Host.Outcome State Fault Refusal :=
  (Op.aluW c d [a, b] S fun k => let x := k.rd a; let y := k.rd b; let r : Word := divU x y; (r, divFlags k.st r y)).go s

/-- REM: signed remainder (R62, R63). -/
def execRem (c : CoreId) (d a b : RegNo) (S : Bool) (s : State) : Host.Outcome State Fault Refusal :=
  (Op.aluW c d [a, b] S fun k => let x := k.rd a; let y := k.rd b; let r : Word := remS x y; (r, divFlags k.st r y)).go s

/-- REMU: unsigned remainder (R62, R63). -/
def execRemu (c : CoreId) (d a b : RegNo) (S : Bool) (s : State) : Host.Outcome State Fault Refusal :=
  (Op.aluW c d [a, b] S fun k => let x := k.rd a; let y := k.rd b; let r : Word := remU x y; (r, divFlags k.st r y)).go s

/-- ADDI: wa + sext(imm) (R60). -/
def execAddi (c : CoreId) (d a : RegNo) (imm : BitVec 16) (s : State) : Host.Outcome State Fault Refusal :=
  (Op.aluW c d [a] false fun k => let x := k.rd a; (x + sextW imm, k.st)).go s

/-- ANDI: wa and zext(imm) (R60). -/
def execAndi (c : CoreId) (d a : RegNo) (imm : BitVec 16) (s : State) : Host.Outcome State Fault Refusal :=
  (Op.aluW c d [a] false fun k => let x := k.rd a; (x &&& zextW imm, k.st)).go s

/-- ORI: wa or zext(imm) (R60). -/
def execOri (c : CoreId) (d a : RegNo) (imm : BitVec 16) (s : State) : Host.Outcome State Fault Refusal :=
  (Op.aluW c d [a] false fun k => let x := k.rd a; (x ||| zextW imm, k.st)).go s

/-- XORI: wa xor zext(imm) (R60). -/
def execXori (c : CoreId) (d a : RegNo) (imm : BitVec 16) (s : State) : Host.Outcome State Fault Refusal :=
  (Op.aluW c d [a] false fun k => let x := k.rd a; (x ^^^ zextW imm, k.st)).go s

/-- SLTI: 1 if wa is less than sext(imm), signed (R60). -/
def execSlti (c : CoreId) (d a : RegNo) (imm : BitVec 16) (s : State) : Host.Outcome State Fault Refusal :=
  (Op.aluW c d [a] false fun k => let x := k.rd a; (boolW (x.slt (sextW imm)), k.st)).go s

/-- SLTIU: 1 if wa is less than zext(imm), unsigned (R60). -/
def execSltiu (c : CoreId) (d a : RegNo) (imm : BitVec 16) (s : State) : Host.Outcome State Fault Refusal :=
  (Op.aluW c d [a] false fun k => let x := k.rd a; (boolW (x.ult (zextW imm)), k.st)).go s

/-- LHI: imm shifted left 16 (R60). -/
def execLhi (c : CoreId) (d : RegNo) (imm : BitVec 16) (s : State) : Host.Outcome State Fault Refusal :=
  (Op.aluW c d [] false fun k => (zextW imm <<< 16, k.st)).go s

/-- CMPI: the flags of wa − sext(imm) (R60). -/
def execCmpi (c : CoreId) (a : RegNo) (imm : BitVec 16) (s : State) : Host.Outcome State Fault Refusal :=
  (Op.flagsOnly c [] [a] fun k => subFlags k.st (k.rd a) (sextW imm) true).go s

/-- LI: sext(imm), 21 bits (R60). -/
def execLi (c : CoreId) (d : RegNo) (imm : BitVec 21) (s : State) : Host.Outcome State Fault Refusal :=
  (Op.aluW c d [] false fun k => (sextW imm, k.st)).go s

/-- ADDIS: wa + sext(imm), flags set (R60). -/
def execAddis (c : CoreId) (d a : RegNo) (imm : BitVec 16) (s : State) : Host.Outcome State Fault Refusal :=
  (Op.aluW c d [a] true fun k => let x := k.rd a; (x + sextW imm, addFlags k.st x (sextW imm) false)).go s

end Sys2Proof.Machine
end

