-- ==== Sys2Proof/Machine/Bon.lean ====
section
/-!
DEFINITION. The Bonnet domain (spec/16): the real-time clock and its shadow, alarms, the commit store.
-/
namespace Sys2Proof.Machine

def Op.bon (f : Bon → Bon) : Op := Op.blk fun b => { b with bon := f b.bon }

def Op.clk (f : Clock → Clock) : Op := Op.blk fun b => { b with clk := f b.clk }

/-! ### Events (R492) -/

def bonEvt : EvtCfg := ⟨F.BON_CFG_RILL, some F.BON_CFG_EN, A.BON_EVT_LOST, some 8⟩

/-- Posts an event: kind, alarm or input, `LATE`. It waits while `RUN` reads 0, and also while `EN` does: the loss of time is reported
although it leaves `EN` at its reset value (log entry 38). -/
def Op.bonEvent (kind who : Nat) (late : Bool) : Op := Op.get fun s =>
  let v : DWord := BitVec.ofNat 64 (kind + who * 2 ^ 8 + bit01 late * 2 ^ 16)
  if s.bit F.BON_CTRL_RUN && s.bit F.BON_CFG_EN then Op.postEvent .bon bonEvt v else Op.enqueueEvent .bon bonEvt v

/-! ### The real-time clock (R477 to R479) -/

/-- The present RTC value in pulses. -/
def State.rtc (s : State) : Nat := s.blk.clk.rtc

/-- Pulses of a span of ns, truncated. -/
def pulsesOf (ns : Nat) : Nat := ns * 32768 / 1000000000

/-- The instant of an alarm in pulses. -/
def State.alarmAt (s : State) (a : Nat) : Nat :=
  (s.fld (F.BON_ALARM_SEC_HI_VALUE a) * 2 ^ 32 + s.fld (F.BON_ALARM_SEC_LO_VALUE a)) * 32768 + s.fld (F.BON_ALARM_SUB_VALUE a)

/-- An RTC adjustment to a new value (R478): an armed, unfired alarm whose instant it passes will fire late (R480, R481). -/
def Op.rtcAdjust (new : Nat) : Op := Op.get fun s =>
  let old := s.rtc
  let v := new % 2 ^ 63
  let mark (a : Nat) : Bool :=
    if v < s.alarmAt a then false
    else s.blk.bon.late.getLsbD a
      || (s.bit (F.BON_ALARM_CTL_EN a) && !(s.bit (F.BON_ALARM_CTL_FIRED a)) && old < s.alarmAt a)
  (Op.clk fun c => { c with rtc := v }).andThen
    (Op.bon fun b => { b with late := BitVec.ofNat 4 ((List.range 4).foldl (fun n a => n + bit01 (mark a) * 2 ^ a) 0) })

/-- A followed step of the time base, rounded to the nearest pulse (R478). -/
def Op.rtcFollow (z : Int) : Op := Op.get fun s =>
  Op.when (s.bit F.BON_CFG_FOLLOW)
    (Op.rtcAdjust (max 0 ((s.rtc : Int) + (z * 32768 + 500000000) / 1000000000)).toNat)

/-- The RTC counts a pulse, with the trim's corrections as they fall due (R479). -/
def Op.rtcCount : Op :=
  (Op.get fun s =>
    let t := s.blk.bon.trim + signedOf 12 (s.fld F.BON_TRIM_STEPS) * 1024
    let d : Nat × Int := if 2 ^ 35 ≤ t then (2, t - 2 ^ 35) else if t ≤ -(2 ^ 35) then (0, t + 2 ^ 35) else (1, t)
    (Op.clk fun c => { c with rtc := (c.rtc + d.1) % 2 ^ 63, pulses := c.pulses + 1 }).andThen
      (Op.bon fun b => { b with trim := d.2 }))

/-- The command that waits takes effect on a pulse edge, after the RTC has counted: the adjustment is from what the RTC would otherwise
have shown (R478). The time base may have been lost since `SYNC` was accepted; the command is refused then too. -/
def Op.rtcEdge : Op := Op.get fun s =>
  let load (v : Nat) : Op := (Op.rtcAdjust v).andThen (Op.set F.BON_STAT_TIME_LOST 0)
  match s.blk.bon.due with
  | none => Op.skip
  | some k => (Op.bon fun b => { b with due := none }).andThen
      (match k with
       | .set => load ((s.fld F.BON_RTC_SET_HI_VALUE * 2 ^ 32 + s.fld F.BON_RTC_SET_LO_VALUE) * 32768 + s.fld F.BON_RTC_SET_SUB_VALUE)
       | .sync => if s.timeSet then load (pulsesOf s.now) else Op.set F.BON_ERR_CMDREF 1)

/-- VBAT is measured every second and VIN every millisecond; the values are free (R494, R515, log entry 18). -/
def Op.monitors : Op := Op.get fun s =>
  let ms (p : Nat) : Nat := p * 1000 / 32768
  (Op.when (s.pulses % 32768 == 0) (Op.draw fun n => Op.set F.BON_VBAT_MV ((Config.freeDword n).toNat % 2 ^ 13))).andThen
    (Op.when (s.powered .sys && ms s.pulses != ms (s.pulses - 1)) (Op.draw fun n => Op.set F.SYS_MON_VIN ((Config.freeDword n).toNat % 2 ^ 13)))

/-- One pulse of the crystal. -/
def Op.pulse : Op := Op.all [Op.rtcCount, Op.rtcEdge, Op.monitors]

/-- The first read of an RTC register copies the RTC into the shadow. -/
def Op.freeze : Op := Op.get fun s =>
  Op.when (s.blk.bon.freeze.isNone)
    (Op.all
      [ Op.bon fun b => { b with freeze := some (s.rtc, s.blk.clk.pulses) },
        Op.set F.BON_STAT_FROZEN 1,
        Op.setReg A.BON_RTC_SEC_LO (natBits (s.rtc / 32768) 0 32),
        Op.setReg A.BON_RTC_SEC_HI (natBits (s.rtc / 32768) 32 16),
        Op.setReg A.BON_RTC_SUB (s.rtc % 32768) ])

/-- What a read of `BON_RTC_RELEASE` returns. -/
def State.sinceFreeze (s : State) : Nat :=
  match s.blk.bon.freeze with
  | some (_, p) => min (s.blk.clk.pulses - p) (2 ^ 32 - 1)
  | none => 0

/-- A read of `BON_RTC_RELEASE` ends the freeze. -/
def Op.unfreeze : Op := (Op.bon fun b => { b with freeze := none }).andThen (Op.set F.BON_STAT_FROZEN 0)

/-- A read of one of the three RTC registers. -/
def execRtcShadowRead (s : State) : Host.Outcome State Fault Refusal := (Op.on .bon Op.freeze).go s

/-- A read of `BON_RTC_RELEASE`. -/
def execRtcRelease (s : State) : Host.Outcome State Fault Refusal := (Op.on .bon Op.unfreeze).go s

/-- `SET` of `BON_CMD`: it waits for the next pulse edge. -/
def Op.rtcSet : Op := Op.bon fun b => { b with due := some .set }

/-- `SYNC` of `BON_CMD`: it is refused while the time base is not set, else it waits for the next pulse edge. -/
def Op.rtcSync : Op := Op.get fun s =>
  if s.timeSet then Op.bon fun b => { b with due := some .sync } else Op.set F.BON_ERR_CMDREF 1

def execRtcSet (s : State) : Host.Outcome State Fault Refusal := (Op.on .bon Op.rtcSet).go s
def execRtcSync (s : State) : Host.Outcome State Fault Refusal := (Op.on .bon Op.rtcSync).go s

/-- A write of `BON_TRIM`: −2,048 is written as −2,047, and the window restarts. -/
def Op.trimWrite (v : Word) : Op :=
  (Op.set F.BON_TRIM_STEPS (if natBits v.toNat 0 12 = 2048 then 2049 else natBits v.toNat 0 12)).andThen
    (Op.bon fun b => { b with trim := 0 })

def execTrimWrite (v : Word) (s : State) : Host.Outcome State Fault Refusal := (Op.on .bon (Op.trimWrite v)).go s

/-! ### Alarms (R480, R481) -/

/-- A write to one of the four registers of an alarm: 0 `SEC_LO`, 1 `SEC_HI`, 2 `SUB`, 3 `CTL`. It clears `FIRED` and `LATE`; an
instant that is already past will fire late. -/
def Op.alarmWrite (a r : Nat) (v : Word) : Op :=
  Op.all
    [ match r with
      | 0 => Op.putReg (A.BON_ALARM_SEC_LO a) v
      | 1 => Op.putReg (A.BON_ALARM_SEC_HI a) v
      | 2 => Op.putReg (A.BON_ALARM_SUB a) v
      | _ => Op.putReg (A.BON_ALARM_CTL a) (v &&& 3),
      Op.set (F.BON_ALARM_CTL_FIRED a) 0,
      Op.set (F.BON_ALARM_CTL_LATE a) 0,
      Op.get fun s => Op.bon fun b =>
        let m : BitVec 4 := BitVec.twoPow 4 a
        { b with late := if s.alarmAt a < s.rtc then b.late ||| m else b.late &&& ~~~ m } ]

def execAlarmWrite (a : Fin 4) (r : Fin 4) (v : Word) (s : State) : Host.Outcome State Fault Refusal :=
  (Op.on .bon (Op.alarmWrite a.val r.val v)).go s

/-- The power manager is asked to wake the module from standby (R508). -/
def Op.wakeUp : Op := Op.blk fun b => { b with pwr := { b.pwr with wake := b.pwr.wake || b.pwr.standby } }

/-- An armed alarm whose instant the RTC has reached fires. -/
def Op.alarmFire (a : Nat) : Op := Op.get fun s =>
  let late := s.blk.bon.late.getLsbD a
  Op.when (s.bit (F.BON_ALARM_CTL_EN a) && !(s.bit (F.BON_ALARM_CTL_FIRED a)) && s.alarmAt a ≤ s.rtc)
    (Op.all
      [ Op.set (F.BON_ALARM_CTL_FIRED a) 1,
        Op.set (F.BON_ALARM_CTL_LATE a) (bit01 late),
        Op.bonEvent 1 a late,
        Op.when (s.bit (F.BON_ALARM_CTL_WAKE a)) Op.wakeUp ])

/-- Whether two alarms are due at the same pulse: at one instant, or both at the pulse after an adjustment (R481). -/
def State.sameDue (s : State) (a b : Nat) : Bool :=
  let late (i : Nat) := s.blk.bon.late.getLsbD i
  late a == late b && (late a || s.alarmAt a == s.alarmAt b)

/-- ALARM_FIRE: the alarms of lower number that are due at the same pulse fire before it, so that events come in alarm order (R481). -/
def execAlarmFire (a : Fin 4) (s : State) : Host.Outcome State Fault Refusal :=
  (Op.on .bon (Op.get fun s =>
    Op.each ((List.range a.val).filter (s.sameDue a.val) ++ [a.val]) Op.alarmFire)).go s

/-! ### The commit store (R484 to R486) -/

/-- The word at an offset of the commit store, as it stands there without errors; the reserved area reads zero. -/
def State.csWord (s : State) (o : Nat) : Word := if 0x500 ≤ o ∧ o < 0x600 then 0 else s.store.w32 (csKey o)

/-- A read of one word: a single-bit error is corrected and counted; the continuation gets nothing where the word cannot be
corrected (R486). Three or more bits in error have one of the outcomes of R451 (log entry 2). -/
def Op.csRead (o : Nat) (k : Option Word → Op) : Op := Op.get fun s =>
  let lost := Op.all [ Op.set F.BON_ERR_CSUE 1, Op.log 0x0010 19 o (5 + 19 * 2 ^ 8), k none ]
  match weight (s.errAt (csKey o)) with
  | 0 => k (some (s.csWord o))
  | 1 => (Op.inc A.BON_CS_CE).andThen (k (some (s.csWord o)))
  | 2 => lost
  | _ => Op.draw fun n =>
    match Config.eccOutcome n with
    | 0 => (Op.inc A.BON_CS_CE).andThen (k (some (loWord (Config.eccData n))))
    | 1 => lost
    | 2 => k (some (loWord (Config.eccData n)))

/-- Writes one word durably (R485). -/
def Op.csPut (o : Nat) (v : Word) : Op := (Op.putBytes (csKey o) (leBytes 4 v.toNat)).andThen (Op.putErr (csKey o) 0)

/-- A write of one word by UPD, OXB or the window: while a commit runs it waits until that ends. -/
def Op.csWrite (o : Nat) (v : Word) : Op := Op.get fun s =>
  if s.bit F.BON_STAT_COMMIT_BUSY then Op.bon fun b => { b with waits := b.waits ++ [(o, v)] } else Op.csPut o v

/-- Writes bytes word by word. -/
def Op.csWriteBytes (o : Nat) (bs : List Byte) : Op :=
  Op.each (List.range (bs.length / 4)) fun i => Op.csWrite (o + 4 * i) (BitVec.ofNat 32 (leNat ((bs.drop (4 * i)).take 4)))

/-- The bytes of the store from an offset, as its owner reads them; nothing where a word cannot be corrected. -/
def State.csBytes (s : State) (o n : Nat) : Option (List Byte) :=
  if (List.range ((n + 3) / 4)).any fun i => 2 ≤ weight (s.errAt (csKey (o + 4 * i))) then none
  else some (s.store.bytes (csKey o) n)

/-- An owner's read of its area: each corrected word counts (R486). -/
def Op.csOwner (o n : Nat) (k : Option (List Byte) → Op) : Op := Op.get fun s =>
  (Op.count A.BON_CS_CE ((List.range ((n + 3) / 4)).countP fun i => weight (s.errAt (csKey (o + 4 * i))) == 1)).andThen
    (k (s.csBytes o n))

/-- A write through the window: only the firmware area may be written. No rule gives the record of a refused one its kind and words (log
entry 4). -/
def Op.csWindow (w : Nat) (v : Word) : Op :=
  if 4 * w < 0x600 then
    (Op.set F.BON_ERR_CSPROT 1).andThen (Op.draw fun i => Op.draw fun j => Op.draw fun k =>
      Op.log ((Config.freeDword i).toNat % 2 ^ 16) Block.bon.num (Config.freeDword j).toNat (Config.freeDword k).toNat)
  else Op.csWrite (4 * w) v

def execCsWindowWrite (w : Fin 1024) (v : Word) (s : State) : Host.Outcome State Fault Refusal :=
  (Op.on .bon (Op.csWindow w.val v)).go s

/-! ### Start and loss of the rail -/

/-- The cause for which `RUN` is refused (R492). -/
def State.bonCause (s : State) : Nat := if !(s.bit F.BON_CFG_EN) || s.rillUsable (s.fld F.BON_CFG_RILL) then 0 else 1

/-- What the loss of the Bonnet rail leaves (R476): the RTC from 0, alarms, trim, tamper and backup SRAM at their reset values.
The whole register block has them: the commit store and nothing else is kept. -/
def Op.bonReset : Op :=
  Op.all
    [ Op.dropRegs Block.bon.base (Block.bon.base + 0x10000), Op.bon fun _ => Bon.reset, Op.dropEvq .bon,
      Op.clk fun c => { c with rtc := 0, pulses := 0, frac := 0 } ]

end Sys2Proof.Machine
end

