-- ==== Sys2Proof/Machine/Branch.lean ====
section
/-!
DEFINITION. Branches and jumps (R75 to R78).
-/
namespace Sys2Proof.Machine

/-- Whether R32 lets instructions be fetched from a region; an address outside every region fails at the fetch itself (R30). -/
def fetchable (r : Region) : Bool :=
  match r with
  | .localI | .rom | .nor | .none => true
  | _ => false

/-- A jump (R78): the link is written only where the target can be fetched. -/
def Op.jump (c : CoreId) (target : Word) (link : Option RegNo) : Op :=
  if target.toNat % 4 ≠ 0 || !(fetchable (regionOf target.toNat)) then Op.raise c 0x03 0 target
  else Op.core c fun k =>
    (match link with | some d => k.wr d (k.pc + 4) | none => k).retire k.budgeted target

/-- A conditional branch: ILLEGAL with reason 5 for an undefined condition. R78 bears on BC and BR too: a taken branch is a jump of that
rule (log entry 47). -/
def Op.branch (c : CoreId) (k : Core) (holds : Option Bool) (off : BitVec 16) : Op :=
  match holds with
  | none => Op.illegal c 5
  | some true => Op.jump c (branchTarget k.pc off) none
  | some false => Op.core c fun q => q.retire q.budgeted (k.pc + 4)

/-- BC: branches where the condition holds on `st` (R75, R76). -/
def execBc (c : CoreId) (cond : BitVec 5) (off : BitVec 16) (s : State) : Host.Outcome State Fault Refusal :=
  (Op.issue c [] fun k => Op.branch c k (bcHolds cond.toNat k.st) off).go s

/-- BR: branches where the signed test of wa holds (R75, R77). -/
def execBr (c : CoreId) (cond : BitVec 5) (a : RegNo) (off : BitVec 16) (s : State) : Host.Outcome State Fault Refusal :=
  (Op.issue c [a] fun k => Op.branch c k (brHolds cond.toNat (k.rd a)) off).go s

/-- J: jumps to target26 × 4. -/
def execJ (c : CoreId) (t : BitVec 26) (s : State) : Host.Outcome State Fault Refusal :=
  (Op.issue c [] fun _ => Op.jump c (jumpTarget t) none).go s

/-- JAL: jumps, with the link in w1. -/
def execJal (c : CoreId) (t : BitVec 26) (s : State) : Host.Outcome State Fault Refusal :=
  (Op.issue c [1] fun _ => Op.jump c (jumpTarget t) (some 1)).go s

/-- JR: jumps to wa. -/
def execJr (c : CoreId) (a : RegNo) (s : State) : Host.Outcome State Fault Refusal :=
  (Op.issue c [a] fun k => Op.jump c (k.rd a) none).go s

/-- JALR: jumps to wa, with the link in wd. -/
def execJalr (c : CoreId) (d a : RegNo) (s : State) : Host.Outcome State Fault Refusal :=
  (Op.issue c [d, a] fun k => Op.jump c (k.rd a) (some d)).go s

end Sys2Proof.Machine
end

