-- ==== Sys2Proof/Machine/Can.lean ====
section
/-!
DEFINITION. The cabinet bus controller CAN (spec/10): entries, transmission, filters, error confinement. What happens on the
bus arrives as commands; the stuff bits and the bit timer below them are not held.
-/
namespace Sys2Proof.Machine

def Op.can (f : Can → Can) : Op := Op.blk fun b => { b with can := f b.can }

/-! ### Items (R337, R341, R346) -/

/-- The rill field of an item kind, and the counter of its lost items. -/
def canRill : Nat → Fld × Nat
  | 0 => (F.CAN_RILLS_RX, A.CAN_RILL_LOST)
  | 1 => (F.CAN_RILLS_TXDONE, A.CAN_RILL_LOST)
  | _ => (F.CAN_RILLS_EVT, A.CAN_EVT_LOST)

/-- Pushes an item into the rill of its kind; one that finds no room is lost and counts, one that must wait (R156) stands in
line. -/
def Op.canPush (k : Nat) (v : DWord) : Op := Op.get fun s =>
  if s.blk.can.items.any (·.1 == k) then Op.can fun c => { c with items := c.items ++ [(k, v)] }
  else Op.hwPush (rillNo (s.fld (canRill k).1)) v fun
    | .ok => Op.skip
    | .stopped => Op.can fun c => { c with items := c.items ++ [(k, v)] }
    | .busy => Op.can fun c => { c with items := c.items ++ [(k, v)] }
    | _ => Op.inc (canRill k).2

/-- The oldest item that waits for the rill of a kind is tried again. -/
def Op.canRetry (k : Nat) : Op := Op.get fun s =>
  match s.blk.can.items.find? (·.1 == k) with
  | none => Op.skip
  | some e =>
    let pop := (Op.can fun c => { c with items := c.items.erase e }).andThen
    Op.hwPush (rillNo (s.fld (canRill k).1)) e.2 fun
      | .ok => pop Op.skip
      | .stopped => Op.skip
      | .busy => Op.skip
      | _ => pop (Op.inc (canRill k).2)

/-- What EVENT_QUEUE_DRAIN does for CAN. -/
def Op.canDrain : Op := Op.all [Op.canRetry 0, Op.canRetry 1, Op.canRetry 2]

/-- An event item (R346), with the counters as they stand; kinds 3 and 4 are logged in every case. -/
def Op.canEvent (kind : Nat) : Op := Op.get fun s =>
  let v := BitVec.ofNat 64 (kind + s.fld F.CAN_ECNT_TEC * 2 ^ 8 + s.fld F.CAN_ECNT_REC * 2 ^ 24)
  (Op.when (kind == 3 || kind == 4) (Op.log 0x0022 Block.can.num 0 v.toNat)).andThen (Op.canPush 2 v)

/-! ### Entries (R335, R336) -/

/-- Keys of transmit entry `e` and receive entry `e` in the block's SRAM. -/
def txEntry (e : Nat) : Nat := canKey (0x1000 + 0x50 * e)
def rxEntry (e : Nat) : Nat := canKey (0x2000 + 0x50 * e)

/-- Bits of word 0 and word 1 of a transmit entry that firmware writes: its RW fields, and the reserved bits, which the check of
R336 looks at. -/
def txWriteMask : Nat → Word
  | 0 => 0xFFFFFFFF
  | 1 => 0xFFF8C0BF
  | 2 => 0
  | 3 => 0
  | _ => 0xFFFFFFFF

/-- Bits of an entry word that read as held; reserved bits read as zero (R8). -/
def entryReadMask : Nat → Word
  | 0 => 0x7FFFFFFF
  | 1 => 0x00073FFF
  | _ => 0xFFFFFFFF

/-- Whether an address lies in the transmit entries, and whether in the receive entries (R349). -/
def isTxEntry (a : Nat) : Bool := Block.can.base + 0x1000 ≤ a && a < Block.can.base + 0x1A00
def isRxEntry (a : Nat) : Bool := Block.can.base + 0x2000 ≤ a && a < Block.can.base + 0x3400

/-- The key of an entry word. -/
def canWordKey (a : Nat) : Nat := canKey (a - Block.can.base)

/-- The number of a word within its entry, for an offset in the block. -/
def entryWord (o : Nat) : Nat := (if o < 0x2000 then o - 0x1000 else o - 0x2000) % 0x50 / 4

/-- A read of an entry word. -/
def State.canEntryRead (s : State) (a : Nat) : Word := s.store.w32 (canWordKey a) &&& entryReadMask (entryWord (a - Block.can.base))

/-- A write of an entry word: ignored and logged in a pending entry, and without effect on RO fields (R336). -/
def Op.canEntryWrite (a : Nat) (v : Word) : Op := Op.get fun s =>
  let o := (a - Block.can.base) % 0x1000
  let m := txWriteMask (o % 0x50 / 4)
  if isTxEntry a then
    if (s.reg A.CAN_TX_PEND).getLsbD (o / 0x50) then
      (Op.set F.CAN_ERR_TXOWN 1).andThen (Op.log 0x0003 Block.can.num a 4)
    else Op.putBytes (canWordKey a) (leBytes 4 ((s.store.w32 (canWordKey a) &&& ~~~ m) ||| (v &&& m)).toNat)
  else Op.skip

/-- A field of a transmit entry's word 0 or word 1. -/
def State.txFld (s : State) (e word lo w : Nat) : Nat := fieldOf (s.store.w32 (txEntry e + 4 * word)) lo w

/-- Sets a field of an entry's word. -/
def Op.setEntry (k word lo w v : Nat) : Op := Op.get fun s =>
  Op.putBytes (k + 4 * word) (leBytes 4 (withField (s.store.w32 (k + 4 * word)) lo w v).toNat)

/-- Whether a transmit entry is bad (R336). -/
def State.txBad (s : State) (e : Nat) : Bool :=
  let fdf := s.txFld e 1 4 1 == 1
  s.txFld e 0 31 1 != 0 || s.txFld e 1 14 2 != 0 || s.txFld e 1 19 13 != 0
    || (fdf && !(s.bit F.CAN_CFG_FDEN)) || (fdf && s.txFld e 0 30 1 == 1) || (s.txFld e 1 5 1 == 1 && !fdf)

def State.txPending (s : State) (e : Nat) : Bool := (s.reg A.CAN_TX_PEND).getLsbD e

/-- One completion (R337). The stamp is the start of the last attempt; where there was none, the spec states no stamp, and it is
a free value (log entry 12). -/
def Op.txDone (e status : Nat) : Op := Op.get fun s =>
  let rest (stamp : Nat) : Op :=
    Op.all
      [ Op.setEntry (txEntry e) 1 16 3 status,
        Op.putBytes (txEntry e + 8) (leBytes 8 stamp),
        Op.set ⟨A.CAN_TX_PEND, e, 1⟩ 0,
        Op.can fun c => { c with sof := c.sof.filter (·.1 != e) },
        Op.canPush 1 (BitVec.ofNat 64 (e + status * 2 ^ 8)) ]
  match s.blk.can.sof.find? (·.1 == e) with
  | some p => rest p.2
  | none => Op.draw fun n => rest (Config.freeDword n).toNat

/-- A request of entry `e` (R336). -/
def Op.txRequest (e : Nat) : Op := Op.get fun s =>
  Op.when (!(s.txPending e))
    ((Op.set ⟨A.CAN_TX_PEND, e, 1⟩ 1).andThen (Op.when (s.txBad e) (Op.txDone e 4)))

/-- The numbers of the ones of a word, in rising order. -/
def onesOf (v : Word) : List Nat := (List.range 32).filter fun i => v.getLsbD i

/-- CAN_TX_REQUEST: a write of `CAN_TX_REQ`. -/
def execCanTxRequest (v : Word) (s : State) : Host.Outcome State Fault Refusal :=
  (Op.on .can (Op.each (onesOf v) Op.txRequest)).go s

/-! ### Transmission (R338, R339, R345) -/

/-- The arbitration field that an entry sends, dominant bits 0: base identifier, RTR or SRR, IDE, identifier extension, RTR. -/
def State.arbitration (s : State) (e : Nat) : Nat :=
  let base := s.txFld e 0 18 11
  let rtr := s.txFld e 0 30 1
  if s.txFld e 0 29 1 = 0 then base * 2 ^ 21 + rtr * 2 ^ 20
  else base * 2 ^ 21 + 2 ^ 20 + 2 ^ 19 + s.txFld e 0 0 18 * 2 + rtr

/-- The pending entry that wins arbitration against every other, the lower number among equals. -/
def State.txWinner (s : State) : Option Nat :=
  ((List.range 32).filter s.txPending).foldl
    (fun best e => match best with
      | none => some e
      | some b => if s.arbitration e < s.arbitration b then some e else some b) none

/-- Whether CAN takes part in bus traffic: running, integrated, not in protocol exception. -/
def State.onBus (s : State) : Bool := s.running .can && s.bit F.CAN_STAT_SYNCED && !(s.bit F.CAN_STAT_PXE)

def State.busOff (s : State) : Bool := s.fld F.CAN_STAT_STATE == 2

/-- Whether CAN may start a frame: on the bus, neither bus-off nor monitoring, its gate open (R378), no stop requested. -/
def State.mayStart (s : State) : Bool :=
  s.onBus && !s.busOff && !(s.bit F.CAN_CFG_MON) && !(s.gated 1) && !(s.blk.stopping.getLsbD Block.can.num)
    && !(s.bit F.CAN_STAT_TXING) && !(s.bit F.CAN_STAT_RXING)

/-- The bytes that a data length code means (ISO 11898-1). -/
def dlcBytes (fdf rtr : Bool) (dlc : Nat) : Nat :=
  if rtr then 0
  else if dlc ≤ 8 then dlc
  else if !fdf then 8
  else [12, 16, 20, 24, 32, 48, 64].getD (dlc - 9) 0

/-- The frame that a transmit entry sends (R335): the base identifier alone in the base format, `ESI` as the error state stands,
and as many data bytes as the frame's length; data words beyond it are not sent. -/
def State.txFrame (s : State) (e : Nat) : CanFrame :=
  let xtd := s.txFld e 0 29 1 == 1
  let rtr := s.txFld e 0 30 1 == 1
  let fdf := s.txFld e 1 4 1 == 1
  let id := s.txFld e 0 0 29
  { id := BitVec.ofNat 29 (if xtd then id else id / 2 ^ 18 * 2 ^ 18)
    xtd := xtd
    rtr := rtr
    dlc := BitVec.ofNat 4 (s.txFld e 1 0 4)
    fdf := fdf
    brs := s.txFld e 1 5 1 == 1
    esi := s.fld F.CAN_STAT_STATE % 2 == 1
    res := false
    data := s.store.bytes (txEntry e + 16) (dlcBytes fdf rtr (s.txFld e 1 0 4)) }

/-- The frame chosen starts: the error state sets `ESI`, and its start-of-frame bit is stamped (R335, R338). -/
def Op.txStart (e : Nat) : Op := Op.get fun s =>
  Op.all
    [ Op.set F.CAN_STAT_TXING 1,
      Op.setEntry (txEntry e) 1 6 1 (s.fld F.CAN_STAT_STATE),
      Op.can fun c => { c with sof := (e, s.now) :: c.sof.filter (·.1 != e), sent := some (s.txFrame e) } ]

/-- Whether CAN receives a frame that another node starts: on the bus, not bus-off, no stop requested (R343, R347). -/
def State.receives (s : State) : Bool :=
  s.onBus && !s.busOff && !(s.blk.stopping.getLsbD Block.can.num) && !(s.bit F.CAN_STAT_TXING)

/-- CAN_INTERMISSION: with `start` clear, CAN chooses the next frame; with it set, the intermission is over and the frame chosen
starts. Where CAN starts none and `other` says that another node does, CAN receives, as `RXING` then reads (R338, R349). -/
def execCanIntermission (start other : Bool) (s : State) : Host.Outcome State Fault Refusal :=
  (Op.get fun s =>
    if start then
      match (if s.mayStart then s.blk.can.cur else none) with
      | some e => Op.txStart e
      | none => Op.when (other && s.bankA && s.receives) (Op.set F.CAN_STAT_RXING 1)
    else Op.when s.mayStart (Op.can fun c => { c with cur := s.txWinner, cancel := false })).go s

/-- The attempt in progress ends without the frame having become valid: the entry stays pending, unless it is `ONESHOT` or its
cancellation was requested (R338, R339). -/
def Op.attemptFails : Op := Op.get fun s =>
  match s.blk.can.cur with
  | some e =>
    Op.all
      [ Op.set F.CAN_STAT_TXING 0,
        Op.can Can.free,
        if s.blk.can.cancel then Op.txDone e 2
        else Op.when (s.txFld e 1 7 1 == 1) (Op.txDone e 3) ]
  | none => Op.skip

/-- CAN_TX_COMPLETE: the frame being transmitted becomes valid, or loses arbitration to a frame that CAN then receives. A valid
frame lowers TEC by one (ISO 11898-1, log entry 13). Neither can happen while bank A is not usable: CAN then reads recessive bits
alone (R519). -/
def execCanTxComplete (lost : Bool) (s : State) : Host.Outcome State Fault Refusal :=
  (Op.get fun s =>
    match s.blk.can.cur with
    | some e =>
      Op.when (s.bankA && s.powered .can && s.bit F.CAN_STAT_TXING)
        (if lost then
          Op.all [Op.inc A.CAN_ARB_LOST, Op.attemptFails, Op.set F.CAN_STAT_RXING 1]
        else
          Op.all
            [ Op.set F.CAN_STAT_TXING 0,
              Op.can Can.free,
              Op.inc A.CAN_TX_FRAMES,
              Op.set F.CAN_ECNT_TEC (s.fld F.CAN_ECNT_TEC - 1),
              Op.get fun t => Op.when (t.fld F.CAN_STAT_STATE == 1 && t.fld F.CAN_ECNT_TEC < 128 && t.fld F.CAN_ECNT_REC < 128)
                ((Op.set F.CAN_STAT_STATE 0).andThen (Op.canEvent 1)),
              Op.txDone e 1 ])
    | none => Op.skip).go s

/-- A cancellation of entry `e` (R339). -/
def Op.txCancel (e : Nat) : Op := Op.get fun s =>
  if !(s.txPending e) then Op.skip
  else if s.blk.can.cur == some e then
    if s.bit F.CAN_STAT_TXING then Op.can fun c => { c with cancel := true }
    else (Op.can Can.free).andThen (Op.txDone e 2)
  else Op.txDone e 2

/-- CAN_TX_CANCEL: a write of `CAN_TX_CANCEL`. -/
def execCanTxCancel (v : Word) (s : State) : Host.Outcome State Fault Refusal :=
  (Op.on .can (Op.each (onesOf v) Op.txCancel)).go s

/-- ABORTALL: every pending entry is cancelled. -/
def execAbortall (s : State) : Host.Outcome State Fault Refusal :=
  (Op.on .can (Op.each (List.range 32) Op.txCancel)).go s

/-! ### Reception (R340 to R342, R344) -/

/-- Whether a filter is enabled and matches an identifier and format (R340). -/
def State.filterMatches (s : State) (id : BitVec 29) (xtd : Bool) (f : Nat) : Bool :=
  s.bit (F.CAN_FLT_ID_EN f)
    && (id ^^^ BitVec.ofNat 29 (s.fld (F.CAN_FLT_ID_ID f))) &&& BitVec.ofNat 29 (s.fld (F.CAN_FLT_MASK_MASK f)) == 0
    && (!(s.bit (F.CAN_FLT_MASK_MXTD f)) || s.fld (F.CAN_FLT_ID_XTD f) == bit01 xtd)

/-- The lowest-numbered receive entry that CAN owns (R341). -/
def State.rxFree (s : State) : Option Nat :=
  (List.range 64).find? fun e => !((if e < 32 then s.reg A.CAN_RX_FULL_LO else s.reg A.CAN_RX_FULL_HI).getLsbD (e % 32))

/-- The bit of a receive entry in `CAN_RX_FULL_LO` or `_HI`. -/
def rxFullBit (e : Nat) : Fld := ⟨if e < 32 then A.CAN_RX_FULL_LO else A.CAN_RX_FULL_HI, e % 32, 1⟩

/-- Free values fill a frame's last data word beyond the frame's length (log entry 12). -/
def Op.fillWord (data : List Byte) (k : List Byte → Op) : Op :=
  if data.length % 4 = 0 then k data
  else Op.draw fun n => k (data ++ (leBytes 8 (Config.freeDword n).toNat).take (4 - data.length % 4))

/-- Words 0 and 1 of a received frame's entry. -/
def CanFrame.words (f : CanFrame) (filter : Nat) (dflt : Bool) : List Byte :=
  leBytes 4 ((if f.xtd then f.id.toNat else f.id.toNat / 2 ^ 18 * 2 ^ 18) + bit01 f.xtd * 2 ^ 29 + bit01 f.rtr * 2 ^ 30)
    ++ leBytes 4 (f.dlc.toNat + bit01 f.fdf * 2 ^ 4 + bit01 f.brs * 2 ^ 5 + bit01 f.esi * 2 ^ 6 + filter * 2 ^ 8 + bit01 dflt * 2 ^ 13)

/-- A kept frame is written into an entry, or lost (R341, R342). -/
def Op.canKeep (f : CanFrame) (sof : Nat) (filter : Nat) (dflt : Bool) : Op := Op.get fun s =>
  match s.rxFree with
  | none => Op.inc A.CAN_RX_LOST
  | some e =>
    Op.all
      [ Op.putBytes (rxEntry e) (f.words filter dflt ++ leBytes 8 sof),
        Op.fillWord (f.data.take (dlcBytes f.fdf f.rtr f.dlc.toNat)) fun bs => Op.putBytes (rxEntry e + 16) bs,
        Op.set (rxFullBit e) 1,
        Op.canPush 0 (BitVec.ofNat 64 (e + filter * 2 ^ 8 + bit01 dflt * 2 ^ 13)) ]

/-- The filters decide about a valid frame (R340). -/
def Op.canFilter (f : CanFrame) (sof : Nat) : Op := Op.get fun s =>
  match (List.range 32).find? (s.filterMatches f.id f.xtd) with
  | some n => if s.bit (F.CAN_FLT_ID_REJECT n) then Op.inc A.CAN_RX_FILTERED else Op.canKeep f sof n false
  | none => if s.bit F.CAN_CFG_DEFACC then Op.canKeep f sof 0 true else Op.inc A.CAN_RX_FILTERED

/-! ### Error confinement (R343, R346) -/

/-- The confinement state that the counters give, with its events, after they have changed. -/
def Op.confine : Op := Op.get fun s =>
  let tec := s.fld F.CAN_ECNT_TEC
  let was := s.fld F.CAN_STAT_STATE
  let go (n : Nat) (o : Op) : Op := Op.when (was != n) ((Op.set F.CAN_STAT_STATE n).andThen o)
  if 255 < tec then
    go 2 (Op.all [ Op.inc A.CAN_BUSOFF_CNT, Op.when (s.bit F.CAN_CFG_AUTOREC) (Op.set F.CAN_STAT_RECOVERING 1), Op.canEvent 3 ])
  else if 127 < tec || 127 < s.fld F.CAN_ECNT_REC then go 1 (Op.canEvent 2)
  else go 0 (Op.canEvent 1)

/-- What a detected error adds to a counter under ISO 11898-1: a transmitter's error 8 and a receiver's 1; 8 to either for the
errors that the standard weighs so; nothing for those it exempts (log entry 13). -/
def errorWeight (tx : Bool) (weight : BitVec 2) : Nat :=
  match weight.toNat with
  | 0 => if tx then 8 else 1
  | 1 => 8
  | _ => 0

/-- A detected error (R343): last error, count, counters, state; a frame being transmitted ends in it. -/
def Op.canError (tx : Bool) (code : BitVec 3) (data : Bool) (weight : BitVec 2) : Op := Op.get fun s =>
  Op.all
    [ Op.set F.CAN_LEC_CODE code.toNat,
      Op.set F.CAN_LEC_DATA (bit01 data),
      Op.inc A.CAN_ERR_FRAMES,
      Op.set F.CAN_STAT_RXING 0,
      if tx then Op.set F.CAN_ECNT_TEC (min 511 (s.fld F.CAN_ECNT_TEC + errorWeight tx weight))
      else Op.set F.CAN_ECNT_REC (min 255 (s.fld F.CAN_ECNT_REC + errorWeight tx weight)),
      Op.confine,
      Op.when (s.bit F.CAN_STAT_TXING) Op.attemptFails ]

/-- CAN_ERROR. Nothing is detected by a controller that is not on the bus or is bus-off. -/
def execCanError (tx : Bool) (code : BitVec 3) (data : Bool) (weight : BitVec 2) (s : State) : Host.Outcome State Fault Refusal :=
  (Op.get fun s => Op.when (s.onBus && !s.busOff) (Op.canError tx code data weight)).go s

/-- A successful reception lowers REC: by one up to 127; above, to a value between 119 and 127 that ISO 11898-1 leaves open (log
entries 12 and 13). -/
def Op.recDown : Op := Op.get fun s =>
  let rec' := s.fld F.CAN_ECNT_REC
  (if rec' ≤ 127 then Op.set F.CAN_ECNT_REC (rec' - 1)
    else Op.draw fun n => Op.set F.CAN_ECNT_REC (119 + (Config.freeDword n).toNat % 9)).andThen Op.confine

/-- CAN_FRAME_RECEIVE: a frame becomes valid for the receiver. Its start-of-frame bit was stamped `sof`. A recessive res bit, or
an FD frame while `FDEN` is 0, puts CAN into protocol exception, or is a form error (R344). No frame reaches CAN while bank A is not
usable (R519). -/
def execCanFrameReceive (id : BitVec 29) (xtd rtr : Bool) (dlc : BitVec 4) (fdf brs esi res : Bool) (data : List Byte) (sof : BitVec 64)
    (s : State) : Host.Outcome State Fault Refusal :=
  (let f : CanFrame := ⟨id, xtd, rtr, dlc, fdf, brs, esi, res, data⟩
   Op.get fun s =>
    Op.when (s.bankA && s.onBus && !s.busOff && !(s.bit F.CAN_STAT_TXING))
      (Op.all
        [ Op.set F.CAN_STAT_RXING 0,
          Op.can Can.free,
          if f.res || (f.fdf && !(s.bit F.CAN_CFG_FDEN)) then
            if s.bit F.CAN_CFG_PXHD then Op.all [Op.set F.CAN_STAT_PXE 1, Op.inc A.CAN_PXE_CNT, Op.canEvent 5]
            else Op.canError false 2 false 0
          else Op.all [Op.inc A.CAN_RX_FRAMES, Op.recDown, Op.canFilter f sof.toNat] ])).go s

/-- CAN_RX_RETURN: writes of 1 to bits of `CAN_RX_FULL_LO` or, with `hi`, `CAN_RX_FULL_HI` (R342). -/
def execCanRxReturn (hi : Bool) (v : Word) (s : State) : Host.Outcome State Fault Refusal :=
  (Op.on .can (Op.get fun s =>
    let a := if hi then A.CAN_RX_FULL_HI else A.CAN_RX_FULL_LO
    Op.putReg a (s.reg a &&& ~~~ v))).go s

/-- `CAN_CMD.RECOVER` (R343): starts a recovery that waits; ignored in any other state. -/
def Op.canRecover : Op := Op.get fun s => Op.when s.busOff (Op.set F.CAN_STAT_RECOVERING 1)

/-- RECOVER. -/
def execRecover (s : State) : Host.Outcome State Fault Refusal := (Op.on .can Op.canRecover).go s

/-- RECOVERY_END: 128 occurrences of 11 recessive bits have passed (R343). -/
def execRecoveryEnd (s : State) : Host.Outcome State Fault Refusal :=
  (Op.get fun s =>
    Op.when (s.onBus && s.bit F.CAN_STAT_RECOVERING)
      (Op.all
        [ Op.set F.CAN_STAT_RECOVERING 0,
          Op.putReg A.CAN_ECNT 0,
          Op.set F.CAN_STAT_STATE 0,
          Op.canEvent 4,
          Op.canEvent 1 ])).go s

/-- BUS_INTEGRATION: 11 recessive bits in a row after `RUN` was set, or in protocol exception (R344, R347). -/
def execBusIntegration (s : State) : Host.Outcome State Fault Refusal :=
  (Op.get fun s =>
    Op.when (s.running .can) ((Op.set F.CAN_STAT_SYNCED 1).andThen (Op.set F.CAN_STAT_PXE 0))).go s

/-! ### Start and stop (R333, R347) -/

/-- Ticks of the bit timer in a bit: `BRP` × (1 + `TSEG1` + `TSEG2`). -/
def State.bitTicks (s : State) (brp tseg1 tseg2 : Fld) : Nat := (s.fld brp + 1) * (s.fld tseg1 + 1 + (s.fld tseg2 + 1) + 1)

/-- The cause for which `CAN_CTRL.RUN` is refused, or 0. -/
def State.canCause (s : State) : Nat :=
  let n := s.bitTicks F.CAN_NBT_BRP F.CAN_NBT_TSEG1 F.CAN_NBT_TSEG2
  let d := s.bitTicks F.CAN_DBT_BRP F.CAN_DBT_TSEG1 F.CAN_DBT_TSEG2
  if n < 80 || 640 < n || d < 16 || (s.bit F.CAN_CFG_FDEN && n < d) || s.fld F.CAN_NBT_TSEG1 < 1
    || s.fld F.CAN_NBT_TSEG2 < s.fld F.CAN_NBT_SJW || s.fld F.CAN_DBT_TSEG2 < s.fld F.CAN_DBT_SJW then 1
  else if !([F.CAN_RILLS_RX, F.CAN_RILLS_TXDONE, F.CAN_RILLS_EVT].all fun f => s.rillUsable (s.fld f)) then 2
  else 0

/-- Whether the frame on the bus has ended (R347). -/
def State.canIdle (s : State) : Bool := !(s.bit F.CAN_STAT_TXING) && !(s.bit F.CAN_STAT_RXING)

/-- CAN stops: it receives nothing and has chosen nothing. -/
def Op.canStopped : Op := (Op.set F.CAN_STAT_SYNCED 0).andThen (Op.can Can.free)

end Sys2Proof.Machine
end

