-- ==== Sys2Proof/Machine/Lamp.lean ====
section
/-!
DEFINITION. The lamp engine (spec/05): records, conversion, thermal states and events, batches, step lists, curve window.
The record store lies in the lamp key space: byte o of record i at 64 i + o, the record's valid bit at its first byte, the bit
errors of its eight doublewords at theirs.
-/
namespace Sys2Proof.Machine

def Op.lamp (f : Lamp → Lamp) : Op := Op.blk fun b => { b with lamp := f b.lamp }

/-! ### Records (R160 to R165) -/

/-- The key of record `i`. -/
def recKey (i : Nat) : Nat := lampKey (64 * i)

/-- An unsigned field of record `i`. -/
def State.recU (s : State) (i off n : Nat) : Nat := s.store.le (recKey i + off) n

/-- A signed 16-bit field of record `i`. -/
def State.recS (s : State) (i off : Nat) : Int := signedOf 16 (s.recU i off 2)

def State.recValid (s : State) (i : Nat) : Bool := tget notValid s.store.valid (recKey i)

/-- `THERM_EN` of a record. -/
def State.recTherm (s : State) (i : Nat) : Bool := natBits (s.recU i 0 1) 1 1 == 1

/-- The thermal state of a record, where it has one: it is valid with `THERM_EN` = 1 (R169). -/
def State.therm (s : State) (i : Nat) : Option Therm := tget (fun _ => none) s.blk.lamp.therm i

def Op.setTherm (i : Nat) (t : Option Therm) : Op := Op.lamp fun l => { l with therm := tput (fun _ => none) i t l.therm }

/-- A thermal state that starts: STALE, no temperature, no entry into FAULT (R178). -/
def freshTherm : Therm := { state := 3, temp := none, since := 0, faults := 0 }

/-- How the lamp engine posts thermal events (R172). -/
def lampEvt : EvtCfg := ⟨F.LAMP_EVT_CFG_RILL, some F.LAMP_EVT_CFG_EN, A.LAMP_EVT_LOST, none⟩

/-- A thermal event (R172), pushed and logged with the record's place code. The DETAIL of its record is the event without the valid tag,
which the rill sets as it stores the item (a model choice, log entry 28). -/
def Op.thermalEvent (i kind : Nat) (temp : BitVec 16) : Op := Op.get fun s =>
  let v : DWord := BitVec.ofNat 64 (i % 2 ^ 16 + kind * 2 ^ 16 + temp.toNat * 2 ^ 32)
  (Op.postEvent .lamp lampEvt v).andThen (Op.log 0x0020 Block.lamp.num (s.recU i 0x38 8) v.toNat)

/-- Entering and leaving FAULT (R170). -/
def Op.enterFault (i : Nat) (t : BitVec 16) : Op := Op.get fun s =>
  Op.all
    [ Op.inc A.LAMP_FAULT_CNT, Op.set F.LAMP_FAULT_NOW_COUNT (s.fld F.LAMP_FAULT_NOW_COUNT + 1), Op.thermalEvent i 1 t ]

def Op.leaveFault (i kind : Nat) (t : BitVec 16) : Op := Op.get fun s =>
  (Op.set F.LAMP_FAULT_NOW_COUNT (s.fld F.LAMP_FAULT_NOW_COUNT - 1)).andThen (Op.thermalEvent i kind t)

/-- A record loses its thermal state, leaving FAULT without an LTEMP where it was in it (R535). Model choices (log entry 28): the event's
record carries the place code that the store holds at that moment, which on a LOAD is that of the record replaced, and which is used even
where R163 found it unreadable. -/
def Op.loseTherm (i : Nat) : Op := Op.get fun s =>
  (match s.therm i with
    | some t => Op.when (t.state == 2) (Op.leaveFault i 3 0)
    | none => Op.skip).andThen (Op.setTherm i none)

/-- A record becomes not valid. -/
def Op.invalidate (i : Nat) : Op := (Op.loseTherm i).andThen (Op.putValid (recKey i) false)

/-- How many bits of doubleword `j` of record `i` are in error. -/
def State.recErr (s : State) (i j : Nat) : Nat := weight (s.errAt (recKey i + 8 * j))

/-- Looks a record up for a request: single-bit errors are corrected and counted, an uncorrectable error makes the record not
valid and is reported (R163). Model choices (log entry 28): two or more bits in error in a doubleword are uncorrectable, and the error stays
in the store until the record is loaded again, so that every later request finds, counts and logs it again. -/
def Op.checkRec (i : Nat) (k : Op) : Op := Op.get fun s =>
  let idx := List.range 8
  let corrected := Op.each (idx.filter fun j => s.recErr i j == 1) fun j =>
    (Op.putErr (recKey i + 8 * j) 0).andThen (Op.inc A.LAMP_CORR_CNT)
  let subject := if s.recErr i 7 ≤ 1 then s.recU i 0x38 8 else i
  Op.all
    [ corrected,
      Op.when (idx.any fun j => 2 ≤ s.recErr i j)
        (Op.all
          [ Op.invalidate i,
            Op.set F.LAMP_ERR_RECECC 1,
            Op.set F.LAMP_ERR_ECC_INDEX i,
            Op.inc A.LAMP_RECECC_CNT,
            Op.log 0x0010 Block.lamp.num subject (4 + Block.lamp.num * 2 ^ 8) ]),
      k ]

/-- Whether the fields of a record in memory pass R165. A model choice (log entry 28): an entry with `VALID` = 0 passes only where its other
fields do, since R165 accepts an entry "only when all of the following hold". -/
def recordAccepted (bs : List Byte) : Bool :=
  let flags := leNat (bs.take 1)
  let form := leNat ((bs.drop 1).take 1)
  let s16 (o : Nat) : Int := signedOf 16 (leNat ((bs.drop o).take 2))
  natBits flags 2 6 == 0 && natBits form 3 1 == 0 && natBits form 6 2 == 0 && 1 ≤ natBits form 0 3 && natBits form 0 3 ≤ 4
    && (natBits flags 1 1 == 0 || (s16 0x26 < s16 0x28 && leNat ((bs.drop 0x2A).take 2) != 0))

/-- Stores a record in one step (R161, R165, R178, R535). -/
def Op.storeRecord (i : Nat) (bs : List Byte) (keep : Bool) : Op := Op.get fun s =>
  let valid := recordAccepted bs && natBits (leNat (bs.take 1)) 0 1 == 1
  let therm := valid && natBits (leNat (bs.take 1)) 1 1 == 1
  let before := s.therm i
  let keeps := keep && therm && before.isSome
  Op.all
    [ Op.when (!keeps) (Op.loseTherm i),
      Op.putBytes (recKey i) bs,
      Op.each (List.range 8) fun j => Op.putErr (recKey i + 8 * j) 0,
      Op.putValid (recKey i) valid,
      Op.when (!keeps) (Op.setTherm i (if therm then some freshTherm else none)) ]

/-! ### Conversion (R166 to R169) -/

/-- A 16-bit code as Q1.16 (R167). -/
def expand (v : Nat) : Nat := (v * 65537 + 32768) / 2 ^ 16

/-- An entry of a transfer curve (R166). -/
def State.curve (s : State) (c i : Nat) : Nat := tget (fun k => 256 * (k % 512)) s.blk.lamp.curves (512 * c + i)

/-- A component through a transfer curve (R166). -/
def State.decodeCurve (s : State) (c e : Nat) : Nat :=
  let i := e / 2 ^ 8
  let f : Int := (e % 2 ^ 8 : Nat)
  if i = 256 then s.curve c 256
  else
    let t0 : Int := s.curve c i
    let t1 : Int := s.curve c (i + 1)
    (t0 + ((t1 - t0) * f + 128) / 2 ^ 8).toNat

/-- The derating factor of a thermal state (R169). -/
def State.derating (s : State) (i : Nat) (t : Therm) : Nat :=
  match t.state with
  | 0 => 65536
  | 1 =>
    let fall : Int := (s.recU i 0x2C 2 * (signedOf 16 (t.temp.getD 0).toNat - s.recS i 0x26) + 8) / 2 ^ 4
    (max (expand (s.recU i 0x2E 2) : Int) (65536 - fall)).toNat
  | 2 => expand (s.recU i 0x30 2)
  | _ => expand (s.recU i 0x32 2)

/-- The compensation factor of channel `k` (R169). -/
def State.compensation (s : State) (i k : Nat) (t : Therm) : Nat :=
  let dT : Int := if t.state = 3 then 0 else signedOf 16 (t.temp.getD 0).toNat - s.recS i 0x24
  (min (max (65536 + (s.recS i (0x1C + 2 * k) * dT + 8) / 2 ^ 4) 0) 131071).toNat

/-- The state a conversion finds: a record that is not in FAULT and has no temperature, or one older than `STALE_S`, is STALE
(R171). -/
def State.aged (s : State) (i : Nat) (t : Therm) : Therm :=
  let old := s.recU i 0x34 2 != 0 && s.recU i 0x34 2 * 1000000000 < s.now - t.since
  if t.state ≠ 2 ∧ (t.temp.isNone ∨ old) then { t with state := 3 } else t

/-- What a conversion gives. -/
structure Converted where
  drive : DWord
  clamp : Bool
  derate : Bool
  tfault : Bool
  deriving DecidableEq, Repr

/-- The flags of a conversion as bits: CLAMP 1, DERATE 2, TFAULT 4 (R97, R176). -/
def Converted.bits (c : Converted) : Nat := bit01 c.clamp + 2 * bit01 c.derate + 4 * bit01 c.tfault

/-- One channel of R167: the 18-bit matrix sum, then level, gain, compensation and derating; above full scale it clamps. -/
def State.channel (s : State) (i k : Nat) (d : List Nat) (el ck dr : Nat) : Nat × Bool :=
  let sum : Int := ((List.range 3).map fun j => s.recS i (4 + 6 * k + 2 * j) * (d.getD j 0 : Int)).sum
  let t := (min (max ((sum + 8192) / 2 ^ 14) 0) 262143).toNat
  let v := (t * el * s.recU i 2 2 * ck * dr + 2 ^ 62) / 2 ^ 63
  if k ≥ natBits (s.recU i 1 1) 0 3 then (0, false)
  else if v > 65536 then (0xFFFF, true)
  else (v - v / 2 ^ 16, false)

/-- The conversion of a colour (in the layout of R119) through a record with the thermal state `th` (R167). -/
def State.convert (s : State) (i : Nat) (th : Option Therm) (colour : DWord) (noderate : Bool) : Converted :=
  let c := natBits (s.recU i 1 1) 4 2
  let comp (j : Nat) : Nat :=
    let e := expand (natBits colour.toNat (32 - 16 * j) 16)
    if c = 0 then e else s.decodeCurve c e
  let d := [comp 0, comp 1, comp 2]
  let el := expand (natBits colour.toNat 48 16)
  let dr := if noderate then 65536 else (th.map (s.derating i)).getD 65536
  let ck (k : Nat) : Nat := (th.map (s.compensation i k)).getD 65536
  let out (k : Nat) := s.channel i k d el (ck k) dr
  { drive := BitVec.ofNat 64 ((out 3).1 * 2 ^ 48 + (out 2).1 * 2 ^ 32 + (out 1).1 * 2 ^ 16 + (out 0).1)
    clamp := (out 0).2 || (out 1).2 || (out 2).2 || (out 3).2
    derate := !noderate && dr < 65536
    tfault := !noderate && (match th with | some t => t.state == 2 | none => false) }

/-- Makes a conversion of a valid record: the age is tested, the counters count, and the continuation gets the result. -/
def Op.convert (i : Nat) (colour : DWord) (noderate : Bool) (k : Converted → Op) : Op := Op.get fun s =>
  let th := (s.therm i).map (s.aged i)
  let r := s.convert i th colour noderate
  Op.all
    [ Op.setTherm i th,
      Op.when (th.any (·.state == 3)) (Op.inc A.LAMP_STALE_CNT),
      Op.when r.clamp (Op.inc A.LAMP_CLAMP_CNT),
      k r ]

/-! ### LTEMP (R170) -/

/-- A temperature report on a valid record. -/
def Op.ltemp (i : Nat) (t : BitVec 16) : Op := Op.get fun s =>
  match s.therm i with
  | none => Op.skip
  | some old =>
    let T : Int := t.toInt
    let fault := s.recS i 0x28
    let th : Therm := { old with temp := some t, since := s.now }
    if old.state = 2 ∧ T > fault - s.recU i 0x2A 2 then Op.setTherm i (some th)
    else if T ≥ fault then
      if old.state = 2 then Op.setTherm i (some th)
      else (Op.setTherm i (some { th with state := 2, faults := satAdd 32 old.faults 1 })).andThen (Op.enterFault i t)
    else
      (Op.setTherm i (some { th with state := if T > s.recS i 0x26 then 1 else 0 })).andThen
        (Op.when (old.state == 2) (Op.leaveFault i 2 t))

/-! ### Lamp instructions (R119 to R124) -/

/-- Whether the engine takes lamp instructions: it runs, and no stop has been requested (R122). -/
def State.lampTakes (s : State) : Bool := s.running .lamp && !(s.blk.stopping.getLsbD Block.lamp.num)

/-- A lamp instruction cannot reach a unit whose domain is off: a bus fault, LOAD_BUS, and the record of a refused access (R36). No rule
gives such a record its DETAIL (log entry 28). -/
def Op.lampOff (c : CoreId) (unit : Nat) (wa : Word) : Op :=
  (Op.draw fun n => Op.log 0x0003 (coreSource c) unit (Config.freeDword n).toNat).andThen (Op.raise c 0x07 0 wa)

/-- The exceptions of R122 in their order; otherwise the continuation, for a valid record. A model choice (log entry 28): while the engine's
domain is off R36 applies, and not LAMP_STOPPED. -/
def Op.lampAccess (c : CoreId) (wa : Word) (extra : Bool) (k : Nat → Op) : Op := Op.enterDelta c false (Op.get fun s =>
  if !(s.powered .lamp) then Op.lampOff c Block.lamp.base wa
  else if !(s.lampTakes) then Op.raise c 0x29 0 0
  else if wa.toNat ≥ 2 ^ 16 || s.fld F.LAMP_RECCNT_COUNT ≤ wa.toNat || extra then Op.raise c 0x27 0 wa
  else Op.checkRec wa.toNat (Op.get fun s =>
    if s.recValid wa.toNat then k wa.toNat else Op.raise c 0x28 0 wa))

/-- Issues a load-like instruction: with 8 loads outstanding the oldest returns first (R22, R23). -/
def Op.issueLoad (c : CoreId) (l : Load) : Op :=
  Op.core c fun k =>
    let k := if k.loads.length < 8 then k else k.returnLoad 0
    { k with loads := k.loads ++ [l] }.retire k.budgeted (k.pc + 4)

/-- LMIX and LMIXN. -/
def Op.lmix (c : CoreId) (d a b : RegNo) (noderate : Bool) : Op :=
  Op.issue c (both d ++ a :: both b) fun k => Op.pairs c [d, b] (Op.lampAccess c (k.rd a) false fun i =>
    Op.convert i (k.rdp b) noderate fun r =>
      Op.issueLoad c ⟨[(d, hiWord r.drive), (d + 1, loWord r.drive)], .lamp, BitVec.ofNat 32 r.bits⟩)

/-- LMIX: colour pb through record wa with derating, to pd (R120). -/
def execLmix (c : CoreId) (d a b : RegNo) (s : State) : Host.Outcome State Fault Refusal := (Op.lmix c d a b false).go s

/-- LMIXN: as LMIX without thermal derating (R120). -/
def execLmixn (c : CoreId) (d a b : RegNo) (s : State) : Host.Outcome State Fault Refusal := (Op.lmix c d a b true).go s

/-- LTEMP: reports temperature wb[15:0] for record wa; a nonzero wb[31:16] raises LAMP_INDEX (R123, R170). -/
def execLtemp (c : CoreId) (a b : RegNo) (s : State) : Host.Outcome State Fault Refusal :=
  (Op.issue c [a, b] fun k => Op.lampAccess c (k.rd a) ((k.rd b).toNat ≥ 2 ^ 16) fun i =>
    (Op.ltemp i ((k.rd b).extractLsb' 0 16)).andThen (Op.issueLoad c ⟨[], .shared, 0⟩)).go s

/-- The engine returns the result of outstanding load number `n` of a core, where that is an LMIX or LMIXN: pd is written and
`cx.lstat` takes its flags (R97, R121). -/
def execLampInstrReturn (c : CoreId) (n : Nat) (s : State) : Host.Outcome State Fault Refusal :=
  (Op.core c fun k =>
    match k.loads[n]? with
    | some l => if l.kind == .lamp then k.returnLoad n else k
    | none => k).go s

/-- LSUB: submits the batch descriptor at wa; wd is 0 when it is accepted and 1 when 32 batches are held (R124). A refused
earlier store raises its fault first. A model choice (log entry 28): R36 applies while the engine's domain is off, and while the descriptor
lies in a memory that is off. -/
def execLsub (c : CoreId) (d a : RegNo) (s : State) : Host.Outcome State Fault Refusal :=
  (Op.issue c [d, a] fun k => Op.get fun s =>
    let wa := k.rd a
    if !k.stores.isEmpty then Op.settled c fun _ => Op.skip
    else if wa.toNat % 64 ≠ 0 then Op.raise c 0x05 0 wa
    else if !(regionOf wa.toNat == .basin || regionOf wa.toNat == .dram) then
      (Op.when (regionOf wa.toNat == .none) (Op.logOutside c wa.toNat)).andThen (Op.raise c 0x07 0 wa)
    else if !(s.powered .lamp) then Op.lampOff c Block.lamp.base wa
    else if !(s.reaches wa.toNat) then Op.lampOff c wa.toNat wa
    else
      let l := s.blk.lamp
      if l.held.length + bit01 l.cur.isSome < 32 then
        (Op.lamp fun l => { l with held := l.held ++ [wa] }).andThen (Op.finish c (·.wr d 0))
      else Op.finish c (·.wr d 1)).go s

/-! ### Batches (R173 to R178) -/

def Op.setBatch (b : Option Batch) : Op := Op.lamp fun l => { l with cur := b }

/-- Whether a descriptor breaks R173 (R176: `BAD_DESC`); `r` and `w` say which addresses its operation uses. -/
def badDescriptor (b : Batch) (reserved : Bool) : Bool :=
  let r := b.op != 5
  let w := b.op != 4
  let inMem (a : Nat) : Bool := regionOf a == .basin || regionOf a == .dram
  reserved || b.op == 0 || b.op > 5 || natBits b.bflags 2 6 != 0 || (natBits b.bflags 0 1 == 1 && b.op > 3)
    || (natBits b.bflags 1 1 == 1 && b.op != 4) || b.count == 0 || b.count > 65536 || b.rill < 4 || b.rill > 63
    || (b.op ≤ 3 && b.first != 0) || (!w && b.dst != 0) || (!r && b.src != 0)
    || (r && (b.src % (if b.op = 4 then 64 else 8) != 0 || !(inMem b.src))) || (w && (b.dst % 8 != 0 || !(inMem b.dst)))

/-- A batch cannot read, write or report (R176): the error bit and the record. -/
def Op.batchBus (desc cause entry : Nat) : Op :=
  (Op.set F.LAMP_ERR_BATCHBUS 1).andThen (Op.log 0x000A Block.lamp.num desc (cause + entry * 2 ^ 32))

/-- Starts the oldest held batch where none is in progress and the engine runs (R173). A descriptor that cannot be read ends
the batch with nothing written or pushed. -/
def Op.startBatch : Op := Op.get fun s =>
  if !(s.lampTakes) || s.blk.lamp.cur.isSome then Op.skip
  else
    match s.blk.lamp.held with
    | [] => Op.skip
    | a :: rest =>
      (Op.lamp fun l => { l with held := rest }).andThen (Op.readBytes Block.lamp.num a.toNat 64 fun
        | none => (Op.batchBus a.toNat 1 0).andThen (Op.inc A.LAMP_BATCH_DONE)
        | some bs =>
          let n (o w : Nat) : Nat := leNat ((bs.drop o).take w)
          let b : Batch :=
            { desc := a.toNat, op := n 0 1, bflags := n 1 1, rill := n 2 1, count := n 4 4, src := n 8 4, dst := n 12 4,
              first := n 16 4, idx := 0, errors := 0, flags := 0, status := none, written := false }
          Op.setBatch (some
            { b with status := if badDescriptor b (n 3 1 != 0 || n 0x14 4 != 0 || n 0x28 24 != 0) then some 2 else none }))

/-- The batch in progress goes on to its next entry: flags and errors are added; after the last entry the status is settled. -/
def Batch.next (b : Batch) (flags : Nat) (bad : Bool) : Batch :=
  let e := b.errors + bit01 bad
  { b with
    idx := b.idx + 1
    flags := b.flags ||| flags
    errors := e
    status := if b.idx + 1 = b.count then some (if e = 0 then 0 else 1) else none }

/-- A memory access of an entry faulted: the batch ends at that entry with status 3. -/
def Op.entryFault (b : Batch) : Op :=
  (Op.batchBus b.desc 3 b.idx).andThen (Op.setBatch (some { b with status := some 3 }))

/-- Writes an entry's output and goes on; an entry error writes zeros. -/
def Op.entryOut (b : Batch) (size : Nat) (bad : Bool) (flags : Nat) (out : List DWord) : Op :=
  Op.writeDws (b.dst + size * b.idx) (if bad then List.replicate (size / 8) 0 else out) fun
    | true => Op.setBatch (some (b.next (if bad then 0 else flags) bad))
    | false => Op.entryFault b

/-- Converts a list of colours through a record, one after the other, each with the state current then (R185). -/
def Op.convertAll (i : Nat) (noderate : Bool) : List DWord → (List DWord → Nat → Op) → Op
  | [], k => k [] 0
  | c :: cs, k => Op.convert i c noderate fun r =>
    Op.convertAll i noderate cs fun ds fl => k (r.drive :: ds) (r.bits ||| fl)

/-- Whether a batch entry may use record `i`: below COUNT and valid; checked after the record's errors are handled. -/
def Op.batchRecord (i : Nat) (k : Bool → Op) : Op := Op.get fun s =>
  if i < s.fld F.LAMP_RECCNT_COUNT then Op.checkRec i (Op.get fun s => k (s.recValid i)) else k false

/-- One CONVERT entry (R174). -/
def Op.convertEntry (b : Batch) : Op :=
  Op.readDws Block.lamp.num (b.src + 16 * b.idx) 2 fun
    | some [colour, w] =>
      let i := natBits w.toNat 0 16
      Op.batchRecord i fun ok =>
        if ok && natBits w.toNat 16 48 == 0 then
          Op.convert i colour (natBits b.bflags 0 1 == 1) fun r => Op.entryOut b 8 false r.bits [r.drive]
        else Op.entryOut b 8 true 0 []
    | _ => Op.entryFault b

/-- The doublewords of a step list (R179): header, 16 values, 16 dwells of two bytes. -/
def stepList (n flags i duration : Nat) (values : List DWord) (dwells : List Nat) : List DWord :=
  let dw (q : Nat) : DWord :=
    BitVec.ofNat 64 (((List.range 4).map fun j => dwells.getD (4 * q + j) 0 * 2 ^ (16 * j)).sum)
  BitVec.ofNat 64 (n + flags * 2 ^ 8 + i * 2 ^ 16 + duration * 2 ^ 32)
    :: (values ++ List.replicate (16 - values.length) 0) ++ [dw 0, dw 1, dw 2, dw 3]

/-- Colour `i` of a fade from `x` to `y` in `n` steps, one 16-bit field at `lo` (R182). -/
def fadeField (x y : DWord) (n i lo : Nat) : Nat :=
  let a : Int := natBits x.toNat lo 16
  let b : Int := natBits y.toNat lo 16
  ((a + ((b - a) * (i + 1) * 2 + n) / (2 * n)).toNat % 2 ^ 16) * 2 ^ lo

def fadeColour (x y : DWord) (n i : Nat) : DWord :=
  BitVec.ofNat 64 (fadeField x y n i 0 + fadeField x y n i 16 + fadeField x y n i 32 + fadeField x y n i 48)

/-- The dwell of step `i` of a fade (R182). -/
def fadeDwell (d n i : Nat) : Nat := if i + 1 < n then d * (i + 1) / n - d * i / n else 0

/-- One FADE entry (R174, R182). -/
def Op.fadeEntry (b : Batch) : Op :=
  Op.readDws Block.lamp.num (b.src + 32 * b.idx) 4 fun
    | some [x, y, w, z] =>
      let i := natBits w.toNat 0 16
      let n := natBits w.toNat 16 5
      let d := natBits w.toNat 32 32
      let steps := List.range n
      Op.batchRecord i fun ok =>
        if ok && 1 ≤ n && n ≤ 16 && natBits w.toNat 21 11 == 0 && z == 0 && steps.all (fun j => fadeDwell d n j ≤ 65535) then
          Op.convertAll i (natBits b.bflags 0 1 == 1) (steps.map (fadeColour x y n)) fun vs fl =>
            Op.entryOut b 168 false fl (stepList n fl i d vs (steps.map (fadeDwell d n)))
        else Op.entryOut b 168 true 0 []
    | _ => Op.entryFault b

/-- One STEPS entry (R174, R181). -/
def Op.stepsEntry (b : Batch) : Op :=
  Op.readDws Block.lamp.num (b.src + 168 * b.idx) 21 fun
    | some (h :: rest) =>
      let n := natBits h.toNat 0 5
      let i := natBits h.toNat 16 16
      let values := rest.take 16
      let dwells := (rest.drop 16).flatMap fun w => (List.range 4).map fun j => natBits w.toNat (16 * j) 16
      Op.batchRecord i fun ok =>
        if ok && 1 ≤ n && n ≤ 16 && natBits h.toNat 5 3 == 0 && (values.drop n).all (· == 0) && (dwells.drop n).all (· == 0) then
          Op.convertAll i (natBits b.bflags 0 1 == 1) (values.take n) fun vs fl =>
            Op.entryOut b 168 false fl (stepList n fl i (natBits h.toNat 32 32) vs (dwells.take n))
        else Op.entryOut b 168 true 0 []
    | _ => Op.entryFault b

/-- One LOAD entry (R165, R174, R178). -/
def Op.loadEntry (b : Batch) : Op :=
  Op.readBytes Block.lamp.num (b.src + 64 * b.idx) 64 fun
    | none => Op.entryFault b
    | some bs => Op.get fun s =>
      let i := b.first + b.idx
      if i < s.fld F.LAMP_RECCNT_COUNT then
        (Op.storeRecord i bs (natBits b.bflags 1 1 == 1)).andThen (Op.setBatch (some (b.next 0 (!(recordAccepted bs)))))
      else Op.setBatch (some (b.next 0 true))

/-- The state doublewords of a record (R177). -/
def State.stateDws (s : State) (i : Nat) : List DWord :=
  let valid := bit01 (s.recValid i) * 2 ^ 8
  match s.therm i with
  | none => [BitVec.ofNat 64 (valid + 0x8000 * 2 ^ 16 + 0xFFFFFFFF * 2 ^ 32), 0]
  | some t =>
    let age := match t.temp with
      | none => 0xFFFFFFFF
      | some _ => min ((s.now - t.since) / 1000000000) 0xFFFFFFFF
    [ BitVec.ofNat 64 (t.state + valid + 2 ^ 9 + (t.temp.getD 0x8000).toNat * 2 ^ 16 + age * 2 ^ 32), BitVec.ofNat 64 t.faults ]

/-- One READ entry (R177). A record with an uncorrectable error is not valid from then on, and a doubleword that the store can no
longer give is a free value (log entry 2). -/
def Op.readEntry (b : Batch) : Op := Op.get fun s =>
  let i := b.first + b.idx
  if i < s.fld F.LAMP_RECCNT_COUNT then
    let lost := (List.range 8).any fun j => 2 ≤ s.recErr i j
    Op.checkRec i (Op.get fun s =>
      let word (vs : List DWord) (j : Nat) : DWord := if 2 ≤ s.recErr i j then vs.getD j 0 else s.store.w64 (recKey i + 8 * j)
      let out (vs : List DWord) : Op := Op.entryOut b 80 false 0 ((List.range 8).map (word vs) ++ s.stateDws i)
      if lost then Op.drawMany 8 out else out [])
  else Op.entryOut b 80 true 0 []

/-- Does up to `n` entries of the batch in progress where its operation is `op`; none once a stop has been requested (R184). -/
def Op.entries (op : Nat) (entry : Batch → Op) : Nat → Op
  | 0 => Op.skip
  | n + 1 => Op.get fun s =>
    match s.blk.lamp.cur with
    | some b => Op.when (s.lampTakes && b.op == op && b.status.isNone) ((entry b).andThen (Op.entries op entry n))
    | none => Op.skip

/-- A CONVERT batch: the engine starts the next held batch if it is free, then does up to `n` entries of a CONVERT batch in
progress (R174). -/
def execConvert (n : Nat) (s : State) : Host.Outcome State Fault Refusal :=
  (Op.startBatch.andThen (Op.entries 1 Op.convertEntry n)).go s

/-- A FADE batch, up to `n` entries (R182). -/
def execFade (n : Nat) (s : State) : Host.Outcome State Fault Refusal :=
  (Op.startBatch.andThen (Op.entries 2 Op.fadeEntry n)).go s

/-- A STEPS batch, up to `n` entries (R181). -/
def execSteps (n : Nat) (s : State) : Host.Outcome State Fault Refusal :=
  (Op.startBatch.andThen (Op.entries 3 Op.stepsEntry n)).go s

/-- A LOAD batch, up to `n` entries (R165). -/
def execLampLoad (n : Nat) (s : State) : Host.Outcome State Fault Refusal :=
  (Op.startBatch.andThen (Op.entries 4 Op.loadEntry n)).go s

/-- A READ batch, up to `n` entries (R177). -/
def execLampRead (n : Nat) (s : State) : Host.Outcome State Fault Refusal :=
  (Op.startBatch.andThen (Op.entries 5 Op.readEntry n)).go s

/-- The RESULT doubleword of a batch (R176). -/
def Batch.result (b : Batch) : DWord :=
  BitVec.ofNat 64 (b.status.getD 0 + b.flags * 2 ^ 8 + min b.errors 0xFFFF * 2 ^ 16 + b.idx * 2 ^ 32)

/-- The end of a batch: it leaves the engine. -/
def Op.batchDone : Op := (Op.setBatch none).andThen (Op.inc A.LAMP_BATCH_DONE)

/-- Reports a finished batch: RESULT once, then the completion item, for which the engine waits while the rill has no room
(R176). A model choice (log entry 28): a completion rill in packet mode is unusable, as one that is not enabled. -/
def Op.completeBatch : Op :=
  let write : Op := Op.get fun s =>
    match s.blk.lamp.cur with
    | some b => Op.when (b.status.isSome && !b.written)
        (Op.writeDws (b.desc + 0x20) [b.result] fun
          | true => Op.setBatch (some { b with written := true })
          | false => (Op.batchBus b.desc 4 0).andThen (Op.setBatch (some { b with written := true, status := some 3 })))
    | none => Op.skip
  let push : Op := Op.get fun s =>
    match s.blk.lamp.cur with
    | some b =>
      let unusable := (Op.batchBus b.desc 2 0).andThen Op.batchDone
      Op.when b.status.isSome
        (if b.rill < 4 || b.rill > 63 then unusable
        else Op.keepPush (Block.lamp.place 1) (rillNo b.rill) (BitVec.ofNat 64 (b.desc + b.status.getD 0 * 2 ^ 32)) fun
          | .ok => Op.batchDone
          | .off => unusable
          | _ => Op.skip)
    | none => Op.skip
  write.andThen push

/-- The engine completes a batch: RESULT, then the completion item once the rill has room (R176). A held batch whose
descriptor is bad completes in the same way. -/
def execBatchCompletion (s : State) : Host.Outcome State Fault Refusal := (Op.startBatch.andThen Op.completeBatch).go s

/-- The engine stops (R184): a batch in progress ends with status STOPPED unless it has ended already, and reports; the engine
has stopped once no batch is in progress. The continuation runs then. -/
def Op.stopLamp (stopped : Op) : Op :=
  Op.all
    [ Op.lamp fun l => { l with cur := l.cur.map fun b => { b with status := some (b.status.getD 4) } },
      Op.completeBatch,
      Op.get fun s => Op.when s.blk.lamp.cur.isNone stopped ]

/-- What setting `LAMP_CTRL.RUN` from 0 does when its check passes: every record at or above COUNT becomes not valid (R160). -/
def Op.lampRun : Op := Op.get fun s =>
  let count := s.fld F.LAMP_RECCNT_COUNT
  Op.each ((s.store.valid.filter fun e => e.2 && recKey count ≤ e.1 && e.1 < recKey 65536).map fun e => (e.1 - recKey 0) / 64)
    Op.invalidate

/-- Whether `LAMP_CTRL.RUN` may be set (R172). -/
def State.lampConfigOk (s : State) : Bool := !(s.bit F.LAMP_EVT_CFG_EN) || 4 ≤ s.fld F.LAMP_EVT_CFG_RILL

/-! ### The curve window (R166) -/

/-- Advances `LAMP_CURVE_ADDR.INDEX` by one, stopping at 256. -/
def Op.curveNext : Op := Op.get fun s => Op.set F.LAMP_CURVE_ADDR_INDEX (min (s.fld F.LAMP_CURVE_ADDR_INDEX + 1) 256)

/-- The entry in the window. -/
def State.curveData (s : State) : Nat := s.curve (s.fld F.LAMP_CURVE_ADDR_CURVE) (s.fld F.LAMP_CURVE_ADDR_INDEX)

/-- A read of `LAMP_CURVE_DATA`. -/
def Op.readCurve (k : Word → Op) : Op := Op.get fun s => Op.curveNext.andThen (k (BitVec.ofNat 32 s.curveData))

/-- An accepted write of `LAMP_CURVE_DATA`. -/
def Op.writeCurve (v : Nat) : Op := Op.get fun s =>
  (Op.lamp fun l =>
    { l with
      curves := tput (fun k => 256 * (k % 512)) (512 * s.fld F.LAMP_CURVE_ADDR_CURVE + s.fld F.LAMP_CURVE_ADDR_INDEX)
        (min (v % 2 ^ 17) 65536) l.curves }).andThen Op.curveNext

end Sys2Proof.Machine
end

