-- ==== Sys2Proof/Machine/Corr.lean ====
section
/-!
DEFINITION. Street services (spec/06): the table image, calendar and schedules, the solar position engine, the corridor unit,
the fault coalescing table.
-/
namespace Sys2Proof.Machine

def Op.corr (f : Corr → Corr) : Op := Op.blk fun b => { b with corr := f b.corr }

/-- A 32-bit register read as a signed number. -/
def State.regS (s : State) (a : Nat) : Int := (s.reg a).toInt

/-! ### Configuration and image (R187, R189, R194 to R200, R205) -/

/-- The rills of the enabled units, with the mode each must have (R187). -/
def State.corrRills (s : State) : List (Nat × Bool) :=
  (if s.bit F.CORR_CTRL_COR_EN then [(s.fld F.CORR_RILLS_EVT_IN, false), (s.fld F.CORR_RILLS_COR_OUT, true)] else [])
    ++ (if s.bit F.CORR_CTRL_FLT_EN then [(s.fld F.CORR_RILLS_FLT_IN, true), (s.fld F.CORR_RILLS_FLT_OUT, true)] else [])
    ++ (if s.bit F.CORR_CTRL_SOL_EN || s.bit F.CORR_CTRL_SCHED_EN then [(s.fld F.CORR_SOL_CFG_RILL, false)] else [])

/-- The first failing check of the configuration registers, in the order of R195; 0 when all pass. -/
def State.corrCause (s : State) : Nat :=
  let rills := s.corrRills
  let site (n : Nat) : Bool :=
    (s.regS (A.CORR_SITE_LAT n)).natAbs ≤ 80000000 && (s.regS (A.CORR_SITE_LON n)).natAbs ≤ 180000000
      && s.regS (A.CORR_SITE_DUSK n) ≤ s.regS (A.CORR_SITE_DAWN n)
  let base := (s.reg A.CORR_TBL_BASE).toNat
  if s.fld F.CORR_SEG_SYS_SYSTEM = 0xFFF ∨ s.fld F.CORR_SEG_DS_DISTRICT = 0x3FF ∨ s.fld F.CORR_SEG_DS_SEGMENT = 0xFFF then 1
  else if !((rills.map (·.1)).Nodup) || !(rills.all fun r => s.rillUsable r.1 && s.isPacket (rillNo r.1) == r.2) then 2
  else if s.fld F.CORR_SOL_CFG_PERIOD = 0 ∨ 60 < s.fld F.CORR_SOL_CFG_PERIOD ∨ !((List.range 4).all site) then 3
  else if 8192 < s.fld F.CORR_TBL_CNT1_NODES ∨ 32768 < s.fld F.CORR_TBL_CNT1_EDGES ∨ 256 < s.fld F.CORR_TBL_CNT2_SCHED
      ∨ 128 < s.fld F.CORR_TBL_CNT2_HOL ∨ 32 < s.fld F.CORR_TBL_CNT2_OFFS ∨ s.fld F.CORR_FLT_WIN_MS < 100
      ∨ 3600000 < s.fld F.CORR_FLT_WIN_MS then 10
  else if base % 64 ≠ 0 ∨ !(regionOf base == .basin || regionOf base == .dram) then 11
  else 0

/-- Fields of a node record (R196). -/
def nodeGroup (r : DWord) : Nat := natBits r.toNat 0 10
def nodeValid (r : DWord) : Bool := natBits r.toNat 10 1 == 1
def nodePass (r : DWord) : Bool := natBits r.toNat 11 1 == 1
def nodeProfile (r : DWord) : Nat := natBits r.toNat 12 4
def nodeFirst (r : DWord) : Nat := natBits r.toNat 32 15
def nodeEdges (r : DWord) : Nat := natBits r.toNat 48 4

/-- Whether a node record is accepted (R196, R197). -/
def nodeOk (edges : Nat) (r : DWord) : Bool :=
  nodeGroup r != 0x3FF && natBits r.toNat 16 16 == 0 && natBits r.toNat 47 1 == 0 && natBits r.toNat 52 12 == 0
    && nodeFirst r + nodeEdges r ≤ edges && (nodeValid r || nodeEdges r == 0)

/-- Fields of an edge record, and whether it is accepted (R197). -/
def edgeTo (e : Word) : Nat := natBits e.toNat 0 13
def edgeLen (e : Word) : Nat := natBits e.toNat 16 16

def edgeOk (nodes : List DWord) (e : Word) : Bool :=
  edgeLen e != 0 && natBits e.toNat 13 3 == 0
    && (match nodes[edgeTo e]? with | some r => nodeValid r | none => false)

/-- Whether a schedule record is accepted (R205). -/
def schedOk (siteEn : Nat) (r : DWord × DWord) : Bool :=
  let a := r.1.toNat
  let b := r.2.toNat
  let kind := natBits a 16 2
  natBits a 20 12 == 0 && natBits b 10 6 == 0 && natBits b 32 32 == 0
    && (kind != 1 || natBits a 32 32 ≤ 86399) && (kind < 2 || (natBits a 32 32 ≤ 65535 && natBits siteEn (natBits a 18 2) 1 == 1))

/-- Leap years, and the days of a month, of the Gregorian calendar. -/
def leapYear (y : Int) : Bool := (y % 4 == 0 && y % 100 != 0) || y % 400 == 0

def monthDays (leap : Bool) (m : Nat) : Nat :=
  match m with
  | 1 => 31 | 2 => if leap then 29 else 28 | 3 => 31 | 4 => 30 | 5 => 31 | 6 => 30
  | 7 => 31 | 8 => 31 | 9 => 30 | 10 => 31 | 11 => 30 | 12 => 31
  | _ => 0

/-- Whether a holiday record is accepted (R200). -/
def holidayOk (r : DWord) : Bool :=
  let v := r.toNat
  let d := natBits v 0 8
  let y : Nat := natBits v 16 16
  let recur := natBits v 36 1 == 1
  natBits v 37 27 == 0 && 1 ≤ d && d ≤ monthDays (recur || leapYear y) (natBits v 8 8) && (recur || (2020 ≤ y && y ≤ 2099))

/-- Whether offset record `i` is accepted, given the table (R199). -/
def offsetOk (offs : List (DWord × DWord)) (i : Nat) : Bool :=
  match offs[i]? with
  | none => true
  | some (t, o) =>
    natBits o.toNat 16 48 == 0 && -900 ≤ signedOf 16 o.toNat && signedOf 16 o.toNat ≤ 900
      && (i == 0 || (match offs[i - 1]? with | some (p, _) => p.toNat < t.toNat | none => true))

/-- The pairs of consecutive doublewords. -/
def pairsOf : List DWord → List (DWord × DWord)
  | a :: b :: l => (a, b) :: pairsOf l
  | _ => []

/-- The load fails (R195): no image is in force, and the attempt is logged. -/
def Op.loadFails (o : Op) : Op :=
  Op.all [ Op.corr fun c => { c with image := none }, Op.set F.CORR_STAT_LOADED 0, Op.set F.CORR_STAT_LOADING 0, o ]

/-- A check of the image or the configuration fails: `CONFIG`, `CFG_CAUSE`, `CFG_INDEX` and the record. -/
def Op.corrRefused (cause index : Nat) : Op :=
  Op.loadFails (Op.all
    [ Op.set F.CORR_ERR_CONFIG 1, Op.set F.CORR_ERR_CFG_CAUSE cause, Op.set F.CORR_ERR_CFG_INDEX index,
      Op.logRefused .corr cause index ])

/-- Reads one part of the image and checks its records in index order. -/
def Op.imagePart (off n cause : Nat) (bad : List DWord → Option Nat) (k : List DWord → Op) : Op := Op.get fun s =>
  let a := (s.reg A.CORR_TBL_BASE).toNat + off
  Op.fetchDws Block.corr.num a n fun
    | .error b => Op.draw fun i => Op.loadFails
        ((Op.set F.CORR_ERR_TBLBUS 1).andThen (Op.log 0x000A Block.corr.num b (Config.freeDword i).toNat))
    | .ok vs =>
      match bad vs with
      | some i => Op.corrRefused cause i
      | none => k vs

/-- The first index below `n` at which a record is bad. -/
def firstBad (n : Nat) (ok : Nat → Bool) : Option Nat := (List.range n).find? fun i => !(ok i)

/-! ### Calendar (R198, R200) -/

/-- The first tick after an instant (R206). -/
def nextTick (t : Nat) : Nat := (t / 10000000 + 1) * 10000000

/-- TAI − UTC in force: a value written acts at the next tick (R224). -/
def State.taiUtc (s : State) : Nat :=
  match s.blk.corr.tai with
  | some (old, tick) => if s.now < tick then old else s.fld F.CORR_TAI_UTC_SECONDS
  | none => s.fld F.CORR_TAI_UTC_SECONDS

/-- A write of `CORR_TAI_UTC`: until the next tick the value in force stays. -/
def Op.writeTai (plain : Op) : Op := Op.get fun s =>
  plain.andThen (Op.corr fun c => { c with tai := some (s.taiUtc, nextTick s.now) })

/-- The time base is about to step by `z` ns: a change of `CORR_TAI_UTC` that waits acts at the first tick after the step, and a
tick that comes again is evaluated anew. -/
def Op.corrStep (z : Int) : Op := Op.get fun s => Op.corr fun c =>
  { c with
    tai := c.tai.bind fun p => if s.now < p.2 then some (p.1, nextTick ((s.now : Int) + z).toNat) else none
    updated := none }

/-- UTC seconds of a time base value. -/
def State.utc (s : State) (t : Nat) : Int := (t / 1000000000 : Nat) - (s.taiUtc : Int)

/-- Local seconds of a time base value, by the offset records (R198). -/
def State.localSeconds (s : State) (t : Nat) : Int :=
  let u := s.utc t
  let offs := match s.blk.corr.image with | some im => im.offs | none => []
  let off : Int := match (offs.filter fun o => (o.1.toNat : Int) ≤ u).getLast? with
    | some o => signedOf 16 o.2.toNat
    | none => 0
  u + 60 * off

/-- Day number and second of the day. -/
def dayOf (l : Int) : Int := l / 86400
def todOf (l : Int) : Nat := (l % 86400).toNat

/-- Year, month and day of a day number; day 0 is 1970-01-01. -/
def civil (z : Int) : Int × Nat × Nat :=
  let z := z + 719468
  let era := z / 146097
  let doe := z % 146097
  let yoe := (doe - doe / 1460 + doe / 36524 - doe / 146096) / 365
  let doy := doe - (365 * yoe + yoe / 4 - yoe / 100)
  let mp := (5 * doy + 2) / 153
  let d := doy - (153 * mp + 2) / 5 + 1
  let m := if mp < 10 then mp + 3 else mp - 9
  (yoe + era * 400 + (if m ≤ 2 then 1 else 0), m.toNat, d.toNat)

/-- The day type of a day number (R200). -/
def State.dayType (s : State) (day : Int) : Nat :=
  let (y, m, d) := civil day
  let hols := match s.blk.corr.image with | some im => im.hols | none => []
  let same (r : DWord) : Bool := natBits r.toNat 0 8 == d && natBits r.toNat 8 8 == m
  let recur (r : DWord) : Bool := natBits r.toNat 36 1 == 1
  match hols.find? (fun r => !(recur r) && same r && (natBits r.toNat 16 16 : Int) == y) with
  | some r => natBits r.toNat 32 4
  | none =>
    match hols.find? (fun r => recur r && same r) with
    | some r => natBits r.toNat 32 4
    | none => natBits (s.reg A.CORR_WEEKTYPE).toNat (4 * ((day + 3) % 7).toNat) 4

/-- The read of `CORR_CAL_DATE`: it shows the local date while the calendar is evaluated, and latches `CORR_CAL_TOD`. -/
def Op.latchCalendar : Op := Op.get fun s =>
  let l := s.localSeconds s.now
  let (y, m, d) := civil (dayOf l)
  Op.when (s.timeSet && s.running .corr && s.bit F.CORR_CTRL_SCHED_EN)
    (Op.all
      [ Op.set F.CORR_CAL_DATE_YEAR y.toNat, Op.set F.CORR_CAL_DATE_MONTH m, Op.set F.CORR_CAL_DATE_DAY d,
        Op.set F.CORR_CAL_TOD_SECONDS (todOf l), Op.set F.CORR_CAL_TOD_DTYPE (s.dayType (dayOf l)) ])

/-! ### Results (R208, R214, R217, R219) -/

/-- An output rill of CORR, by its field: as sampled at the write that set `RUN` (R195), also for what is pushed after a stop (R221). -/
def State.corrRill (s : State) (f : Fld) : RillNo :=
  rillNo (match s.blk.corr.rills with
    | some w => if s.running .corr then s.fld f else fieldOf (if f.addr = A.CORR_RILLS then w.1 else w.2) f.lo f.w
    | none => s.fld f)

/-- Pushes the crossing and schedule items that wait, oldest first, while the rill takes them. -/
def Op.pushItems : Nat → Op
  | 0 => Op.skip
  | n + 1 => Op.get fun s =>
    match s.blk.corr.items with
    | [] => Op.skip
    | v :: vs =>
      Op.keepPush (Block.corr.place 1) (s.corrRill F.CORR_SOL_CFG_RILL) v fun
        | .ok => (Op.corr fun c => { c with items := vs }).andThen (Op.pushItems n)
        | _ => Op.skip

/-- Adds crossing or schedule items in order, and pushes what the rill takes. -/
def Op.addItems (l : List DWord) : Op := Op.get fun s =>
  (Op.corr fun c => { c with items := c.items ++ l }).andThen
    (Op.when s.blk.corr.items.isEmpty (Op.pushItems l.length))

/-- Whether a packet waits for `COR_OUT` (`CORR_STAT.OUTWAIT`, R214). -/
def State.outWait (s : State) : Bool := s.blk.corr.held.isSome

/-- Pushes a raise or fall packet, or holds it. -/
def Op.corPacket (flags : Word) (body : List DWord) : Op := Op.get fun s =>
  Op.hwPacket .corr 2 (s.corrRill F.CORR_RILLS_COR_OUT) flags body fun
    | .ok => Op.skip
    | _ => (Op.corr fun c => { c with held := some (flags, body) }).andThen (Op.inc A.CORR_OUT_WAIT)

/-- Tries the held packet again. -/
def Op.retryPacket : Op := Op.get fun s =>
  match s.blk.corr.held with
  | none => Op.skip
  | some (flags, body) => Op.hwPacket .corr 2 (s.corrRill F.CORR_RILLS_COR_OUT) flags body fun
    | .ok => Op.corr fun c => { c with held := none }
    | _ => Op.skip

/-- The five body words of an OPEN or SUMMARY event (R217). -/
def faultWords (e : FaultEntry) : List DWord :=
  [ BitVec.ofNat 64 (e.code + e.sev * 2 ^ 16 + e.who * 2 ^ 20 + natBits e.subj 63 1 * 2 ^ 34),
    BitVec.ofNat 64 (e.subj % 2 ^ 63), BitVec.ofNat 64 (e.first % 2 ^ 63), BitVec.ofNat 64 (e.last % 2 ^ 63),
    BitVec.ofNat 64 e.count ]

/-- Kind and body of a fault event (R217). -/
def State.faultPacket (s : State) : FaultEvent → Nat × List DWord
  | .opened body => (1, body)
  | .summary id => (2, match s.blk.corr.faults.find? (·.id == id) with | some e => faultWords e | none => [])
  | .full => (3, [4096])
  | .clear lost => (4, [BitVec.ofNat 64 lost])

/-- What pushing an event does to the table: a pushed summary frees its entry, and the first entry freed after a full table
posts TABLE_CLEAR (R216, R218). -/
def Corr.pushed (c : Corr) (e : FaultEvent) : Corr :=
  match e with
  | .summary id =>
    { c with
      faults := c.faults.filter (·.id != id)
      events := match c.lost with | some n => c.events ++ [.clear n] | none => c.events
      lost := none }
  | _ => c

/-- Pushes the fault events that wait, oldest first, while the rill takes them. -/
def Op.pushFaults : Nat → Op
  | 0 => Op.skip
  | n + 1 => Op.get fun s =>
    match s.blk.corr.events with
    | [] => Op.skip
    | e :: es =>
      let (kind, body) := s.faultPacket e
      Op.hwPacket .corr 3 (s.corrRill F.CORR_RILLS_FLT_OUT) (BitVec.ofNat 32 kind) body fun
        | .ok => (Op.corr fun c => ({ c with events := es } : Corr).pushed e).andThen (Op.pushFaults n)
        | _ => Op.skip

/-- Adds fault events in order and pushes what the rill takes; an OPEN event that finds 8 of its kind waiting is dropped and
counted (R219). -/
def Op.addFault (e : FaultEvent) : Op := Op.get fun s =>
  let waiting := s.blk.corr.events.countP fun | .opened _ => true | _ => false
  let add := Op.corr fun c => { c with events := c.events ++ [e] }
  let push := Op.when s.blk.corr.events.isEmpty (Op.pushFaults 2)
  match e with
  | .opened _ => if waiting < 8 then add.andThen push else Op.inc A.CORR_FLT_EVLOST
  | _ => add.andThen push

/-! ### Schedules and the sun (R201 to R208) -/

/-- A schedule item (R208). -/
def schedItem (i : Nat) (r : DWord × DWord) (late : Bool) : DWord :=
  BitVec.ofNat 64
    (0x10 + i * 2 ^ 8 + natBits r.2.toNat 0 10 * 2 ^ 16 + bit01 late * 2 ^ 26 + natBits r.2.toNat 16 16 * 2 ^ 32)

/-- A crossing item (R203). -/
def crossItem (kind site : Nat) (el : Int) : DWord :=
  BitVec.ofNat 64 (kind + site * 2 ^ 8 + unsignedOf 32 el * 2 ^ 16)

/-- Whether a schedule entry's `DAYS` names a day type. -/
def onDay (r : DWord × DWord) (dtype : Nat) : Bool := natBits r.1.toNat dtype 1 == 1

/-- A clock entry at a tick (R206, R207): the answer says that it fires, and whether late. -/
def State.clockFires (s : State) (t : Nat) (i : Nat) (r : DWord × DWord) : Option Bool :=
  let l := s.localSeconds t
  let time := natBits r.1.toNat 32 32
  if natBits r.1.toNat 16 2 = 1 ∧ time ≤ todOf l ∧ onDay r (s.dayType (dayOf l)) ∧ (i, dayOf l) ∉ s.blk.corr.fired then
    some (!(todOf l == time && t % 1000000000 == 0))
  else none

/-- A schedule entry fires: its latch for the date sets, and its item is queued. -/
def Op.fireEntry (i : Nat) (r : DWord × DWord) (day : Int) (late : Bool) : Op :=
  Op.all
    [ Op.corr fun c => { c with fired := (i, day) :: c.fired },
      Op.when late (Op.inc A.CORR_SCHED_LATE),
      Op.addItems [schedItem i r late] ]

/-- Fires the entries of one tick, by entry index (R206, R208). -/
def Op.fireSchedule (t : Nat) : Op := Op.get fun s =>
  let entries := match s.blk.corr.image with | some im => im.sched | none => []
  Op.each (List.range entries.length) fun i => Op.get fun s =>
    match entries[i]? with
    | none => Op.skip
    | some r =>
      let due := s.blk.corr.solar.filter fun p =>
        p.1 == i && p.2.1 + natBits r.1.toNat 32 32 * 1000000000 < t
      Op.all
        [ match s.clockFires t i r with
          | some late => Op.fireEntry i r (dayOf (s.localSeconds t)) late
          | none => Op.skip,
          Op.each due fun p => Op.get fun s =>
            (Op.corr fun c => { c with solar := c.solar.filter (· != p) }).andThen
              (Op.when (onDay r (s.dayType p.2.2) && !((i, p.2.2) ∈ s.blk.corr.fired)) (Op.fireEntry i r p.2.2 false)) ]

/-- Whether an instant in ns UTC lies in the years for which R202 states an accuracy: 2020 to 2099. -/
def sunDates (utcNs : Int) : Bool := 1577836800000000000 ≤ utcNs && utcNs < 4102444800000000000

/-- The engine's geometric elevation of the sun's centre, in 0.001°: within 0.05° of the true one (R202; log entry 5). -/
def geometricElevation (lat lon : Word) (utcNs : Int) : Int :=
  if sunDates utcNs then Config.trueElevation lat lon utcNs - 50 + (Config.elevationError lat lon utcNs).val
  else Config.sunElevation lat lon utcNs

/-- The engine's azimuth in 0.001°: within 0.1° of the true one while the elevation is below 80° (R202; log entry 5). -/
def sunAzimuth (lat lon : Word) (utcNs : Int) : Nat :=
  if sunDates utcNs && Config.trueElevation lat lon utcNs < 80000 then
    ((Config.trueAzimuth lat lon utcNs).val + 359900 + (Config.azimuthError lat lon utcNs).val) % 360000
  else (Config.sunAzimuth lat lon utcNs).val

/-- The elevation and azimuth of the sun over a site at an instant in ns UTC; with `REFR` refraction is added to an elevation
above −1° (R202). -/
def State.sun (s : State) (n : Nat) (utcNs : Int) : Int × Word :=
  let lat := s.reg (A.CORR_SITE_LAT n)
  let lon := s.reg (A.CORR_SITE_LON n)
  let g := geometricElevation lat lon utcNs
  (if s.bit F.CORR_SOL_CFG_REFR && -1000 < g then g + Config.refraction g else g, BitVec.ofNat 32 (sunAzimuth lat lon utcNs))

/-- A crossing makes the dusk or dawn entries of the site wait for their delay (R203, R206). -/
def Op.crossed (site kind : Nat) (t : Nat) : Op := Op.get fun s =>
  let entries := match s.blk.corr.image with | some im => im.sched | none => []
  let hit := (List.range entries.length).filter fun i =>
    match entries[i]? with
    | some r => natBits r.1.toNat 16 2 == kind && natBits r.1.toNat 18 2 == site
    | none => false
  Op.when (s.bit F.CORR_CTRL_SCHED_EN)
    (Op.corr fun c => { c with solar := c.solar ++ hit.map fun i => (i, t, dayOf (s.localSeconds t)) })

/-- The update of one site at the whole second `t` (R201, R203). -/
def Op.updateSite (t n : Nat) : Op := Op.get fun s =>
  let (el, az) := s.sun n (s.utc t * 1000000000)
  let dusk := s.regS (A.CORR_SITE_DUSK n)
  let dawn := s.regS (A.CORR_SITE_DAWN n)
  let cross (st kind : Nat) (then_ : Op) : Op :=
    Op.all [ Op.set (F.CORR_SITE_STATE_STATE n) st, Op.addItems [crossItem kind n el], then_ ]
  Op.all
    [ Op.setReg (A.CORR_SITE_EL n) (unsignedOf 32 el),
      Op.corr fun c => { c with azimuth := c.azimuth.setIfInBounds n az },
      match s.fld (F.CORR_SITE_STATE_STATE n) with
      | 1 => Op.when (el < dusk) (cross 2 1 (Op.crossed n 2 t))
      | 2 => Op.when (dawn < el) (cross 1 2 (Op.crossed n 3 t))
      | _ => if el ≤ dusk then cross 2 4 Op.skip else cross 1 3 Op.skip ]

/-- Whether CORR works: it runs, and no stop is in progress. -/
def State.corrWorks (s : State) : Bool := s.running .corr && !(s.blk.stopping.getLsbD Block.corr.num)

/-- The solar engine updates every enabled site, where the UTC second of the whole second `t` is a multiple of PERIOD (R201). -/
def Op.solarUpdate (t : Nat) : Op := Op.get fun s =>
  Op.when (s.corrWorks && s.bit F.CORR_CTRL_SOL_EN && s.timeSet && s.utc t % (s.fld F.CORR_SOL_CFG_PERIOD : Int) == 0)
    ((Op.corr fun c => { c with updated := some t }).andThen
      (Op.each (List.range 4) fun n =>
        Op.when (natBits (s.fld F.CORR_SOL_CFG_SITE_EN) n 1 == 1) (Op.updateSite t n)))

/-- The update of the present second. -/
def execSolarUpdate (s : State) : Host.Outcome State Fault Refusal :=
  (Op.solarUpdate (s.now / 1000000000 * 1000000000)).go s

/-- A write of `CORR_SOL_QT_HI` (R204). -/
def Op.solarQuery (v : Word) : Op := Op.get fun s =>
  if s.blk.corr.query.isSome then Op.set F.CORR_SOL_QSTAT_COLLIDE 1
  else
    Op.all
      [ Op.putReg A.CORR_SOL_QT_HI v,
        Op.set F.CORR_SOL_QSTAT_BUSY 1,
        Op.set F.CORR_SOL_QSTAT_DONE 0,
        Op.corr fun c =>
          { c with query := some (v.toNat * 2 ^ 32 + (s.reg A.CORR_SOL_QT_LO).toNat, s.fld F.CORR_SOL_QCTL_SITE) } ]

/-- A write of `QT_HI` with the value `v` starts a query, or is ignored while one runs (R204). -/
def execSolarQuery (v : Word) (s : State) : Host.Outcome State Fault Refusal := (Op.on .corr (Op.solarQuery v)).go s

/-- A query completes (R204); it uses the calendar's present `TAI_UTC`. -/
def execSolarQueryDone (s : State) : Host.Outcome State Fault Refusal :=
  (match s.blk.corr.query with
    | none => Op.skip
    | some (t, n) =>
      let (el, az) := s.sun n ((t : Int) - s.taiUtc * 1000000000)
      Op.on .corr (Op.all
        [ Op.setReg A.CORR_SOL_QEL (unsignedOf 32 el),
          Op.corr fun c => { c with queryAz := az, query := none },
          Op.set F.CORR_SOL_QSTAT_BUSY 0,
          Op.set F.CORR_SOL_QSTAT_DONE 1 ])).go s

/-! ### Corridor unit (R209 to R214) -/

def State.node (s : State) (m : Nat) : Node :=
  (tget (fun _ => none) s.blk.corr.nodes m).getD { seen := none, lvl := 0, hold := 0, fall := 0, prof := 0 }

def Op.setNode (m : Nat) (n : Node) : Op :=
  Op.corr fun c => { c with nodes := tput (fun _ => none) m (some n) c.nodes }

/-- The outgoing edges of a node, in table order: target and length. -/
def Image.edgesOf (im : Image) (m : Nat) : List (Nat × Nat) :=
  match im.nodes[m]? with
  | some r => ((im.edges.drop (nodeFirst r)).take (nodeEdges r)).map fun e => (edgeTo e, edgeLen e)
  | none => []

/-- The unsettled node with the least distance, the lower number first. -/
def nearest (dist : List (Nat × Nat)) : Option (Nat × Nat) :=
  dist.foldl (fun best p =>
    match best with
    | none => some p
    | some b => if p.2 < b.2 ∨ (p.2 = b.2 ∧ p.1 < b.1) then some p else best) none

/-- Lowers the distance of a node. -/
def relax (dist : List (Nat × Nat)) (m d : Nat) : List (Nat × Nat) :=
  match dist.find? (·.1 == m) with
  | some p => if d < p.2 then (m, d) :: dist.filter (·.1 != m) else dist
  | none => (m, d) :: dist

/-- The walk of R211: `dist` holds the unsettled nodes with a distance; the answer is the settled nodes in order, and whether
the walk was cut at 256 with a node within the lead left. -/
def walk (im : Image) (behind : List Nat) (lead : Nat) : Nat → List (Nat × Nat) → List Nat → List Nat × Bool
  | 0, dist, settled => (settled, match nearest dist with | some p => p.2 ≤ lead | none => false)
  | fuel + 1, dist, settled =>
    match nearest dist with
    | none => (settled, false)
    | some (m, d) =>
      if lead < d then (settled, false)
      else
        let settled := settled ++ [m]
        let dist := (im.edgesOf m).foldl (fun dist e =>
          if behind.contains e.1 || settled.contains e.1 then dist else relax dist e.1 (d + e.2))
          (dist.filter (·.1 != m))
        walk im behind lead fuel dist settled

/-- The raise of one node (R211): the hold is extended, the fall time replaced, and the answer says whether its level rose. -/
def Node.raise (n : Node) (prof level hold fall : Nat) : Node × Bool :=
  ({ n with
      hold := max n.hold hold
      fall := fall
      lvl := max n.lvl level
      prof := if n.lvl < level ∨ n.hold < hold then prof else n.prof },
    n.lvl < level)

/-- Raises nodes in order; the continuation gets those whose level rose. -/
def Op.raiseAll (prof level hold fall : Nat) : List Nat → (List Nat → Op) → Op
  | [], k => k []
  | m :: ms, k => Op.get fun s =>
    let (n, rose) := (s.node m).raise prof level hold fall
    (Op.setNode m n).andThen (Op.raiseAll prof level hold fall ms fun l => k (if rose then m :: l else l))

/-- A presence event that CORR accepts (R209, R211, R213). -/
def Op.corridorWalk (im : Image) (n prof : Nat) (alldir : Bool) : Op := Op.get fun s =>
  let t := s.now
  let track := s.fld F.CORR_TRACK_SECONDS * 1000000000
  let recent (m : Nat) : Bool := match (s.node m).seen with | some w => t ≤ w + track | none => false
  let behind := if alldir then [] else ((im.edgesOf n).map (·.1)).filter recent
  let (settled, cut) := walk im behind (s.fld (F.CORR_PROF_A_LEAD prof)) 256 [(n, 0)] []
  let level := s.fld (F.CORR_PROF_A_LEVEL prof)
  let hold := s.fld (F.CORR_PROF_B_HOLD prof)
  let raisable := settled.filter fun m => match im.nodes[m]? with | some r => !(nodePass r) | none => false
  Op.all
    [ Op.inc A.CORR_WALKS,
      Op.setNode n { s.node n with seen := some t },
      Op.when cut (Op.inc A.CORR_TRUNC),
      Op.raiseAll prof level (t + hold * 1000000000) (s.fld (F.CORR_PROF_B_FALL prof)) raisable fun rose =>
        Op.when (!rose.isEmpty)
          (Op.corPacket (BitVec.ofNat 32 (1 + n * 2 ^ 16))
            (rose.map fun m => BitVec.ofNat 64 (m + level * 2 ^ 16 + hold * 2 ^ 32 + prof * 2 ^ 48))) ]

/-- CORR consumes the next presence event: it walks, or refuses the event, counts and logs it (R209). -/
def execPresenceEvent (s : State) : Host.Outcome State Fault Refusal :=
  (match s.blk.corr.image with
    | none => Op.skip
    | some im =>
      Op.when (s.corrWorks && s.bit F.CORR_CTRL_COR_EN && !s.outWait)
        (Op.hwPop (rillNo (s.fld F.CORR_RILLS_EVT_IN)) fun ev => Op.get fun s =>
          let v := ev.toNat
          let n := natBits v 6 14
          let l3 := natBits v 20 10
          let r := (im.nodes[n]?).getD 0
          let prof := if natBits v 47 1 = 1 then natBits v 43 4 else nodeProfile r
          if natBits v 30 12 = s.fld F.CORR_SEG_DS_SEGMENT ∧ n < im.nodes.length ∧ nodeValid r
              ∧ (l3 = 0x3FF ∨ l3 = nodeGroup r) ∧ natBits v 48 15 = 0 ∧ s.fld (F.CORR_PROF_A_LEVEL prof) ≠ 0 then
            Op.corridorWalk im n prof (natBits v 42 1 == 1)
          else
            let place := s.fld F.CORR_SEG_SYS_SYSTEM * 2 ^ 52 + s.fld F.CORR_SEG_DS_DISTRICT * 2 ^ 42 + natBits v 0 42
            (Op.inc A.CORR_EVT_BAD).andThen (Op.draw fun i =>
              Op.log (0x0100 + (Config.refusedKind Block.corr.num).val) Block.corr.num place (Config.freeDword i).toNat))).go s

/-- Nodes fall at a tick (R212, R213). -/
def Op.fallNodes (t : Nat) : Op := Op.get fun s =>
  let down := (s.blk.corr.nodes.filter fun e =>
    match e.2 with | some n => n.lvl != 0 && n.hold ≤ t | none => false).map (·.1)
  Op.when (!down.isEmpty)
    ((Op.each down fun m => Op.get fun s => Op.setNode m { s.node m with lvl := 0 }).andThen
      (Op.corPacket 2 (down.map fun m =>
        BitVec.ofNat 64 (m + (s.node m).fall * 2 ^ 16 + (s.node m).prof * 2 ^ 48))))

/-! ### Fault coalescing (R215 to R220) -/

/-- Closes entries: their summaries are queued in the order in which the entries were opened (R216). -/
def Op.closeFaults (p : FaultEntry → Bool) : Op := Op.get fun s =>
  let hit := s.blk.corr.faults.filter fun e => e.phase != 2 && p e
  (Op.corr fun c =>
    { c with faults := c.faults.map fun e => if e.phase != 2 && p e then { e with phase := 2 } else e }).andThen
    (Op.each hit fun e => Op.addFault (.summary e.id))

/-- A report opens an entry, or is lost on a full table (R216, R218). -/
def Op.openFault (code subj sev who : Nat) : Op := Op.get fun s =>
  let c := s.blk.corr
  if 4096 ≤ c.faults.length then
    (Op.inc A.CORR_FLT_OVERFLOW).andThen
      (match c.lost with
        | some n => Op.corr fun c => { c with lost := some (n + 1) }
        | none => (Op.corr fun c => { c with lost := some 1 }).andThen (Op.addFault .full))
  else
    let e : FaultEntry :=
      { id := c.nextId, code := code, subj := subj, sev := sev, who := who, count := 1, first := s.now, last := s.now,
        opened := s.now, phase := 0 }
    (Op.corr fun c => { c with faults := c.faults ++ [e], nextId := c.nextId + 1 }).andThen (Op.addFault (.opened (faultWords e)))

/-- A well-formed report (R216). -/
def Op.faultReport (code subj sev who : Nat) : Op := Op.get fun s =>
  let t := s.now
  let win := s.fld F.CORR_FLT_WIN_MS * 1000000
  (Op.inc A.CORR_FLT_REPORTS).andThen
    (match s.blk.corr.faults.find? fun e => e.phase == 0 && e.code == code && e.subj == subj with
      | some e =>
        if t < e.opened + win then
          Op.corr fun c =>
            { c with faults := c.faults.map fun f =>
                if f.id == e.id then
                  { f with count := satAdd 32 f.count 1, first := min f.first t, last := max f.last t, sev := max f.sev sev }
                else f }
        else (Op.closeFaults (·.id == e.id)).andThen (Op.openFault code subj sev who)
      | none => Op.openFault code subj sev who)

/-- CORR consumes the next fault report; a malformed packet is discarded and counted (R215, R216). -/
def execFaultReport (s : State) : Host.Outcome State Fault Refusal :=
  (Op.when (s.corrWorks && s.bit F.CORR_CTRL_FLT_EN)
    (Op.hwPopPacket (rillNo (s.fld F.CORR_RILLS_FLT_IN)) fun _ body =>
      match body with
      | [a, b] =>
        let v := a.toNat
        if natBits v 0 16 ≠ 0 ∧ natBits v 35 28 = 0 then
          Op.faultReport (natBits v 0 16) (natBits b.toNat 0 63 + natBits v 34 1 * 2 ^ 63) (natBits v 16 4) (natBits v 20 14)
        else Op.inc A.CORR_FLT_BADIN
      | _ => Op.inc A.CORR_FLT_BADIN)).go s

/-- A write of 1 to `CORR_FLT_FLUSH.FLUSH`: every open entry closes at the next tick (R220). -/
def Op.flushFaults : Op :=
  Op.corr fun c => { c with faults := c.faults.map fun e => if e.phase = 0 then { e with phase := 1 } else e }

/-- Marks every open fault entry to close at the next tick (R220). -/
def execCorrFltFlush (s : State) : Host.Outcome State Fault Refusal := (Op.on .corr Op.flushFaults).go s

/-- CORR evaluates the latest tick, the last multiple of 10 ms of the time base: schedule entries, falls, fault windows
(R206, R212, R216). Ticks are deferred while a packet waits for `COR_OUT` (R214). The crossing items of a tick come before its
schedule items (R208): an update that is due at the tick and has not been made is made first (log entry 29). -/
def execCorrTick (s : State) : Host.Outcome State Fault Refusal :=
  (let t := s.now / 10000000 * 10000000
   Op.when (s.corrWorks && !s.outWait)
    (Op.all
      [ Op.when (t % 1000000000 == 0 && s.blk.corr.updated != some t) (Op.solarUpdate t),
        Op.when (s.bit F.CORR_CTRL_SCHED_EN && s.timeSet) (Op.fireSchedule t),
        Op.when (s.bit F.CORR_CTRL_COR_EN && s.timeSet) (Op.fallNodes t),
        Op.when (s.bit F.CORR_CTRL_FLT_EN)
          (Op.closeFaults fun e => e.phase == 1 || e.opened + s.fld F.CORR_FLT_WIN_MS * 1000000 ≤ t) ])).go s

/-- CORR pushes what waits for its output rills, as far as they have room (R208, R214, R219); also while it is stopped (R221). -/
def execCorrResultPush (s : State) : Host.Outcome State Fault Refusal :=
  (Op.on .corr (Op.all
    [ Op.retryPacket, Op.pushItems s.blk.corr.items.length, Op.pushFaults (s.blk.corr.events.length + 1) ])).go s

/-! ### Start and stop (R195, R221) -/

/-- The write that sets `CORR_CTRL.RUN`: the registers are checked, then the load of the image begins (R195). A write of 1
while a load runs has no effect. -/
def Op.corrStart : Op := Op.get fun s =>
  if s.bit F.CORR_STAT_LOADING then Op.skip
  else
    match s.corrCause with
    | 0 => Op.set F.CORR_STAT_LOADING 1
    | cause => Op.corrRefused cause 0

/-- A write of 0 to `RUN` while the image loads abandons the load (R195). -/
def Op.corrAbandon : Op :=
  Op.all [ Op.corr fun c => { c with image := none }, Op.set F.CORR_STAT_LOADED 0, Op.set F.CORR_STAT_LOADING 0 ]

/-- What CORR keeps and forgets at a start (R221): nodes that are no longer valid are forgotten; clock entries of the present
date whose instant lay before the stop count as fired; solar entries follow the first update. -/
def State.corrResumed (s : State) (im : Image) : Corr :=
  let c := s.blk.corr
  let fired : List (Nat × Int) :=
    match c.stopped with
    | none => []
    | some t0 =>
      let l0 := s.localSeconds t0
      let day := dayOf (s.localSeconds s.now)
      ((List.range im.sched.length).filter fun i =>
        match im.sched[i]? with
        | some r => natBits r.1.toNat 16 2 == 1 && day * 86400 + (natBits r.1.toNat 32 32 : Nat) ≤ l0
        | none => false).map fun i => (i, day)
  { c with
    nodes := c.nodes.filter fun e => match im.nodes[e.1]? with | some r => nodeValid r | none => false
    fired := fired
    solar := [] }

/-- The table image load ends: every part is read and checked in image order; success sets `RUN`, a failure is reported
(R195). -/
def execTableImageLoad (s : State) : Host.Outcome State Fault Refusal :=
  (let nn := s.fld F.CORR_TBL_CNT1_NODES
   let ne := s.fld F.CORR_TBL_CNT1_EDGES
   Op.when (s.powered .corr && s.bit F.CORR_STAT_LOADING)
    (Op.imagePart 0 nn 4 (fun l => firstBad nn fun i => nodeOk ne (l.getD i 0)) fun nodes =>
      let edgesOf (l : List DWord) : List Word := (l.flatMap fun d => [loWord d, hiWord d]).take ne
      Op.imagePart 0x10000 ((ne + 1) / 2) 5 (fun l => firstBad ne fun i => edgeOk nodes ((edgesOf l).getD i 0)) fun edges =>
      Op.imagePart 0x30000 (2 * s.fld F.CORR_TBL_CNT2_SCHED) 6
        (fun l => firstBad (l.length / 2) fun i => schedOk (s.fld F.CORR_SOL_CFG_SITE_EN) ((pairsOf l).getD i (0, 0))) fun sched =>
      Op.imagePart 0x31000 (s.fld F.CORR_TBL_CNT2_HOL) 7 (fun l => firstBad l.length fun i => holidayOk (l.getD i 0)) fun hols =>
      Op.imagePart 0x31400 (2 * s.fld F.CORR_TBL_CNT2_OFFS) 8
        (fun l => firstBad (l.length / 2) fun i => offsetOk (pairsOf l) i) fun offs =>
      let im : Image := ⟨nodes, edgesOf edges, pairsOf sched, hols, pairsOf offs⟩
      Op.all
        [ Op.corr fun c => { c with image := some im },
          Op.get fun s => Op.corr fun _ => s.corrResumed im,
          Op.set F.CORR_STAT_LOADED 1,
          Op.set F.CORR_STAT_LOADING 0,
          Op.set F.CORR_CTRL_RUN 1 ])).go s

/-- CORR stops: the time of the stop is kept, and the output rills of what it still holds (R221). -/
def Op.stopCorr : Op := Op.get fun s =>
  Op.corr fun c => { c with
    stopped := if s.timeSet then some s.now else none
    rills := some (s.reg A.CORR_RILLS, s.reg A.CORR_SOL_CFG) }

end Sys2Proof.Machine
end

