-- ==== Sys2Proof/Machine/Eth.lean ====
section
/-!
DEFINITION. The Ethernet ports (spec/09), sending side: descriptors, segmentation, frames on the wire, completions, link and
pause, the MDIO master. Port 0 is A, port 1 is B.
-/
namespace Sys2Proof.Machine

/-- The block of a port. -/
def ethBlock (x : Fin 2) : Block := if x = 0 then .etha else .ethb

def State.eth (s : State) (x : Fin 2) : EthPort := s.blk.net.ports[x]

def Op.net (f : Net → Net) : Op := Op.blk fun b => { b with net := f b.net }

def Op.eth (x : Fin 2) (f : EthPort → EthPort) : Op := Op.net fun n => { n with ports := n.ports.set x (f n.ports[x]) }

def State.linkUp (s : State) (x : Fin 2) : Bool := s.bit (F.ETH_STAT_LINK x)
def State.paused (s : State) (x : Fin 2) : Bool := s.bit (F.ETH_STAT_PAUSED x)

/-! ### Bytes of frames -/

/-- Replaces the bytes from `off`. -/
def patch (off : Nat) (new bs : List Byte) : List Byte := bs.take off ++ new ++ bs.drop (off + new.length)

/-- The big-endian number of `n` bytes at `off`. -/
def beAt (off n : Nat) (bs : List Byte) : Nat := beNat ((bs.drop off).take n)

/-- The ones' complement sum of 16-bit words. -/
def sum16 : List Byte → Nat
  | a :: b :: l => a.toNat * 256 + b.toNat + sum16 l
  | [a] => a.toNat * 256
  | [] => 0

/-- The internet checksum over bytes whose checksum field is zero. -/
def checksum (n : Nat) : Nat := 65535 - (if n = 0 then 0 else (n - 1) % 65535 + 1)

/-- Where a frame's EtherType stands, behind a tag if it has one. -/
def etypeAt (f : List Byte) : Nat := if beAt 12 2 f = 0x8100 then 16 else 12
def etype (f : List Byte) : Nat := beAt (etypeAt f) 2 f
def isIpv4 (f : List Byte) : Bool := etype f == 0x0800
/-- Where the IPv4 header and the layer above it start. -/
def ipAt (f : List Byte) : Nat := etypeAt f + 2
def ihl (f : List Byte) : Nat := 4 * (beAt (ipAt f) 1 f % 16)
def l4At (f : List Byte) : Nat := ipAt f + ihl f
def ipProto (f : List Byte) : Nat := beAt (ipAt f + 9) 1 f
/-- An IPv4 frame that carries UDP or TCP and is no fragment. -/
def isL4 (f : List Byte) : Bool :=
  isIpv4 f && (ipProto f == 17 || ipProto f == 6) && beAt (ipAt f + 6) 2 f % 2 ^ 14 == 0
def isUdp (f : List Byte) : Bool := isL4 f && ipProto f == 17
def l4Len (f : List Byte) : Nat := beAt (ipAt f + 2) 2 f - ihl f

/-- Sum of the IPv4 header, and of the pseudo header with the segment (R302). -/
def ipSum (f : List Byte) : Nat := sum16 ((f.drop (ipAt f)).take (ihl f))
def l4Sum (f : List Byte) : Nat :=
  sum16 ((f.drop (ipAt f + 12)).take 8) + ipProto f + l4Len f + sum16 ((f.drop (l4At f)).take (l4Len f))

/-- The frame with its IPv4 header checksum computed. -/
def withIpSum (f : List Byte) : List Byte :=
  let g := patch (ipAt f + 10) [0, 0] f
  if isIpv4 f then patch (ipAt f + 10) (beBytes 2 (checksum (ipSum g))) g else f

/-- Where the UDP or TCP checksum stands. -/
def l4SumAt (f : List Byte) : Nat := l4At f + (if ipProto f = 17 then 6 else 16)

/-- The frame with its UDP or TCP checksum computed; a UDP checksum of 0 is sent as 0xFFFF. -/
def withL4Sum (f : List Byte) : List Byte :=
  let g := patch (l4SumAt f) [0, 0] f
  let c := checksum (l4Sum g)
  if isL4 f then patch (l4SumAt f) (beBytes 2 (if c = 0 ∧ ipProto f = 17 then 0xFFFF else c)) g else f

/-- The frame with a UDP checksum of 0 where it is an IPv4 frame. -/
def noUdpSum (f : List Byte) : List Byte := if isUdp f then patch (l4At f + 6) [0, 0] f else f

/-! ### Descriptors (R306 to R308) -/

/-- A flag of a descriptor: 0 `IPCSUM`, 1 `L4CSUM`, 2 `VLAN`, 3 `TSREQ`, 4 `TSINS`, 5 `DERIVE`. -/
def SendDesc.flag (d : SendDesc) (i : Nat) : Bool := natBits d.flags i 1 == 1

/-- The fields of the 64 bytes of a descriptor. -/
def sendDescOf (bs : List Byte) : SendDesc :=
  let n (o w : Nat) : Nat := leNat ((bs.drop o).take w)
  { kind := n 0 1, flags := n 1 1, tci := n 2 2, hlen := n 4 2, seg := n 6 2, hdr := n 8 4, body := n 12 4, blen := n 16 4,
    tsoff := n 0x14 2, paOff := n 0x18 2, paStart := n 0x1A 2, pbOff := n 0x1C 2, pbValue := n 0x1E 1, ipid := n 0x20 2 }

/-- Whether the reserved bytes of a descriptor are zero (R306). -/
def sendReserved (bs : List Byte) : Bool :=
  leNat ((bs.drop 0x16).take 2) == 0 && leNat ((bs.drop 0x1F).take 1) == 0 && leNat ((bs.drop 0x22).take 6) == 0

/-- How many frames a send has, and how many body bytes the frame `i` carries from which place. -/
def SendDesc.frames (d : SendDesc) : Nat := if d.kind = 0 then 1 else (d.blen + d.seg - 1) / d.seg
def SendDesc.shareAt (d : SendDesc) (i : Nat) : Nat := if d.kind = 0 then 0 else i * d.seg
def SendDesc.share (d : SendDesc) (i : Nat) : Nat := if d.kind = 0 then d.blen else min d.seg (d.blen - i * d.seg)

/-- Whether a descriptor keeps the rules of R306 to R308 and no frame of it is above `maxlen` bytes (R309: status 2). -/
def SendDesc.ok (d : SendDesc) (maxlen : Nat) : Bool :=
  let patchOk (off n : Nat) : Bool := off == 0 || (42 ≤ off && off + n ≤ d.hlen)
  d.kind ≤ 2 && natBits d.flags 6 2 == 0 && (d.blen != 0 || d.body == 0)
    && d.hlen + d.share 0 + 4 + (if d.flag 2 then 4 else 0) ≤ maxlen
    && (match d.kind with
        | 0 => 14 ≤ d.hlen && d.hlen ≤ 9212 && d.seg == 0 && (!(d.flag 4) || d.tsoff + 10 ≤ d.hlen + d.blen)
        | 1 => 54 ≤ d.hlen && d.hlen ≤ 256 && d.seg != 0 && d.blen ≤ 262144 && d.flag 0 && d.flag 1
        | _ => 42 ≤ d.hlen && d.hlen ≤ 256 && d.seg != 0 && d.blen ≤ 262144 && patchOk d.paOff 2 && patchOk d.pbOff 1
            && (!(d.flag 5) || (d.flag 0 && d.paOff != 0)))

/-- Segment `i` of a TCP send (R307), from the header copy and its share of the body. -/
def tcpSegment (d : SendDesc) (i : Nat) (hdr share : List Byte) : List Byte :=
  let f := hdr ++ share
  let o := l4At f
  let keep (bit : Nat) (b : Bool) : Nat := if b then 0 else 2 ^ bit
  let drop : BitVec 8 := BitVec.ofNat 8 (keep 0 (i + 1 == d.frames) + keep 3 (i + 1 == d.frames) + keep 7 (i == 0))
  let f := patch (ipAt f + 2) (beBytes 2 (f.length - ipAt f)) f
  let f := patch (ipAt f + 4) (beBytes 2 (d.ipid + i)) f
  let f := patch (o + 4) (beBytes 4 (beAt (o + 4) 4 f + i * d.seg)) f
  let f := patch (o + 13) [BitVec.ofNat 8 (beAt (o + 13) 1 f) &&& ~~~ drop] f
  withL4Sum (withIpSum f)

/-- Segment `i` of a UDP send (R308). -/
def udpSegment (d : SendDesc) (i : Nat) (hdr share : List Byte) : List Byte :=
  let f := hdr ++ share
  let u := (d.paStart + i) % 2 ^ 16
  let f := patch (ipAt f + 2) (beBytes 2 (f.length - ipAt f)) f
  let f := patch (ipAt f + 4) (beBytes 2 (d.ipid + i)) f
  let f := patch (l4At f + 4) (beBytes 2 (f.length - l4At f)) f
  let f := if d.paOff = 0 then f else patch d.paOff (beBytes 2 u) f
  let f := if d.pbOff = 0 then f else patch d.pbOff (beBytes 1 d.pbValue) f
  let f := if d.flag 5 then patch (ipAt f + 16) (239 :: 255 :: beBytes 2 u) (patch 0 (0x01 :: 0x00 :: 0x5E :: 0x7F :: beBytes 2 u) f)
    else f
  let f := if d.flag 0 then withIpSum f else f
  if d.flag 1 then withL4Sum f else patch (l4At f + 6) [0, 0] f

/-- A kind 0 frame: header and body, with the checksums its flags ask for (R306). -/
def singleFrame (d : SendDesc) (hdr body : List Byte) : List Byte :=
  let f := hdr ++ body
  let f := if d.flag 0 then withIpSum f else f
  if d.flag 1 then withL4Sum f else f

/-- The 10-byte PTP timestamp of an instant (R310). -/
def ptpStamp (t : Nat) : List Byte := beBytes 6 (t / 1000000000) ++ beBytes 4 (t % 1000000000)

/-- The frame as it leaves: egress stamp inserted (R310), then the tag. -/
def finishFrame (d : SendDesc) (stamp : Nat) (f : List Byte) : List Byte :=
  let f := if d.kind = 0 ∧ d.flag 4 then noUdpSum (patch d.tsoff (ptpStamp stamp) f) else f
  if d.flag 2 then f.take 12 ++ [0x81, 0x00] ++ beBytes 2 d.tci ++ f.drop 12 else f

/-! ### What leaves the pads (R305, R312, R316) -/

/-- The egress stamp of a frame that starts now (R316). -/
def State.egress (s : State) (x : Fin 2) : Nat := s.now + s.fld (F.ETH_TSLAT_TX x)

/-- A frame leaves: padded to 64 bytes with its FCS. -/
def Op.emit (x : Fin 2) (f : List Byte) (badFcs : Bool) : Op := Op.get fun s =>
  (Op.eth x fun p => { p with last := some ⟨f ++ List.replicate (60 - f.length) 0, s.egress x, badFcs⟩ }).andThen
    (Op.inc (A.ETH_TX_FRAMES x))

/-- Tenths of a ns that a byte takes at the port's speed. -/
def State.byteTime (s : State) (x : Fin 2) : Nat := [8000, 800, 80, 8].getD (s.fld (F.ETH_STAT_SPEED x)) 8000

/-- Whether a frame of `n` bytes without FCS may start on the port: while the launch slot is filled for an instant T, its last
bit and the gap must lie before T less 8 byte times (R312). -/
def State.launchRoom (s : State) (x : Fin 2) (n : Nat) : Bool :=
  match (s.eth x).launch, s.blk.shows.flk.next with
  | some _, some (t, _) => 10 * s.now + (max 60 n + 4 + 28) * s.byteTime x ≤ 10 * t
  | _, _ => true

/-- The sources of frames behind the launch slot (R305). -/
inductive TxSource where
  | shows
  | queue (q : Fin 4)
  | bridge
  deriving DecidableEq, Repr

/-- Whether a source has a frame to start. -/
def State.txReady (s : State) (x : Fin 2) : TxSource → Bool
  | .shows => (s.eth x).shows.any (·.status.isNone)
  | .queue q => (s.eth x).tx[q].any (·.status.isNone)
  | .bridge => !(s.eth x).waiting.isEmpty

/-- Where a frame's PTP message starts: EtherType 0x88F7, or a UDP datagram to port 319 or 320. -/
def ptpAt (f : List Byte) : Option Nat :=
  if etype f = 0x88F7 then some (etypeAt f + 2)
  else if isUdp f && (beAt (l4At f + 2) 2 f == 319 || beAt (l4At f + 2) 2 f == 320) then some (l4At f + 8)
  else none

/-- The message type of a PTP message that starts at `o`. -/
def ptpType (f : List Byte) (o : Nat) : Nat := beAt o 1 f % 16

/-- The first bytes of the next frame of a single send, or of a UDP send (R308): enough to tell a PTP message. -/
def State.sendHead (s : State) (d : Send) : List Byte :=
  let hdr := s.store.bytes d.d.hdr d.d.hlen
  if d.d.kind = 0 then hdr ++ s.store.bytes d.d.body (min d.d.blen 128) else udpSegment d.d d.sent hdr []

/-- Whether a queue's frame is a PTP message whose descriptor sets `TSREQ` or `TSINS` (R305); a TCP segment is none. -/
def State.txPtp (s : State) (x : Fin 2) (q : Fin 4) : Bool :=
  (s.eth x).tx[q].any fun d =>
    d.status.isNone && d.d.kind != 1 && (d.d.flag 3 || d.d.flag 4) && (ptpAt (s.sendHead d)).isSome

/-- The queues and the bridge in their order (R305). -/
def State.txOrder (s : State) (x : Fin 2) : List TxSource :=
  let q : List TxSource := [.queue 0, .queue 1, .queue 2, .queue 3]
  let n := s.fld (F.ETH_TXORD_BRPOS x)
  q.take n ++ [.bridge] ++ q.drop n

/-- Whether no source of higher precedence has a frame to start (R305). -/
def State.txFirst (s : State) (x : Fin 2) (src : TxSource) : Bool :=
  let before := (s.txOrder x).takeWhile (· != src)
  let ptp := [0, 1, 2, 3].any (s.txPtp x)
  match src with
  | .shows => !ptp
  | .queue q => s.txPtp x q || (!ptp && !(s.txReady x .shows) && !(before.any (s.txReady x)))
  | .bridge => !ptp && !(s.txReady x .shows) && !(before.any (s.txReady x))

/-- A Sync or Delay_Req with the residence time added to its correctionField (R315). -/
def corrected (residence : Int) (f : List Byte) : Option (List Byte) :=
  match ptpAt f with
  | some o =>
    if ptpType f o ≤ 1 then
      some (noUdpSum (patch (o + 8) (beBytes 8 (unsignedOf 64 (signedOf 64 (beAt (o + 8) 8 f) + residence * 65536))) f))
    else none
  | none => none

/-- A forwarded frame leaves port `x`, corrected where the bridge is a transparent clock (R315). -/
def Op.forwardOut (x : Fin 2) (f : List Byte) (ingress : Nat) (badFcs : Bool) : Op := Op.get fun s =>
  match (if s.bit F.ETHA_BR_CFG_TC_EN then corrected ((s.egress x : Int) - ingress) f else none) with
  | some g => (Op.emit x g badFcs).andThen (Op.inc (A.ETHA_TC_CORR 0))
  | none => Op.emit x f badFcs

/-- Whether the bridge works: it stops forwarding as soon as a stop of either port is requested (R313, R329). -/
def State.bridging (s : State) : Bool := s.bit F.ETHA_BR_CFG_FWD && s.working .etha && s.working .ethb

/-- Bridge frames leave while the egress is free for them (R305, R314); `n` bounds their number. -/
def Op.bridgeDrain (x : Fin 2) : Nat → Op
  | 0 => Op.skip
  | n + 1 => Op.get fun s =>
    match (s.eth x).waiting with
    | [] => Op.skip
    | (f, stamp) :: rest =>
      Op.when (s.bridging && s.linkUp x && !(s.paused x) && s.txFirst x .bridge && s.launchRoom x f.length)
        (Op.all
          [ Op.eth x fun p => { p with waiting := rest },
            Op.forwardOut x f stamp false,
            Op.bridgeDrain x n ])

/-! ### Sends (R309) -/

/-- The bytes of frame `i` of a send, before stamp and tag; nothing where memory cannot be read. -/
def Op.readFrame (x : Fin 2) (d : Send) (i : Nat) (k : Option (List Byte) → Op) : Op :=
  if d.raw.isEmpty then
    Op.readBytes (ethBlock x).num d.d.hdr d.d.hlen fun
      | none => k none
      | some hdr => Op.readBytes (ethBlock x).num (d.d.body + d.d.shareAt i) (d.d.share i) fun
        | none => k none
        | some body =>
          k (some (match d.d.kind with
            | 0 => singleFrame d.d hdr body
            | 1 => tcpSegment d.d i hdr body
            | _ => udpSegment d.d i hdr body))
  else k (some d.raw)

/-- The bytes that the next frame of a send has without its FCS. -/
def Send.nextLen (d : Send) : Nat :=
  if d.raw.isEmpty then d.d.hlen + d.d.share d.sent + (if d.d.flag 2 then 4 else 0) else d.raw.length

/-- Starts the next frame of a send; `put` puts the send back. A link that is down ends it (R309). -/
def Op.nextFrame (x : Fin 2) (d : Send) (src : TxSource) (put : Send → Op) : Op := Op.get fun s =>
  if d.status.isSome then Op.skip
  else if !(s.linkUp x) then
    (Op.when (d.sent == 0) (Op.inc (A.ETH_TX_LINKDOWN x))).andThen (put { d with status := some 1 })
  else if d.d.frames ≤ d.sent then put { d with status := some 0 }
  else if s.paused x || !(s.txFirst x src) then Op.skip
  else if !(s.launchRoom x d.nextLen) then Op.skip
  else Op.readFrame x d d.sent fun
    | none => (Op.set (F.ETH_ERR_TXBUS x) 1).andThen (put { d with status := some 3 })
    | some f =>
      (Op.emit x (finishFrame d.d (s.egress x) f) false).andThen
        (put { d with
          sent := d.sent + 1
          stamp := if d.sent = 0 then s.egress x else d.stamp
          status := if d.sent + 1 = d.d.frames then some 0 else none })

def Op.setTx (x : Fin 2) (q : Fin 4) (d : Option Send) : Op := Op.eth x fun p => { p with tx := p.tx.set q d }

/-- A queue that has no send consumes its next request (R305, R309); a descriptor it cannot read, or that breaks the rules,
is refused. -/
def Op.takeRequest (x : Fin 2) (q : Fin 4) : Op := Op.get fun s =>
  let accept (st : Option Nat) (a : Nat) (d : SendDesc) : Op := Op.setTx x q (some ⟨a, d, [], 0, 0, st, false⟩)
  Op.when (s.working (ethBlock x) && s.bit (F.ETH_TQ_CFG_EN x q) && (s.eth x).tx[q].isNone)
    (Op.hwPop (rillNo (s.fld (F.ETH_TQ_CFG_REQ x q))) fun v =>
      let a := natBits v.toNat 0 32
      if a % 64 ≠ 0 then accept (some 2) a (sendDescOf [])
      else Op.readBytes (ethBlock x).num a 64 fun
        | none => (Op.set (F.ETH_ERR_TXBUS x) 1).andThen (accept (some 3) a (sendDescOf []))
        | some bs =>
          accept (if sendReserved bs && (sendDescOf bs).ok (s.fld (F.ETH_CFG_MAXLEN x)) then none else some 2) a (sendDescOf bs))

/-- Sends up to `n` frames of a queue's send, where its kind is `kind`. -/
def Op.queueFrames (x : Fin 2) (q : Fin 4) (kind : Nat) : Nat → Op
  | 0 => Op.skip
  | n + 1 => Op.get fun s =>
    match (s.eth x).tx[q] with
    | some d => Op.when (d.d.kind == kind && d.status.isNone && s.running (ethBlock x))
        ((Op.nextFrame x d (.queue q) fun d => Op.setTx x q (some d)).andThen (Op.queueFrames x q kind n))
    | none => Op.skip

/-- Replaces the first send of the show queue that has not ended. -/
def putShow (d : Send) : List Send → List Send
  | [] => []
  | e :: l => if e.status.isNone then d :: l else e :: putShow d l

/-- Sends up to `n` frames of the show queue (port B); with the show network's gate closed, a send that has not begun completes
with status 4 (R378). -/
def Op.showFrames (kind : Nat) : Nat → Op
  | 0 => Op.skip
  | n + 1 => Op.get fun s =>
    match (s.eth 1).shows.find? (·.status.isNone) with
    | some d => Op.when ((d.d.kind == kind || s.gated 3) && s.running .ethb)
        ((if s.gated 3 && d.sent == 0 then Op.eth 1 fun p => { p with shows := putShow { d with status := some 4 } p.shows }
          else Op.nextFrame 1 d .shows fun d => Op.eth 1 fun p => { p with shows := putShow d p.shows }).andThen
          (Op.showFrames kind n))
    | none => Op.skip

/-- Frames in the bridge buffer leave wherever the ports are free. -/
def Op.bridges : Op := Op.get fun s =>
  (Op.bridgeDrain 0 (s.eth 0).waiting.length).andThen (Op.bridgeDrain 1 (s.eth 1).waiting.length)

/-- A port sends the frame of a kind 0 descriptor of queue `q`, after taking the next request where the queue has none (R306);
`q` 4 is the show queue of port B, which sends a discovery page so. -/
def execEthSingleFrame (x : Fin 2) (q : Fin 5) (s : State) : Host.Outcome State Fault Refusal :=
  ((if h : q.val < 4 then (Op.takeRequest x ⟨q.val, h⟩).andThen (Op.queueFrames x ⟨q.val, h⟩ 0 1) else Op.showFrames 0 1).andThen
    Op.bridges).go s

/-- A port sends up to `n` segments of a kind 1 descriptor of queue `q` (R307). -/
def execTcpSegmentation (x : Fin 2) (q : Fin 4) (n : Nat) (s : State) : Host.Outcome State Fault Refusal :=
  (Op.all [ Op.takeRequest x q, Op.queueFrames x q 1 n, Op.bridges ]).go s

/-- A port sends up to `n` datagrams of a kind 2 descriptor of queue `q`, or of the show queue for `q` 4 (R308, R311). -/
def execUdpSegmentation (x : Fin 2) (q : Fin 5) (n : Nat) (s : State) : Host.Outcome State Fault Refusal :=
  ((if h : q.val < 4 then (Op.takeRequest x ⟨q.val, h⟩).andThen (Op.queueFrames x ⟨q.val, h⟩ 2 n) else Op.showFrames 2 n).andThen
    Op.bridges).go s

/-- The completion of a queue's send (R309): RESULT, TSTAMP, then the item, for which the queue waits while its rill is full. -/
def Op.txComplete (x : Fin 2) (q : Fin 4) : Op := Op.get fun s =>
  match (s.eth x).tx[q] with
  | none => Op.skip
  | some d =>
    match d.status with
    | none => Op.skip
    | some st =>
      let results := BitVec.ofNat 64 (st + d.sent * 2 ^ 32)
        :: (if d.d.flag 3 then [BitVec.ofNat 64 d.stamp] else [])
      (Op.when (!d.written) ((Op.writeDws (d.addr / 8 * 8 + 0x30) results fun _ => Op.skip).andThen
          (Op.setTx x q (some { d with written := true })))).andThen
        (Op.keepPush ((ethBlock x).place (1 + q.val)) (rillNo (s.fld (F.ETH_TQ_CFG_DONE x q)))
          (BitVec.ofNat 64 (d.addr + st * 2 ^ 32)) fun
            | .ok => Op.setTx x q none
            | _ => Op.skip)

/-- A descriptor completes (R309); for `q` 4, the oldest send of the show queue that has ended is reported to PMAP, which frees
its record of the send ring (R247, R311). -/
def execEthTxComplete (x : Fin 2) (q : Fin 5) (s : State) : Host.Outcome State Fault Refusal :=
  (Op.on (ethBlock x) ((if h : q.val < 4 then Op.txComplete x ⟨q.val, h⟩
    else Op.eth x fun p =>
      match p.shows.findIdx? (·.status.isSome) with
      | some i => { p with shows := p.shows.eraseIdx i }
      | none => p).andThen Op.bridges)).go s

/-! ### Launch slot (R312) -/

/-- The launch frame leaves, or is discarded, at its instant. -/
def Op.launch : Op := Op.get fun s =>
  match (s.eth 1).launch with
  | none => Op.skip
  | some f =>
    let clear := Op.eth 1 fun p => { p with launch := none }
    if !(s.running .ethb) || s.gated 3 then clear
    else if !(s.linkUp 1) then clear.andThen (Op.inc (A.ETH_LAUNCH_LATE 1))
    else if s.paused 1 then
      (Op.eth 1 fun p => { p with launch := none, launchLate := p.launchLate ++ [f] }).andThen (Op.inc (A.ETH_LAUNCH_LATE 1))
    else clear.andThen (Op.emit 1 f false)

/-- A pause on a port is over: launch frames whose instant it covered leave, untimed (R312). -/
def Op.pauseOver (x : Fin 2) : Op := Op.get fun s =>
  Op.all
    [ Op.set (F.ETH_STAT_PAUSED x) 0,
      Op.eth x fun p => { p with launchLate := [] },
      Op.when (s.linkUp x && s.running (ethBlock x)) (Op.each (s.eth x).launchLate fun f => Op.emit x f false),
      Op.bridges ]

/-- The pause on a port ends once its time is over (R299). -/
def execPauseEnd (x : Fin 2) (s : State) : Host.Outcome State Fault Refusal :=
  (Op.on (ethBlock x) (Op.when (s.paused x && (s.eth x).pauseEnd ≤ s.now) (Op.pauseOver x))).go s

/-- Instants that the ports and the bridge hold keep their distance from the present as the time base changes by `z` ns: the end of
a pause (R299), when addresses were seen last (R313). -/
def Op.netStep (z : Int) : Op := Op.net fun n =>
  { n with
    ports := n.ports.map fun (p : EthPort) => { p with pauseEnd := ((p.pauseEnd : Int) + z).toNat }
    table := n.table.map fun e => { e with seen := e.seen + z } }

/-! ### Link (R297) and MDIO (R300) -/

/-- The speed that a link of the interface has; SGMII takes it from the PHY's link word. -/
def ifSpeed (i sgmii : Nat) : Nat :=
  match i with
  | 1 => 3
  | 2 => 2
  | _ => min sgmii 2

/-- The link of a port is lost; a send in the middle of which that happens ends (R309). -/
def Op.linkDown (x : Fin 2) : Op :=
  let cut (d : Send) : Send := if d.status.isNone && 0 < d.sent then { d with status := some 1 } else d
  (Op.set (F.ETH_STAT_LINK x) 0).andThen
    (Op.eth x fun p => { p with tx := p.tx.map (·.map cut), shows := p.shows.map cut })

/-- The stamp latencies that the line rate of `ETHx_CFG.IF` brings with it. -/
def Op.lineLatency (x : Fin 2) : Op := Op.get fun s =>
  match s.fld (F.ETH_CFG_IF x) with
  | 0 => Op.skip
  | 1 => (Op.set (F.ETH_TSLAT_RX x) 180).andThen (Op.set (F.ETH_TSLAT_TX x) 306)
  | _ => (Op.set (F.ETH_TSLAT_RX x) 312).andThen (Op.set (F.ETH_TSLAT_TX x) 296)

/-- An accepted write of `ETHx_CFG`: the link of the interface before does not outlast it (R297). -/
def Op.writeEthCfg (x : Fin 2) (v : Word) (plain : Op) : Op := Op.get fun s =>
  Op.all
    [ plain, Op.lineLatency x,
      Op.when (fieldOf v 0 2 != s.fld (F.ETH_CFG_IF x)) ((Op.linkDown x).andThen (Op.set (F.ETH_STAT_SPEED x) 0)) ]

/-- A link goes up, with the speed an SGMII PHY states, or down; a port whose lane is powered down has none. -/
def execLinkChange (x : Fin 2) (up : Bool) (speed : BitVec 2) (s : State) : Host.Outcome State Fault Refusal :=
  (Op.on (ethBlock x)
    (let i := s.fld (F.ETH_CFG_IF x)
     if up && i != 0 then
       Op.all [ Op.set (F.ETH_STAT_LINK x) 1, Op.set (F.ETH_STAT_SPEED x) (ifSpeed i speed.toNat), Op.bridges ]
     else Op.linkDown x)).go s

/-- A write of `ETHA_MDIO_CMD` (R300). -/
def Op.mdioWrite (v : Word) : Op := Op.get fun s =>
  if s.bit F.ETHA_MDIO_STAT_BUSY then Op.skip
  else (Op.putReg A.ETHA_MDIO_CMD (withField v 31 1 0)).andThen (Op.when (v.getLsbD 31) (Op.set F.ETHA_MDIO_STAT_BUSY 1))

/-- A write of `ETHA_MDIO_CMD` with the value `v`: with `GO` it starts an operation; it is ignored while one runs (R300). -/
def execMdioOperation (v : Word) (s : State) : Host.Outcome State Fault Refusal := (Op.on .etha (Op.mdioWrite v)).go s

/-- An MDIO operation ends; a read returns the data (R300), or all ones, the Idle level of `MDIO`, while bank A is not usable (R519). -/
def execMdioDone (data : BitVec 16) (s : State) : Host.Outcome State Fault Refusal :=
  (Op.on .etha (Op.when (s.bit F.ETHA_MDIO_STAT_BUSY)
    (Op.all
      [ Op.set F.ETHA_MDIO_STAT_BUSY 0, Op.set F.ETHA_MDIO_STAT_DONE 1,
        Op.when (s.fld F.ETHA_MDIO_CMD_OP == 2) (Op.set F.ETHA_MDIO_STAT_DATA (if s.bankA then data.toNat else 0xFFFF)) ]))).go s

/-! ### Run and stop (R329, R330) -/

/-- The configuration check of a port; 0 when it passes (R330). -/
def State.ethCause (s : State) (x : Fin 2) : Nat :=
  let rx := (List.range 8).filter fun q => s.bit (F.ETH_RQ_CFG_EN x q)
  let tx := (List.range 4).filter fun q => s.bit (F.ETH_TQ_CFG_EN x q)
  if !(rx.all fun q => s.rillUsable (s.fld (F.ETH_RQ_CFG_FREE x q)) && s.rillUsable (s.fld (F.ETH_RQ_CFG_DONE x q)))
      || !(tx.all fun q => s.rillUsable (s.fld (F.ETH_TQ_CFG_REQ x q)) && s.rillUsable (s.fld (F.ETH_TQ_CFG_DONE x q))) then 1
  else if !(rx.all fun q =>
      let a := (s.reg (A.ETH_RQ_BASE x q)).toNat
      a % 64 == 0 && (regionOf a == .basin || regionOf a == .dram)) then 2
  else 0

/-- A stop of the port: sends that have not begun complete with status 5, and the bridge stops forwarding, with the frames that
wait in its buffers (R329; log entry 32). -/
def Op.ethStopping (x : Fin 2) : Op :=
  let flush (d : Send) : Send := if d.status.isNone && d.sent == 0 then { d with status := some 5 } else d
  (Op.eth x fun p => { p with tx := p.tx.map (·.map flush), shows := p.shows.map flush }).andThen
    (Op.net fun n => { n with ports := n.ports.map fun (p : EthPort) => { p with waiting := [] } })

/-- Whether every send that has begun has ended, so that the port may stop. -/
def State.ethIdle (s : State) (x : Fin 2) : Bool :=
  (s.eth x).tx.toList.all (fun d => d.all (·.status.isSome)) && (s.eth x).shows.all (·.status.isSome)

end Sys2Proof.Machine
end

