-- ==== Sys2Proof/Machine/Pmap.lean ====
section
/-!
DEFINITION. PMAP (spec/07): video ingest, sampling, the walk of the point list, sACN sends and universe discovery.
-/
namespace Sys2Proof.Machine

def Op.shw (f : Show → Show) : Op := Op.blk fun b => { b with shows := f b.shows }

def State.ingest (s : State) (n : Fin 2) : Ingest := s.blk.shows.ins[n]
def Op.ingest (n : Fin 2) (f : Ingest → Ingest) : Op := Op.shw fun h => { h with ins := h.ins.set n (f h.ins[n]) }

/-! ### Streams (R234 to R236) -/

def State.vidW (s : State) (n : Fin 2) : Nat := s.fld (F.PMAP_IN_FMT_WIDTH n)
def State.vidH (s : State) (n : Fin 2) : Nat := s.fld (F.PMAP_IN_FMT_HEIGHT n)
def State.vidRgb (s : State) (n : Fin 2) : Bool := s.bit (F.PMAP_IN_FMT_FORMAT n)
def State.vidOn (s : State) (n : Fin 2) : Bool := if n = 0 then s.bit F.PMAP_CTRL_IN0_EN else s.bit F.PMAP_CTRL_IN1_EN

def roundUp (n m : Nat) : Nat := (n + m - 1) / m * m

/-- Bytes of `px` pixels as received: groups of two pixels in 5 bytes, or 3 bytes a pixel. -/
def pixelBytes (rgb : Bool) (px : Nat) : Nat := if rgb then 3 * px else 5 * px / 2

/-- Line stride, frame size and buffer address (R236). -/
def State.vidStride (s : State) (n : Fin 2) : Nat := roundUp (pixelBytes (s.vidRgb n) (s.vidW n)) 64
def State.vidSize (s : State) (n : Fin 2) : Nat := roundUp (s.vidH n * s.vidStride n) 65536
def State.vidBuf (s : State) (n : Fin 2) (i : Nat) : Nat := (s.reg (A.PMAP_IN_BASE n)).toNat + i * s.vidSize n

/-- Up to `fuel` sample row data headers: length, line, offset; nothing where there are more, or bytes are missing. -/
def sampleRows : Nat → List Byte → Option (List (Nat × Nat × Nat) × List Byte)
  | 0, _ => none
  | fuel + 1, bs =>
    if bs.length < 6 then none
    else
      let h := (beAt 0 2 bs, beAt 2 2 bs % 2 ^ 15, beAt 4 2 bs % 2 ^ 15)
      if beAt 4 2 bs / 2 ^ 15 = 0 then some ([h], bs.drop 6)
      else (sampleRows fuel (bs.drop 6)).map fun (l, r) => (h :: l, r)

/-- Whether the row data lie inside the frame: no byte of them lies beyond the width (R235). -/
def State.rowsOk (s : State) (n : Fin 2) (l : List (Nat × Nat × Nat)) : Bool :=
  l.all fun (len, line, off) =>
    line < s.vidH n && pixelBytes (s.vidRgb n) off + len ≤ pixelBytes (s.vidRgb n) (s.vidW n)

/-- Bytes written at any address, in whole doublewords: the first keeps the bytes before the data, and the last is filled up with zeros
(R456), or keeps what the master itself has already put there (log entry 30). -/
def Op.patchMem (a : Nat) (bs : List Byte) (keep : Bool) (k : Bool → Op) : Op := Op.get fun s =>
  let lo := s.store.bytes (a / 8 * 8) (a % 8)
  let fin := a + bs.length
  let hi := if keep then s.store.bytes fin ((8 - fin % 8) % 8) else []
  Op.writeDws (a / 8 * 8) (dwordsOf (bs.length / 8 + 2) (lo ++ bs ++ hi)) k

/-- Writes the rows of a packet; the continuation learns whether all could be written. `keep` says that pixels to the right of a row
have been received in the frame: those of later packets, or of earlier rows of this one. -/
def Op.putRows (n : Fin 2) (buf : Nat) (keep : Nat → Nat → Bool) : List (Nat × Nat × Nat) → List Byte → (Bool → Op) → Op
  | [], _, k => k true
  | (len, line, off) :: l, bs, k => Op.get fun s =>
    Op.patchMem (buf + line * s.vidStride n + pixelBytes (s.vidRgb n) off) (bs.take len) (keep line off) fun
      | true => Op.putRows n buf (fun y x => keep y x || (y == line && x < off)) l (bs.drop len) k
      | false => k false

/-- The buffer that ingest writes: neither held by a walk nor the newest complete frame (R236). -/
def Ingest.free (i : Ingest) : Nat := ([0, 1, 2].find? fun b => i.held != some b && i.newest != some b).getD 0

/-- A frame ends (R236). -/
def Op.frameEnds (n : Fin 2) (complete : Bool) (buf : Nat) (expect : Option Nat) : Op :=
  (Op.ingest n fun i =>
    { i with
      cur := none
      expect := expect
      newest := if complete then some buf else i.newest
      new := i.new || complete }).andThen
    (Op.inc (if complete then A.PMAP_IN_FRAMES n else A.PMAP_IN_GAPS n))

/-- A packet is dropped; `spoils` says that its frame is not whole any more. -/
def Op.dropPacket (n : Fin 2) (spoils : Bool) : Op :=
  (Op.inc (A.PMAP_IN_DROP n)).andThen
    (Op.ingest n fun i => { i with cur := i.cur.map fun (b, t, f, l, bad) => (b, t, f, l, bad || spoils) })

/-- A packet of a frame whose timestamp has been settled (R235 to R237). -/
def Op.framePacket (n : Fin 2) (seq : Nat) (marker : Bool) (payload : List Byte) (full : Bool) : Op := Op.get fun s =>
  match (s.ingest n).cur with
  | none => Op.skip
  | some (buf, _, first, seqs, _) =>
    let rel := (seq + 2 ^ 32 - first) % 2 ^ 32
    let add := Op.ingest n fun i => { i with cur := i.cur.map fun (b, t, f, l, bad) => (b, t, f, rel :: l, bad) }
    let finish : Op := Op.get fun s =>
      match (s.ingest n).cur with
      | some (b, _, _, l, bad) =>
        Op.when marker (Op.frameEnds n (!bad && l.all (· < l.length)) b (some ((seq + 1) % 2 ^ 32)))
      | none => Op.skip
    if full then Op.all [ add, Op.dropPacket n true, finish ]
    else if seqs.contains rel then Op.dropPacket n false
    else
      match sampleRows 3 payload with
      | some (rows, data) =>
        if s.rowsOk n rows then
          Op.all
            [ add, Op.putRows n (s.vidBuf n buf) (fun _ _ => seqs.any (rel < ·)) rows data fun ok => Op.when (!ok) (Op.dropPacket n true), finish ]
        else Op.all [ add, Op.dropPacket n true, finish ]
      | none => Op.all [ add, Op.dropPacket n true, finish ]

/-- An ST 2110-20 packet of stream `n` (R235 to R237): RTP header, extended sequence number, row data headers, row data. A new
timestamp ends the frame before it; numbers missing between the two leave both incomplete (log entry 30). -/
def Op.videoPacket (n : Fin 2) (rtp : List Byte) (full : Bool) : Op := Op.get fun s =>
  let base := 12 + 4 * (beAt 0 1 rtp % 16)
  let seq := beAt base 2 rtp * 65536 + beAt 2 2 rtp
  let ts := beAt 4 4 rtp
  let marker := beAt 1 1 rtp / 128 == 1
  if !(s.working .pmap) || !(s.vidOn n) then Op.skip
  else if rtp.length < base + 2 then Op.dropPacket n true
  else
    let start (first : Nat) : Op := Op.ingest n fun i => { i with cur := some (i.free, ts, first, [], false) }
    (match (s.ingest n).cur with
      | some (buf, t, first, seqs, bad) =>
        if t = ts then Op.skip
        else
          let whole := !bad && seqs.all (· < seqs.length) && (seq + 2 ^ 32 - first) % 2 ^ 32 == seqs.length
          (Op.frameEnds n whole buf none).andThen (start ((first + (seqs.map (· + 1)).foldl max 0) % 2 ^ 32))
      | none => start ((s.ingest n).expect.getD seq)).andThen
      (Op.framePacket n seq marker (rtp.drop (base + 2)) full)

/-- PMAP takes a packet of stream `n`, or drops it; `full` says that the ingest buffer of R237 has no room. -/
def execVideoPacket (n : Fin 2) (rtp : List Byte) (full : Bool) (s : State) : Host.Outcome State Fault Refusal :=
  (Op.videoPacket n rtp full).go s

/-! ### Sampling (R244, R245) -/

/-- Component `j` of the pixel `x` in the bytes of a row that start at pixel group `g0` (pixel `g0` for RGB). -/
def component (rgb : Bool) (w g0 : Nat) (row : List Byte) (x j : Nat) : Nat :=
  let group (g : Nat) : Nat := beAt (5 * (g - g0)) 5 row
  let chroma (g : Nat) : Nat := natBits (group g) (if j = 1 then 30 else 10) 10
  if rgb then beAt (3 * (x - g0) + j) 1 row
  else if j = 0 then natBits (group (x / 2)) (if x % 2 = 0 then 20 else 0) 10
  else if x % 2 = 0 ∨ x = w - 1 then chroma (x / 2)
  else (chroma (x / 2) + chroma (x / 2 + 1) + 1) / 2

/-- The colour matrix and offsets of a stream. -/
def State.cscM (s : State) (n : Fin 2) (k j : Nat) : Int :=
  let r : List Nat :=
    [ s.fld (F.PMAP_IN_CSC0_M00 n), s.fld (F.PMAP_IN_CSC0_M01 n), s.fld (F.PMAP_IN_CSC1_M02 n), s.fld (F.PMAP_IN_CSC1_M10 n),
      s.fld (F.PMAP_IN_CSC2_M11 n), s.fld (F.PMAP_IN_CSC2_M12 n), s.fld (F.PMAP_IN_CSC3_M20 n), s.fld (F.PMAP_IN_CSC3_M21 n),
      s.fld (F.PMAP_IN_CSC4_M22 n) ]
  signedOf 16 (r.getD (3 * k + j) 0)

def State.cscOff (s : State) (n : Fin 2) (j : Nat) : Nat :=
  match j with
  | 0 => s.fld (F.PMAP_IN_OFF_OFF0 n)
  | 1 => s.fld (F.PMAP_IN_OFF_OFF1 n)
  | _ => s.fld (F.PMAP_IN_OFF_OFF2 n)

/-- The 16-bit codes of three sampled components, after the colour matrix where it is on. -/
def State.codes (s : State) (n : Fin 2) (c : List Nat) : List Nat :=
  let rgb := s.vidRgb n
  let top : Int := if rgb then 255 else 1023
  let r (k : Nat) : Nat :=
    if s.bit (F.PMAP_IN_FMT_CSC n) then
      let sum : Int := ((List.range 3).map fun j => s.cscM n k j * ((c.getD j 0 : Int) - s.cscOff n j)).sum
      (min (max ((sum + 2048) / 2 ^ 12) 0) top).toNat
    else c.getD k 0
  (List.range 3).map fun k => if rgb then r k * 257 else r k * 64 + r k / 16

/-- Samples a point of stream `n` in the frame buffer `buf`; the address that faulted where the buffer cannot be read. -/
def Op.sample (n : Fin 2) (buf px py : Nat) (k : Except Nat (List Nat) → Op) : Op := Op.get fun s =>
  let w := s.vidW n
  let h := s.vidH n
  let rgb := s.vidRgb n
  let (xi, fx) := if w - 1 ≤ px / 16 then (w - 1, 0) else (px / 16, px % 16)
  let (yi, fy) := if h - 1 ≤ py / 16 then (h - 1, 0) else (py / 16, py % 16)
  let x1 := min (xi + 1) (w - 1)
  let y1 := min (yi + 1) (h - 1)
  let g0 := if rgb then xi else xi / 2
  let len := if rgb then 3 * (x1 + 1 - xi) else 5 * (min ((x1 + 1) / 2) (w / 2 - 1) + 1 - g0)
  let at_ (y : Nat) : Nat := s.vidBuf n buf + y * s.vidStride n + (if rgb then 3 else 5) * g0
  Op.fetchBytes Block.pmap.num (at_ yi) len fun
    | .error b => k (.error b)
    | .ok r0 => Op.fetchBytes Block.pmap.num (at_ y1) len fun
      | .error b => k (.error b)
      | .ok r1 =>
        let c (j : Nat) : Nat :=
          let top := component rgb w g0 r0 xi j * (16 - fx) + component rgb w g0 r0 x1 j * fx
          let bot := component rgb w g0 r1 xi j * (16 - fx) + component rgb w g0 r1 x1 j * fx
          (top * (16 - fy) + bot * fy + 128) / 256
        k (.ok (s.codes n [c 0, c 1, c 2]))

/-! ### The walk (R238 to R243) -/

def Op.walk (f : Walk → Walk) : Op := Op.shw fun h => { h with walk := h.walk.map f }

/-- The walk ends, and the synchronization packet in the launch slot has left it. -/
def Op.endWalk : Op :=
  Op.all
    [ Op.shw fun h => { h with walk := none, ins := h.ins.map fun i => { i with held := none } },
      Op.set F.PMAP_STAT_WALK 0,
      Op.eth 1 fun p => { p with launch := none } ]

/-- PMAP abandons the walk (R228): the sends of the show queue that ETHB has not begun are withdrawn (R311), and no synchronization
packet is sent. -/
def Op.abandonWalk : Op :=
  Op.endWalk.andThen (Op.eth 1 fun p =>
    { p with shows := p.shows.map fun d => if d.status.isNone && d.sent == 0 then { d with status := some 4 } else d })

/-- A read of the walk faults (R243). -/
def Op.listBus (a : Nat) : Op :=
  Op.all
    [ Op.abandonWalk, Op.set F.PMAP_ERR_LISTBUS 1,
      Op.draw fun n => Op.log 0x000A Block.pmap.num a (Config.freeDword n).toNat ]

/-- The drive value of a point (R240, R242, R243); nothing where the walk has been abandoned. -/
def Op.mapPoint (level : Nat) (p : DWord) (k : Option DWord → Op) : Op := Op.get fun s =>
  let v := p.toNat
  let n : Fin 2 := Fin.ofNat 2 (natBits v 48 1)
  let i := natBits v 32 16
  let bad := (Op.inc A.PMAP_PT_ERR).andThen (k (some 0))
  if !(s.vidOn n) then bad
  else
    match (s.ingest n).held with
    | none => k (some 0)
    | some buf =>
      if !(s.lampTakes) then
        Op.all [ Op.abandonWalk, Op.inc A.PMAP_LAMPSTOP, Op.on .lamp (Op.inc A.LAMP_PMAP_REFUSED), k none ]
      else Op.batchRecord i fun ok =>
        if !ok then bad
        else Op.sample n buf (natBits v 0 16) (natBits v 16 16) fun
          | .error a => (Op.listBus a).andThen (k none)
          | .ok c =>
            let colour := level * 2 ^ 48 + c.getD 0 0 * 2 ^ 32 + c.getD 1 0 * 2 ^ 16 + c.getD 2 0
            Op.convert i (BitVec.ofNat 64 colour) false fun r =>
              Op.all
                [ Op.when r.clamp (Op.inc A.PMAP_CLAMP), Op.when r.derate (Op.inc A.PMAP_DERATE),
                  Op.when r.tfault (Op.inc A.PMAP_TFAULT), k (some r.drive) ]

/-- An output table entry (R241). -/
structure OutEntry where
  kind : Nat
  wide : Bool
  pfx : Option Nat
  chans : Nat
  count : Nat
  dest : Nat
  first : Nat
  slots : Nat
  ok : Bool
  deriving DecidableEq, Repr

def outEntry (a b : DWord) : OutEntry :=
  let v := a.toNat
  let e : OutEntry :=
    { kind := natBits v 0 2, wide := natBits v 2 1 == 1, pfx := if natBits v 3 1 = 1 then some (natBits v 8 8) else none,
      chans := natBits v 4 2 + 1, count := natBits v 16 16, dest := natBits v 32 16, first := natBits v 48 10,
      slots := natBits b.toNat 0 10, ok := natBits v 6 2 == 0 && natBits v 58 6 == 0 && natBits b.toNat 10 54 == 0 }
  let size := e.chans * (if e.wide then 2 else 1) + bit01 e.pfx.isSome
  { e with ok := e.ok && e.count != 0 &&
      (match e.kind with
        | 1 => 1 ≤ e.dest && e.dest ≤ 63999 && 1 ≤ e.first && e.first ≤ 512 && 1 ≤ e.slots && e.slots ≤ 512
            && e.first + e.count * size ≤ e.slots + 1
        | 2 => e.dest < 16 && e.first == 0 && e.slots == 0
        | _ => false) }

/-- Bytes per point. -/
def OutEntry.size (e : OutEntry) : Nat := e.chans * (if e.wide then 2 else 1) + bit01 e.pfx.isSome

/-- The bytes of one point (R242). -/
def OutEntry.bytes (e : OutEntry) (drive : DWord) : List Byte :=
  (match e.pfx with | some p => beBytes 1 p | none => [])
    ++ (List.range e.chans).flatMap fun c =>
      let v := natBits drive.toNat (16 * c) 16
      if e.wide then beBytes 2 v else beBytes 1 (min ((v + 128) / 256) 255)

/-- Maps `n` points from list index `i` of a list of `total`; points past its end give zeros (R243). Nothing where the walk has
been abandoned. -/
def Op.mapPoints (e : OutEntry) (level base total : Nat) : Nat → Nat → (Option (List Byte) → Op) → Op
  | _, 0, k => k (some [])
  | i, n + 1, k =>
    let more (out : List Byte) : Op := Op.mapPoints e level base total (i + 1) n fun
      | none => k none
      | some r => k (some (out ++ r))
    if total ≤ i then more (List.replicate e.size 0)
    else Op.fetchDws Block.pmap.num (base + 8 * i) 1 fun
      | .error a => (Op.listBus a).andThen (k none)
      | .ok l => Op.mapPoint level (l.getD 0 0) fun
        | none => k none
        | some d => more (e.bytes d)

/-! ### sACN (R246 to R249) -/

/-- The Ethernet, IPv4 and UDP header before an E1.31 packet: 14, 20 and 8 bytes, which ETHB reads as such; the rest is free (log
entry 6). -/
def sacnHead : List Byte := (List.range 42).map fun
  | 12 => 0x08
  | 13 => 0x00
  | 14 => 0x45
  | 23 => 17
  | i => Config.sacnHeader i

/-- Sets the flags and length of a PDU that starts at `o` in a packet of `n` bytes. -/
def pduLength (o n : Nat) (bs : List Byte) : List Byte := patch o (beBytes 2 (0x7000 + (n - o))) bs

/-- The header of a data packet of `slots` slots, from the template (R246). -/
def dataHeader (tpl : List Byte) (slots sync : Nat) : List Byte :=
  let n := 126 + slots
  sacnHead ++ patch 109 (beBytes 2 sync) (patch 123 (beBytes 2 (slots + 1)) (pduLength 115 n (pduLength 38 n (pduLength 16 n tpl))))

/-- The size of a send's record in the ring (R247). -/
def recordSize (blen : Nat) : Nat := roundUp (256 + blen) 64

/-- Whether the `size` bytes from ring offset `o` are free of the record of every send that has not completed (R247). -/
def State.ringFree (s : State) (o size : Nat) : Bool :=
  (s.eth 1).shows.all fun d =>
    let r := d.d.hdr - (s.reg A.PMAP_SACN_BUF).toNat
    d.status.isSome || !(d.raw.isEmpty) || r + recordSize d.d.blen ≤ o || o + size ≤ r

/-- Hands a gathered send to ETHB (R246, R247), or makes the walk wait for space. -/
def Op.flushSend (g : Gather) : Op := Op.get fun s =>
  match s.blk.shows.walk with
  | none => Op.skip
  | some w =>
    let size := recordSize g.body.length
    let o := if w.head + size ≤ 0x800000 then w.head else 0
    let a := (s.reg A.PMAP_SACN_BUF).toNat + o
    if !(s.ringFree o size) then
      (Op.walk fun w => { w with waiting := true }).andThen (Op.when (!w.waiting) (Op.inc A.PMAP_SACN_WAITS))
    else Op.fetchBytes Block.pmap.num (s.reg A.PMAP_SACN_TPL).toNat 125 fun
      | .error b => Op.listBus b
      | .ok tpl =>
        let hdr := dataHeader tpl g.slots (s.fld F.FLK_SYNC_UNIV)
        Op.putDws a (dwordsOf (size / 8) (hdr ++ List.replicate (256 - hdr.length) 0 ++ g.body)) fun
          | some b => Op.listBus b
          | none => Op.draw fun i =>
            let d : SendDesc :=
              { kind := 2, flags := if s.bit F.PMAP_SACN_CFG_MCAST then 0x21 else 0x01, tci := 0, hlen := 167, seg := g.slots + 1,
                hdr := a, body := a + 256, blen := g.body.length, tsoff := 0, paOff := 155, paStart := g.univ, pbOff := 153,
                pbValue := w.frame % 256, ipid := (Config.sacnIpId i).toNat }
            let st : Option Nat :=
              if !(s.working .ethb) then some 5 else if s.gated 3 then some 4 else if d.ok (s.fld (F.ETH_CFG_MAXLEN 1)) then none else some 2
            (Op.eth 1 fun p => { p with shows := p.shows ++ [⟨0, d, [], 0, 0, st, false⟩] }).andThen
              (Op.walk fun w => { w with gather := none, waiting := false, head := o + size })

/-- Whether an entry continues the send that is gathered (R246). -/
def Gather.continues (g : Gather) (e : OutEntry) : Bool :=
  e.ok && e.kind == 1 && e.dest == g.last + 1 && e.slots == g.slots && g.body.length + 1 + e.slots ≤ 262144

/-- Adds a universe's start code and slots to the send. -/
def gatherAdd (g : Option Gather) (e : OutEntry) (out : List Byte) : Gather :=
  let body := (0 : Byte) :: (List.replicate (e.first - 1) 0 ++ out ++ List.replicate (e.slots + 1 - e.first - out.length) 0)
  match g with
  | some g => { g with last := e.dest, body := g.body ++ body }
  | none => ⟨e.dest, e.dest, e.slots, body⟩

def State.port (s : State) (p : Fin 16) : Port := s.blk.shows.ports[p]
def Op.port (p : Fin 16) (f : Port → Port) : Op := Op.shw fun h => { h with ports := h.ports.set p (f h.ports[p]) }

/-- The key of byte `o` of buffer `b` of pixel port `p`. -/
def portKey (p : Fin 16) (b o : Nat) : Nat := pxpKey (32768 * p.val + 16384 * b + o)

/-- The points of a bank: at most 2,097,152 (R240), whatever `PMAP_PCNTb` holds (log entry 30). -/
def State.points (s : State) (bank : Nat) : Nat := min (s.fld (F.PMAP_PCNT_COUNT bank)) 2097152

/-- An entry as the walk finds it: beyond 16,640 entries, 16,384 universes or 256 port segments it breaks R241. -/
def Walk.checked (w : Walk) (e : OutEntry) : OutEntry :=
  { e with ok := e.ok && w.entry < 16640 && (e.kind != 1 || w.univs < 16384) && (e.kind != 2 || w.segs < 256) }

/-- One entry of the output table, with its points (R242, R243). -/
def Op.walkEntry (w : Walk) (e : OutEntry) : Op := Op.get fun s =>
  let p : Fin 16 := Fin.ofNat 16 e.dest
  let room := e.kind != 2 || (s.port p).back + e.count * e.size ≤ 16384
  let total := s.points w.bank
  let next := Op.walk fun w =>
    { w with
      entry := w.entry + 1, point := w.point + e.count, univs := w.univs + bit01 (e.ok && e.kind == 1)
      segs := w.segs + bit01 (e.ok && e.kind == 2) }
  if !e.ok || !room then (Op.inc A.PMAP_SEG_ERR).andThen next
  else Op.mapPoints e w.level (s.reg (A.PMAP_PLIST w.bank)).toNat total w.point e.count fun
    | none => Op.skip
    | some out =>
      Op.all
        [ Op.when (total < w.point + e.count && !w.short)
            ((Op.inc A.PMAP_SEG_ERR).andThen (Op.walk fun w => { w with short := true })),
          if e.kind = 1 then
            Op.when (s.bit F.PMAP_CTRL_SACN_EN) (Op.walk fun w => { w with gather := some (gatherAdd w.gather e out) })
          else
            Op.when (s.bit F.PMAP_CTRL_PXP_EN && s.powered .pxp)
              ((Op.putBytes (portKey p (1 - (s.port p).front) (s.port p).back) out).andThen
                (Op.port p fun q => { q with back := q.back + out.length })),
          next ]

/-- Goes on with the walk: entries in table order, sends as they are complete, until it is mapped, waits or is abandoned. -/
def Op.walkOn : Nat → Op
  | 0 => Op.skip
  | fuel + 1 => Op.get fun s =>
    match s.blk.shows.walk with
    | none => Op.skip
    | some w =>
      let flush (g : Gather) : Op := (Op.flushSend g).andThen (Op.get fun s =>
        Op.when (s.blk.shows.walk.any (!·.waiting)) (Op.walkOn fuel))
      if w.mapped then Op.skip
      else if s.fld (F.PMAP_OCNT_COUNT w.bank) ≤ w.entry then
        match w.gather with
        | some g => flush g
        | none =>
          (Op.when (w.point < s.points w.bank) (Op.inc A.PMAP_SEG_ERR)).andThen
            (Op.walk fun w => { w with mapped := true })
      else
        let a := (s.reg (A.PMAP_OTAB w.bank)).toNat + 16 * w.entry
        Op.fetchDws Block.pmap.num a 2 fun
          | .error b => Op.listBus b
          | .ok l =>
            let e := w.checked (outEntry (l.getD 0 0) (l.getD 1 0))
            match w.gather with
            | some g => if g.continues e then (Op.walkEntry w e).andThen (Op.walkOn fuel) else flush g
            | none => (Op.walkEntry w e).andThen (Op.walkOn fuel)

/-- Enough steps for a whole walk. -/
def State.walkFuel (s : State) (bank : Nat) : Nat := 2 * s.fld (F.PMAP_OCNT_COUNT bank) + 4

/-- The synchronization packet of frame `k` in the launch slot (R246, R248, R312). -/
def Op.prepareLaunch (k : Nat) (next : Op) : Op := Op.get fun s =>
  if s.bit F.FLK_SYNC_EN then
    Op.fetchBytes Block.pmap.num ((s.reg A.PMAP_SACN_TPL).toNat + 0x80) 49 fun
      | .error a => Op.listBus a
      | .ok b =>
        (Op.eth 1 fun p =>
          { p with launch := some (sacnHead ++ patch 44 (beBytes 1 k) (patch 45 (beBytes 2 (s.fld F.FLK_SYNC_UNIV)) b)) }).andThen next
  else next

/-- At T − L, PMAP takes the newest frames and begins walking the point list (R226, R238, R239). -/
def execWalkStart (s : State) : Host.Outcome State Fault Refusal :=
  (match s.blk.shows.flk.next with
    | none => Op.skip
    | some (t, k) =>
      let bank := s.fld F.PMAP_BANK_NEXT
      let take (n : Fin 2) : Op := Op.when (s.vidOn n)
        ((Op.when ((s.ingest n).newest.isSome && !(s.ingest n).new) (Op.inc (A.PMAP_IN_REUSE n))).andThen
          (Op.ingest n fun i => { i with held := i.newest, new := false }))
      Op.when (s.running .flk && s.working .pmap && s.blk.shows.walk.isNone && s.blk.shows.walked != some k
          && t ≤ s.now + (s.reg A.FLK_LAT).toNat && s.now ≤ t)
        (Op.all
          [ Op.shw fun h =>
              { h with
                walk := some
                  { frame := k, start := s.now, bank := bank, level := s.fld F.PMAP_LEVEL_LEVEL, point := 0, entry := 0, univs := 0, segs := 0,
                    gather := none, head := 0, short := false, waiting := false, mapped := false, done := none }
                walked := some k
                ports := h.ports.map fun (p : Port) => { p with back := 0 } },
            Op.set F.PMAP_STAT_BANK bank,
            Op.set F.PMAP_STAT_WALK 1,
            take 0, take 1,
            Op.prepareLaunch k (Op.walkOn (s.walkFuel bank)) ])).go s

/-- ETHB has freed send ring space: a walk that waits for it goes on where its record now fits (R247). -/
def execSendRingSpace (s : State) : Host.Outcome State Fault Refusal :=
  (match s.blk.shows.walk with
    | some w => Op.when (w.waiting && s.running .pmap) (Op.walkOn (s.walkFuel w.bank))
    | none => Op.skip).go s

/-- PMAP reports the walk done: every point mapped, every port buffer written, the last data packet sent (R227). -/
def execWalkDone (s : State) : Host.Outcome State Fault Refusal :=
  (match s.blk.shows.walk with
    | some w =>
      Op.when (w.mapped && w.done.isNone && (s.eth 1).shows.all (fun d => d.status.isSome || !(d.raw.isEmpty)))
        (Op.all
          [ Op.walk fun w => { w with done := some s.now },
            Op.setReg A.PMAP_WALK_MAX (max (s.reg A.PMAP_WALK_MAX).toNat (min (s.now - w.start) 0xFFFFFFFF)) ])
    | none => Op.skip).go s

/-! ### Universe discovery (R249) -/

/-- The universes of the first `n` entries of an output table; the address that faulted where it cannot be read. -/
def Op.universes (a : Nat) : Nat → (Except Nat (List Nat) → Op) → Op
  | 0, k => k (.ok [])
  | n + 1, k => Op.fetchDws Block.pmap.num a 2 fun
    | .error b => k (.error b)
    | .ok l =>
      let e := outEntry (l.getD 0 0) (l.getD 1 0)
      Op.universes (a + 16) n fun
        | .ok r => k (.ok (if e.ok && e.kind == 1 then e.dest :: r else r))
        | .error b => k (.error b)

/-- A list cut into pieces of `m`. -/
def chunks (m : Nat) : Nat → List Nat → List (List Nat)
  | 0, _ => []
  | _, [] => []
  | n + 1, l => l.take m :: chunks m n (l.drop m)

/-- A list of numbers in rising order. -/
def insertNat (n : Nat) : List Nat → List Nat
  | [] => [n]
  | m :: l => if n ≤ m then n :: m :: l else m :: insertNat n l

def sorted (l : List Nat) : List Nat := l.foldr insertNat []

/-- One discovery page. -/
def discoveryPage (tpl : List Byte) (page last : Nat) (univ : List Nat) : List Byte :=
  let n := 120 + 2 * univ.length
  let layer := beBytes 2 (0x7000 + (n - 112)) ++ [0, 0, 0, 1] ++ beBytes 1 page ++ beBytes 1 last ++ univ.flatMap (beBytes 2)
  sacnHead ++ pduLength 38 n (pduLength 16 n tpl) ++ layer

/-- PMAP sends universe discovery, every 10 s, from the universes of the bank in use (R249). A page that ETHB may not send completes with
the status of any other send (R309, R311). -/
def execUniverseDiscovery (s : State) : Host.Outcome State Fault Refusal :=
  (let bank := s.fld F.PMAP_STAT_BANK
   let tplA := (s.reg A.PMAP_SACN_TPL).toNat + 0x100
   let bus (a : Nat) : Op := (Op.set F.PMAP_ERR_LISTBUS 1).andThen
     (Op.draw fun n => Op.log 0x000A Block.pmap.num a (Config.freeDword n).toNat)
   Op.when (s.working .pmap && s.bit F.PMAP_SACN_CFG_DISC_EN && s.blk.shows.disc + 10000000000 ≤ s.now)
    ((Op.shw fun h => { h with disc := s.now }).andThen
      (Op.universes (s.reg (A.PMAP_OTAB bank)).toNat (min (s.fld (F.PMAP_OCNT_COUNT bank)) 16640) fun
        | .error a => bus a
        | .ok us => Op.fetchBytes Block.pmap.num tplA 112 fun
          | .error a => bus a
          | .ok tpl =>
            let pages := chunks 512 us.length (sorted (us.take 16384))
            Op.when (s.working .ethb) (Op.each (List.range pages.length) fun i =>
              let f := discoveryPage tpl i (pages.length - 1) (pages.getD i [])
              let fits := f.length + 4 ≤ s.fld (F.ETH_CFG_MAXLEN 1)
              let status := if s.gated 3 then some 4 else if fits then none else some 2
              Op.eth 1 fun p => { p with shows := p.shows ++ [⟨0, sendDescOf [], f, 0, 0, status, false⟩] })))).go s

/-! ### Run check (R234, R262) -/

/-- The first failing check; 0 when all pass. -/
def State.pmapCause (s : State) : Nat :=
  let on := ([0, 1] : List (Fin 2)).filter s.vidOn
  let inMem (a : Nat) : Bool := regionOf a == .basin || regionOf a == .dram
  let geometry (n : Fin 2) : Bool :=
    16 ≤ s.vidW n && 16 ≤ s.vidH n && (s.vidRgb n || s.vidW n % 2 == 0) && s.vidW n ≤ 3840 && s.vidH n ≤ 2160
  let table (b : Nat) : Bool :=
    let p := (s.reg (A.PMAP_PLIST b)).toNat
    let o := (s.reg (A.PMAP_OTAB b)).toNat
    (s.fld (F.PMAP_PCNT_COUNT b) == 0 || (p % 8 == 0 && inMem p && s.fld (F.PMAP_PCNT_COUNT b) ≤ 2097152))
      && (s.fld (F.PMAP_OCNT_COUNT b) == 0 || (o % 8 == 0 && inMem o && s.fld (F.PMAP_OCNT_COUNT b) ≤ 16640))
  let tpl := (s.reg A.PMAP_SACN_TPL).toNat
  let buf := (s.reg A.PMAP_SACN_BUF).toNat
  if !(on.all geometry) then 1
  else if on != [0] && !(on == [0, 1] && on.all fun n => s.vidW n ≤ 1920 && s.vidH n ≤ 1080) then 2
  else if !(on.all fun n => (s.reg (A.PMAP_IN_BASE n)).toNat % 65536 == 0 && regionOf (s.reg (A.PMAP_IN_BASE n)).toNat == .dram) then 3
  else if (s.bit F.PMAP_CTRL_SACN_EN || s.bit F.PMAP_SACN_CFG_DISC_EN) && !(tpl % 64 == 0 && inMem tpl) then 4
  else if s.bit F.PMAP_CTRL_SACN_EN && !(buf % 65536 == 0 && regionOf buf == .dram) then 4
  else if !(table 0 && table 1) then 5
  else 0

end Sys2Proof.Machine
end

