-- ==== Sys2Proof/Machine/EthRx.lean ====
section
/-!
DEFINITION. The Ethernet ports (spec/09), receiving side: filter, steering, delivery, pause frames, the bridge.
-/
namespace Sys2Proof.Machine

/-- A port's own address as a number. -/
def State.ownMac (s : State) (x : Fin 2) : Nat := s.fld (F.ETH_MAC_HI_ADDR x) * 2 ^ 32 + s.fld (F.ETH_MAC_LO_ADDR x)

def dstMac (f : List Byte) : Nat := beAt 0 6 f
def srcMac (f : List Byte) : Nat := beAt 6 6 f
def isMulticast (mac : Nat) : Bool := natBits mac 40 1 == 1
def broadcast : Nat := 0xFFFFFFFFFFFF

/-- The multicast address of an IPv4 group. -/
def groupMac (g : Nat) : Nat := 0x01005E000000 + g % 2 ^ 23

/-- The address filter (R301, step 1). -/
def State.ethAccepts (s : State) (x : Fin 2) (f : List Byte) : Bool :=
  let d := dstMac f
  d == s.ownMac x || d == broadcast
    || (s.bit (F.ETH_PTPQ_EN x) && (d == 0x011B19000000 || d == 0x01005E000181))
    || (s.eth x).groups.any (fun e => e.2 != 0 && d == groupMac e.2.toNat)
    || ([0, 1] : List (Fin 2)).any (fun n => s.vidOn n && d == groupMac (s.reg (A.PMAP_IN_GROUP n)).toNat)
    || (isMulticast d && s.bit (F.ETH_CFG_ALLMC x))

/-- A peer-delay message (R301). -/
def isPeerDelay (f : List Byte) : Bool :=
  match ptpAt f with
  | some o => [2, 3, 10].contains (ptpType f o)
  | none => false

def ipDst (f : List Byte) : Nat := beAt (ipAt f + 16) 4 f
def udpDst (f : List Byte) : Nat := beAt (l4At f + 2) 2 f
def tagged (f : List Byte) : Bool := beAt 12 2 f == 0x8100

/-- Whether rule `r` is enabled and its selected fields all match (R301, step 4). -/
def State.ruleMatches (s : State) (x : Fin 2) (r : Nat) (f : List Byte) : Bool :=
  let sel (m : Fld) (b : Bool) : Bool := !(s.bit m) || b
  s.bit (F.ETH_RULE_A_EN x r)
    && sel (F.ETH_RULE_A_M_ETYPE x r) (etype f == s.fld (F.ETH_RULE_A_ETYPE x r))
    && sel (F.ETH_RULE_A_M_IPDST x r) (isIpv4 f && ipDst f == s.fld (F.ETH_RULE_B_IPDST x r))
    && sel (F.ETH_RULE_A_M_UDP x r) (isUdp f && udpDst f == s.fld (F.ETH_RULE_C_UDP x r))
    && sel (F.ETH_RULE_A_M_VID x r) (tagged f && beAt 14 2 f % 2 ^ 12 == s.fld (F.ETH_RULE_C_VID x r))

/-- Where an accepted frame goes (R301, steps 2 to 5). -/
inductive Steer where
  | drop
  | video (n : Fin 2)
  | queue (q : Fin 8) (rule : Nat) (ptp : Bool)
  deriving DecidableEq, Repr

def State.steer (s : State) (x : Fin 2) (f : List Byte) : Steer :=
  let video := ([0, 1] : List (Fin 2)).find? fun n =>
    s.vidOn n && isUdp f && ipDst f == (s.reg (A.PMAP_IN_GROUP n)).toNat && udpDst f == s.fld (F.PMAP_IN_PORT_PORT n)
  if s.bit (F.ETH_PTPQ_EN x) && (ptpAt f).isSome then
    if isPeerDelay f then .drop else .queue (Fin.ofNat 8 (s.fld (F.ETH_PTPQ_QUEUE x))) 0xFF true
  else
    match (if x = 0 then video else none) with
    | some n => .video n
    | none =>
      match (List.range 16).find? fun r => s.ruleMatches x r f with
      | some r => .queue (Fin.ofNat 8 (s.fld (F.ETH_RULE_A_QUEUE x r))) r false
      | none => .queue 0 0xFF false

/-- Whether the IPv4 header checksum, and the UDP or TCP checksum, of a frame are good; a UDP checksum of 0 was not computed. -/
def ipSumGood (f : List Byte) : Bool := checksum (ipSum f) == 0
def l4SumGood (f : List Byte) : Bool :=
  (isUdp f && beAt (l4At f + 6) 2 f == 0) || checksum (l4Sum f) == 0
def sumsBad (f : List Byte) : Bool := isIpv4 f && (!(ipSumGood f) || (isL4 f && !(l4SumGood f)))

/-- The receive record before a frame (R303). -/
def rxRecord (x : Fin 2) (q : Fin 8) (rule stamp tci len : Nat) (strip ptp : Bool) (f : List Byte) : List Byte :=
  let flags := bit01 strip + 2 * bit01 (isIpv4 f) + 4 * bit01 (isIpv4 f && ipSumGood f) + 8 * bit01 (isL4 f)
    + 16 * bit01 (isL4 f && l4SumGood f) + 32 * bit01 ptp + 64 * bit01 (isMulticast (dstMac f) && dstMac f != broadcast)
    + 128 * bit01 (dstMac f == broadcast)
  leBytes 8 stamp ++ leBytes 2 len ++ leBytes 2 tci ++ leBytes 1 flags ++ leBytes 1 q.val ++ leBytes 1 x.val ++ leBytes 1 rule
    ++ List.replicate 16 0

/-- Takes a buffer of the queue in hand, where it has none: items that name no buffer are discarded and count (R303). -/
def Op.lendBuffer (x : Fin 2) (q : Fin 8) : Nat → Op
  | 0 => Op.skip
  | n + 1 => Op.get fun s =>
    Op.when (s.eth x).inHand[q].isNone
      (Op.hwPop (rillNo (s.fld (F.ETH_RQ_CFG_FREE x q))) fun v =>
        let i := natBits v.toNat 0 63
        if i < s.fld (F.ETH_RQ_CFG_COUNT x q) then Op.eth x fun p => { p with inHand := p.inHand.set q (some i) }
        else (Op.inc (A.ETH_RX_NOBUF x)).andThen (Op.lendBuffer x q n))

/-- Pushes the completion item of a received frame; it waits behind earlier ones of its queue, and while its rill cannot take it. -/
def Op.ethItem (x : Fin 2) (q : Fin 8) (v : DWord) : Op := Op.get fun s =>
  let wait := Op.eth x fun p => { p with items := p.items ++ [(q.val, v)] }
  if (s.eth x).items.any (·.1 == q.val) then wait
  else Op.keepPush ((ethBlock x).place (8 + q.val)) (rillNo (s.fld (F.ETH_RQ_CFG_DONE x q))) v fun
    | .ok => Op.skip
    | _ => wait

/-- Items that wait are tried again, in their order. -/
def Op.ethItems (x : Fin 2) : Op := Op.get fun s =>
  (Op.eth x fun p => { p with items := [] }).andThen (Op.each (s.eth x).items fun e => Op.ethItem x (Fin.ofNat 8 e.1) e.2)

/-- What becomes of a frame steered to a queue: delivered, lost in its delivery, or dropped under R304. -/
inductive Delivery where
  | delivered | lost | dropped
  deriving DecidableEq, Repr

/-- Delivers a frame to a queue (R302 to R304); the continuation learns what became of it. -/
def Op.deliverFrame (x : Fin 2) (q : Fin 8) (rule : Nat) (ptp full : Bool) (f : List Byte) (k : Delivery → Op) : Op := Op.get fun s =>
  let strip := tagged f && s.bit (F.ETH_CFG_STRIP x)
  let g := if strip then f.take 12 ++ f.drop 16 else f
  let size := if s.bit (F.ETH_RQ_CFG_BIG x q) then 10240 else 2048
  let done := rillNo (s.fld (F.ETH_RQ_CFG_DONE x q))
  let waits := (s.eth x).items.countP (·.1 == q.val)
  let count (a : Nat) : Op := (Op.inc a).andThen (k .dropped)
  if !(s.bit (F.ETH_RQ_CFG_EN x q)) then k .dropped
  else (Op.lendBuffer x q ((s.rill (rillNo (s.fld (F.ETH_RQ_CFG_FREE x q)))).unread + 1)).andThen (Op.get fun s =>
    match (s.eth x).inHand[q] with
    | none => count (A.ETH_RX_NOBUF x)
    | some i =>
      if !(s.hasRoom done false (waits + 1)) then count (A.ETH_RX_RILLFULL x)
      else if full then count (A.ETH_RX_FIFO x)
      else if size < g.length + 32 then (Op.inc (A.ETH_RX_TOOLONG x)).andThen (k .lost)
      else
        let stamp := s.now - s.fld (F.ETH_TSLAT_RX x)
        let rec_ := rxRecord x q rule stamp (if strip then beAt 14 2 f else 0) g.length strip ptp f
        Op.writeDws ((s.reg (A.ETH_RQ_BASE x q)).toNat + i * size) (dwordsOf 2048 (rec_ ++ g)) fun
          | false => (Op.set (F.ETH_ERR_RXBUS x) 1).andThen (k .lost)
          | true =>
            Op.all
              [ Op.eth x fun p => { p with inHand := p.inHand.set q none },
                Op.ethItem x q (BitVec.ofNat 64 (i % 2 ^ 16 + g.length * 2 ^ 16 + q.val * 2 ^ 30 + x.val * 2 ^ 33)), k .delivered ])

/-! ### Bridge (R313 to R315) -/

def otherPort (x : Fin 2) : Fin 2 := 1 - x

/-- Whether the bridge forwards a frame received on port `x` (R313). -/
def State.forwards (s : State) (x : Fin 2) (f : List Byte) : Bool :=
  let d := dstMac f
  s.bridging && d != s.ownMac x && !(isPeerDelay f)
    && (if d = broadcast then true
        else if isMulticast d then s.bit F.ETHA_BR_CFG_MCFWD
        else !(s.blk.net.table.any fun e => e.mac == d && e.port == x.val))

/-- Whether a frame that comes now is cut through (R314). -/
def State.cutsThrough (s : State) (x : Fin 2) (n : Nat) : Bool :=
  let y := otherPort x
  s.bit F.ETHA_BR_CFG_CUT && s.fld (F.ETH_STAT_SPEED x) == s.fld (F.ETH_STAT_SPEED y) && s.linkUp y && !(s.paused y)
    && !(s.txReady y .shows) && !([0, 1, 2, 3].any fun q => s.txReady y (.queue q)) && !(s.txReady y .bridge) && s.launchRoom y n

/-- Learns the source address of a good frame (R313). -/
def Op.learn (x : Fin 2) (f : List Byte) : Op := Op.get fun s =>
  let m := srcMac f
  let e : BridgeEntry := ⟨m, x.val, s.now⟩
  Op.when (s.bridging && !(isMulticast m))
    (Op.net fun n =>
      { n with table :=
          if n.table.any (·.mac == m) then n.table.map fun o => if o.mac == m then e else o
          else if n.table.length < 1024 then n.table ++ [e] else n.table })

/-- Forwards a frame: cut through, or by the bridge buffer of 128 KiB (R314). -/
def Op.forward (x : Fin 2) (f : List Byte) : Op := Op.get fun s =>
  let y := otherPort x
  let ingress := s.now - s.fld (F.ETH_TSLAT_RX x)
  if s.cutsThrough x f.length then Op.forwardOut y f ingress false
  else if ((s.eth y).waiting.map (·.1.length)).sum + f.length ≤ 131072 then
    (Op.eth y fun p => { p with waiting := p.waiting ++ [(f, ingress)] }).andThen Op.bridges
  else Op.inc (A.ETHA_BR_DROP 0)

/-! ### A received frame (R298, R299, R301) -/

/-- A pause frame: the port pauses for that many times 512 bit times, or resumes (R299). -/
def Op.pauseFrame (x : Fin 2) (quanta : Nat) : Op := Op.get fun s =>
  (Op.eth x fun p => { p with pauseEnd := s.now + quanta * 64 * s.byteTime x / 10 }).andThen
    (if quanta = 0 then Op.pauseOver x else Op.set (F.ETH_STAT_PAUSED x) 1)

/-- Port `x` receives a frame, given without its FCS; `full` says that the island buffer has no room: the frame is then dropped whole
and neither learned from nor forwarded, nor acted on where it is a pause frame (R19, R304, R313; log entry 32). A frame lost in its delivery is forwarded all the same. -/
def Op.frameReceived (x : Fin 2) (f : List Byte) (fcsGood full : Bool) : Op := Op.get fun s =>
  let pass := Op.get fun s => Op.when (s.forwards x f) (Op.forward x f)
  let fifo := Op.inc (A.ETH_RX_FIFO x)
  let ok :=
    Op.all
      [ Op.inc (A.ETH_RX_FRAMES x), Op.when (sumsBad f) (Op.inc (A.ETH_RX_CSUMERR x)), pass ]
  if !(s.working (ethBlock x)) then Op.skip
  else if f.length + 4 < 64 then Op.inc (A.ETH_RX_RUNT x)
  else if s.fld (F.ETH_CFG_MAXLEN x) < f.length + 4 then Op.inc (A.ETH_RX_TOOLONG x)
  else if !fcsGood then
    (Op.inc (A.ETH_RX_FCS x)).andThen (Op.when (s.forwards x f && s.cutsThrough x f.length && !full)
      ((Op.forwardOut (otherPort x) f (s.now - s.fld (F.ETH_TSLAT_RX x)) true).andThen (Op.inc (A.ETHA_BR_STOMP 0))))
  else if etype f = 0x8808 then
    if full then fifo
    else if beAt 14 2 f = 1 ∧ (dstMac f = 0x0180C2000001 ∨ dstMac f = s.ownMac x) then Op.pauseFrame x (beAt 16 2 f)
    else Op.inc (A.ETH_RX_CTRL x)
  else (Op.when (!full) (Op.learn x f)).andThen
    (if s.ethAccepts x f then
      match s.steer x f with
      | .drop => Op.inc (A.ETH_RX_CTRL x)
      | .video n =>
        if full then fifo else (Op.videoPacket n ((f.drop (l4At f + 8)).take (l4Len f - 8)) false).andThen ok
      | .queue q rule ptp => Op.deliverFrame x q rule ptp full f fun
        | .delivered => ok
        | .lost => pass
        | .dropped => Op.skip
    else if s.forwards x f then if full then fifo else ok
    else Op.inc (A.ETH_RX_FILTERED x))

/-- A received frame is filtered, steered, delivered, dropped or forwarded. -/
def execEthFrameReceive (x : Fin 2) (f : List Byte) (fcsGood full : Bool) (s : State) : Host.Outcome State Fault Refusal :=
  (Op.frameReceived x f fcsGood full).go s

/-- Learned addresses that have not been seen for `AGE` seconds leave the table (R313). -/
def execBridgeAge (s : State) : Host.Outcome State Fault Refusal :=
  (Op.on .etha (Op.net fun n =>
    { n with table := n.table.filter fun e => s.now < e.seen + s.fld F.ETHA_BR_CFG_AGE * 1000000000 })).go s

/-! ### The group table's window (R301) -/

/-- The entry in the window of the group table. -/
def State.groupData (s : State) (x : Fin 2) : Word := tget (fun _ => 0) (s.eth x).groups (s.fld (F.ETH_MC_SEL_INDEX x))

/-- An accepted write of `ETHx_MC_DATA`. -/
def Op.writeGroup (x : Fin 2) (v : Word) : Op := Op.get fun s =>
  Op.eth x fun p => { p with groups := tput (fun _ => 0) (s.fld (F.ETH_MC_SEL_INDEX x)) v p.groups }

end Sys2Proof.Machine
end

