-- ==== Sys2Proof/Machine/Flk.lean ====
section
/-!
DEFINITION. FLK and PXP (spec/07): sources and instants, commit and late rule, time steps, timecode and cues, pixel ports, RDM.
-/
namespace Sys2Proof.Machine

def State.flk (s : State) : Flk := s.blk.shows.flk
def Op.flk (f : Flk → Flk) : Op := Op.shw fun h => { h with flk := f h.flk }

/-! ### Instants (R225) -/

/-- The nominal period P as a fraction of ns: DEN × 10⁹ over NUM. -/
def State.flkP (s : State) : Nat × Nat := (s.fld F.FLK_RATE_DEN * 1000000000, s.fld F.FLK_RATE_NUM)

/-- P_m as a fraction: the mean of the last 8 accepted intervals, or P until there are 8. -/
def State.flkPm (s : State) (t : Track) : Nat × Nat := if t.ivals.length = 8 then (t.ivals.sum, 8) else s.flkP

def State.flkTrack (s : State) (src : Nat) : Track := if src = 1 then s.flk.gen else s.flk.ltc
def Op.flkTrack (src : Nat) (f : Track → Track) : Op :=
  Op.flk fun k => if src = 1 then { k with gen := f k.gen } else { k with ltc := f k.ltc }

def State.flkLat (s : State) : Nat := (s.reg A.FLK_LAT).toNat
def State.flkPhase (s : State) : Int := (s.reg A.FLK_PHASE).toInt

/-- The instant of frame `k` of network time. -/
def State.netInstant (s : State) (k : Nat) : Int :=
  let (d, n) := s.flkP
  (((k * d + n - 1) / n : Nat) : Int) + s.flkPhase

/-- The instant after `n` periods of a tracked source. -/
def State.trackInstant (s : State) (t : Track) (n : Nat) : Int :=
  let (a, b) := s.flkPm t
  (t.stamp.getD 0 : Int) + ((n * a / b : Nat) : Int) + s.flkPhase

/-- The next instant of a source whose walk starts at or after `base`, with its frame number. -/
def State.flkNext (s : State) (src base : Nat) : Option (Nat × Nat) :=
  let l := s.flkLat
  if src = 0 then
    let (d, n) := s.flkP
    let k0 := max (((((base + l : Nat) : Int) - s.flkPhase).toNat * n / d) - 1) (match s.flk.used with | some u => u + 1 | none => 0)
    if !(s.bit F.TSU_STAT_SET) || !(s.powered .tsu) then none
    else (([k0, k0 + 1, k0 + 2, k0 + 3].find? fun k => ((base + l : Nat) : Int) ≤ s.netInstant k).map fun k => ((s.netInstant k).toNat, k))
  else
    let t := s.flkTrack src
    let (a, b) := s.flkPm t
    let st := t.stamp.getD 0
    let bound := max (max (st + 2000 + l) (base + l)) (s.flk.last + 1)
    let n0 := (((bound : Int) - st - s.flkPhase).toNat * b / max a 1) - 1
    let k := if s.flk.fresh then 0 else match s.flk.used with | some u => u + 1 | none => 0
    if !t.locked || t.stamp.isNone then none
    else (([n0, n0 + 1, n0 + 2, n0 + 3].find? fun n => 1 ≤ n && (bound : Int) ≤ s.trackInstant t n).map fun n =>
      ((s.trackInstant t n).toNat, k))

/-- The source in use. -/
def State.flkSrc (s : State) : Nat := s.fld F.FLK_STAT_SRC

/-- Chooses the next instant of the source in use. -/
def Op.flkChoose (base : Nat) : Op := Op.get fun s => Op.flk fun k => { k with next := s.flkNext s.flkSrc base }

/-- Whether a walk for the next instant is in progress. -/
def State.inWalk (s : State) : Bool := s.blk.shows.walk.isSome

/-! ### Commit items (R233) -/

/-- Pushes the commit items that wait while the rill's controller is stopped or a packet is open (R156). -/
def Op.flkItems : Nat → Op
  | 0 => Op.skip
  | n + 1 => Op.get fun s =>
    match s.flk.items with
    | [] => Op.skip
    | v :: vs =>
      let pop := (Op.flk fun k => { k with items := vs }).andThen (Op.flkItems n)
      Op.hwPush (rillNo (s.fld F.FLK_EVT_RILL)) v fun
        | .ok => pop
        | .stopped => Op.skip
        | .busy => Op.skip
        | _ => (Op.inc A.FLK_EVT_LOST).andThen pop

/-- The item of an instant. -/
def Op.flkEvent (frame : Nat) (late skipped : Bool) : Op := Op.get fun s =>
  let v : DWord := BitVec.ofNat 64
    (frame % 2 ^ 32 + bit01 late * 2 ^ 32 + bit01 skipped * 2 ^ 33 + bit01 s.flk.first * 2 ^ 34 + s.flkSrc * 2 ^ 35)
  Op.when (s.bit F.FLK_EVT_EN)
    ((Op.flk fun k => { k with items := k.items ++ [v] }).andThen (Op.flkItems (s.flk.items.length + 1)))

/-! ### Pixel ports (R250 to R254) -/

/-- The frame that a port sends from the first `n` bytes of buffer `b`: with `PRE` and `POST` bytes in clocked mode (R252), with its
start code and at most 512 slots in DMX mode (R253). -/
def State.portFrame (s : State) (p : Fin 16) (b n : Nat) : List Byte :=
  let body := s.store.bytes (portKey p b 0) n
  match s.fld (F.PXP_CFG_MODE p) with
  | 0 => body
  | 1 => List.replicate (s.fld (F.PXP_CLK_PRE p)) 0 ++ body ++ List.replicate (s.fld (F.PXP_CLK_POST p)) 0xFF
  | _ => BitVec.ofNat 8 (s.fld (F.PXP_DMX_SC p)) :: body.take 512

/-- ns that a frame of `n` bytes takes on a port (R251 to R253). -/
def State.portTime (s : State) (p : Fin 16) (n : Nat) : Nat :=
  match s.fld (F.PXP_CFG_MODE p) with
  | 0 => n * 8 * s.fld (F.PXP_NRZ_TBIT p) * 10 + s.fld (F.PXP_NRZ_LATCH p) * 10000
  | 1 => (s.fld (F.PXP_CLK_PRE p) + n + s.fld (F.PXP_CLK_POST p)) * 8 * s.fld (F.PXP_CLK_DIV p) * 10
  | _ => (s.fld (F.PXP_DMX_BREAK p) + s.fld (F.PXP_DMX_MAB p) + 44 * (1 + min n 512)) * 1000

/-- Whether an enabled port transmits at frame `k` (R253): none while the pixel ports' gate is closed (R378). -/
def State.transmits (s : State) (p : Fin 16) (k : Nat) : Bool :=
  s.working .pxp && natBits (s.fld F.PXP_EN_EN) p.val 1 == 1 && !(s.gated 2)
    && (s.fld (F.PXP_CFG_MODE p) != 2 || k % max 1 (s.fld (F.PXP_CFG_DIV p)) == 0)

def Op.portBusy (p : Fin 16) (b : Bool) : Op := Op.set ⟨A.PXP_STAT, p.val, 1⟩ (bit01 b)

/-- Whether a port sends: a frame, or an RDM request whose transaction has not ended (R254; log entry 30). -/
def Port.busy (q : Port) : Bool := q.sends.isSome || (match q.rdm with | .running _ => true | _ => false)

/-- A port starts its frame at the instant, after swapping its buffers if the frame is on time; a port that still sends ignores
the instant (R254). -/
def Op.portInstant (k : Nat) (onTime : Bool) (p : Fin 16) : Op := Op.get fun s =>
  let q := s.port p
  Op.when (s.transmits p k)
    (if q.busy then Op.inc (A.PXP_OVERRUN p)
    else
      let n := if onTime then q.back else s.fld (F.PXP_LEN_BYTES p)
      let buf := if onTime then 1 - q.front else q.front
      Op.all
        [ Op.set (F.PXP_LEN_BYTES p) n,
          Op.port p fun q =>
            { q with
              front := buf
              back := if onTime then 0 else q.back
              sends := some (s.now + s.portTime p n)
              began := s.now
              wire := s.portFrame p buf n
              dmxEnded := false },
          Op.portBusy p true ])

def allPorts : List (Fin 16) := List.ofFn id

/-! ### Commit (R227, R228) -/

/-- Switches to source `n`, with `base` the earliest walk start (R230). -/
def Op.doSwitch (n base : Nat) : Op :=
  Op.all
    [ Op.set F.FLK_STAT_SRC n,
      Op.set F.FLK_STAT_PENDING 0,
      Op.set F.FLK_STAT_HOLDOVER 0,
      Op.inc A.FLK_SWITCHES,
      Op.flk fun k => { k with want := none, after := false, first := true },
      Op.flkChoose base ]

/-- What follows an instant: the frame number is used up, and the next instant is chosen. -/
def Op.afterInstant (t k : Nat) : Op := Op.get fun s =>
  (Op.flk fun f => { f with used := some k, last := t, fresh := false, first := false, next := none }).andThen
    (match s.flk.after, s.flk.want with
      | true, some n => Op.doSwitch n t
      | _, _ => Op.flkChoose t)

/-- The gates of the show role open at the first instant whose walk start lies at or after the take-over (R388). -/
def Op.showOpen (t : Nat) : Op := Op.get fun s =>
  Op.when (s.blk.oxb.showHold.any fun e => e + (s.reg A.FLK_LAT).toNat ≤ (t : Int))
    (Op.blk fun b => { b with oxb := { b.oxb with showHold := none } })

/-- At a commit instant FLK swaps buffers, starts the ports and releases the synchronization packet, or applies the late rule. -/
def Op.commitInstant : Op := Op.get fun s =>
  match s.flk.next with
    | none => Op.skip
    | some (t, k) =>
      let onTime := s.blk.shows.walk.any fun (w : Walk) =>
        w.frame == k && w.done.any fun d => d + (s.reg A.FLK_GUARD).toNat ≤ t
      Op.when (s.working .flk && t ≤ s.now)
        (Op.all
          [ Op.showOpen t,
            Op.flk fun f => { f with lateRun := if onTime then 0 else min 3 (f.lateRun + 1) },
            if onTime then
              Op.all
                [ Op.each allPorts (Op.portInstant k true),
                  Op.when (s.bit F.FLK_SYNC_EN) Op.launch,
                  Op.flk fun f => { f with frame := k } ]
            else (Op.each allPorts (Op.portInstant k false)).andThen (Op.inc A.FLK_LATE),
            if onTime then Op.endWalk else Op.abandonWalk,
            Op.flkEvent k (!onTime) false,
            Op.afterInstant t k,
            Op.bridges ])

def execCommitInstant (s : State) : Host.Outcome State Fault Refusal := Op.commitInstant.go s

/-! ### Sources (R230 to R232) -/

/-- Whether a source can be switched to. -/
def State.sourceReady (s : State) (n : Nat) : Bool := n == 0 || (s.flkTrack n).locked

/-- A request for source `n` while FLK runs; one for the source in use withdraws an earlier one. -/
def Op.want (n : Nat) : Op := Op.get fun s =>
  (Op.flk fun k => { k with want := if n = s.flkSrc then none else some n, after := false }).andThen
    (Op.set F.FLK_STAT_PENDING (bit01 (n != s.flkSrc && !(s.sourceReady n))))

/-- A write of `FLK_SRC.REQ` (R230). -/
def Op.sourceRequest (n : Nat) : Op := Op.get fun s =>
  if n = 3 then (Op.set F.FLK_ERR_SRCREQ 1).andThen (Op.logRefused .flk (s.fld F.FLK_ERR_CFG_CAUSE) 0)
  else (Op.set F.FLK_SRC_REQ n).andThen (Op.when (s.working .flk) (Op.want n))

/-- A write of `FLK_SRC.REQ` requests a source, or is refused for code 3. -/
def execSourceRequest (n : BitVec 2) (s : State) : Host.Outcome State Fault Refusal :=
  (Op.on .flk (Op.sourceRequest n.toNat)).go s

/-- FLK switches to the requested source once it is locked; a walk in progress commits under the old source first. -/
def execSourceSwitch (s : State) : Host.Outcome State Fault Refusal :=
  (match s.flk.want with
    | none => Op.skip
    | some n =>
      Op.when (s.working .flk && s.sourceReady n)
        (if s.inWalk then Op.flk fun k => { k with after := true } else Op.doSwitch n s.now)).go s

/-- An edge of source `src` at the present time (R231). -/
def Op.sourceEdge (src : Nat) : Op := Op.get fun s =>
  let t := s.flkTrack src
  let (d, n) := s.flkP
  let inUse := s.flkSrc == src
  match t.edge with
  | none => Op.flkTrack src fun t => { t with edge := some s.now }
  | some e =>
    let iv := s.now - e
    let off := ((iv * n : Nat) : Int) - d
    if off.natAbs * 50 ≤ d then
      let locks := !t.locked && t.good = 3
      Op.all
        [ Op.flkTrack src fun t =>
            { t with
              edge := some s.now
              stamp := some s.now
              ivals := (iv :: t.ivals).take 8
              good := min (t.good + 1) 4
              misses := 0
              locked := t.locked || locks },
          Op.when inUse (Op.set F.FLK_STAT_HOLDOVER 0),
          Op.when (inUse && locks) (Op.set F.FLK_STAT_PENDING 0),
          Op.when (locks && s.flk.want == some src) (Op.set F.FLK_STAT_PENDING 0),
          Op.get fun s => Op.when (inUse && !s.inWalk && (s.flkTrack src).locked) (Op.flkChoose (max s.now s.flk.last)) ]
    else Op.flkTrack src fun t => { t with edge := some s.now, good := 0 }

/-- An edge on `GENLOCK_IN` is stamped and accepted or rejected against the period; none reaches FLK while bank A is not usable (R519). -/
def execGenlockEdge (s : State) : Host.Outcome State Fault Refusal :=
  (Op.when (s.bankA && s.working .flk) (Op.sourceEdge 1)).go s

/-- No accepted edge has come within 1.02 P_m of the prediction: a miss, holdover, and the loss of the source after 8 (R231). -/
def execSourceMiss (ltc : Bool) (s : State) : Host.Outcome State Fault Refusal :=
  (let src := if ltc then 2 else 1
   let t := s.flkTrack src
   let (a, b) := s.flkPm t
   let inUse := s.flkSrc == src
   Op.when (s.working .flk && t.locked && (t.stamp.getD 0) * 100 * b + (100 * t.misses + 102) * a ≤ s.now * 100 * b)
    (Op.all
      [ Op.inc A.FLK_SRC_MISS,
        Op.flkTrack src fun t => { t with misses := t.misses + 1, locked := t.misses + 1 < 8, good := if t.misses + 1 < 8 then t.good else 0 },
        Op.when inUse (Op.set F.FLK_STAT_HOLDOVER 1),
        Op.when (inUse && t.misses + 1 == 8)
          (Op.all
            [ Op.set F.FLK_ERR_SRCLOST 1,
              Op.log 0x0021 Block.flk.num 0 src,
              Op.set F.FLK_STAT_HOLDOVER 0,
              Op.flk fun k => { k with want := some (s.fld F.FLK_SRC_FALLBACK), next := if s.inWalk then k.next else none },
              Op.set F.FLK_STAT_PENDING (bit01 (s.fld F.FLK_SRC_FALLBACK != 0 && !(s.sourceReady (s.fld F.FLK_SRC_FALLBACK)
                && s.fld F.FLK_SRC_FALLBACK != src))) ]) ])).go s

/-- What a step of the time base by `z` ns does to FLK (R232). On sources 1 and 2 the number of a skipped frame is used up, so that it
leaves a gap (R248). A first setting of the time base lets source 0 start (R319). -/
def Op.flkStep (z : Int) : Op := Op.get fun s =>
  let move (t : Track) : Track :=
    { t with edge := t.edge.map fun e => ((e : Int) + z).toNat, stamp := t.stamp.map fun e => ((e : Int) + z).toNat }
  let big := 1000 < z.natAbs
  Op.when (s.running .flk)
    (if big then
      Op.all
        [ match s.blk.shows.walk with
          | some w =>
            Op.all
              [ Op.abandonWalk, Op.inc A.FLK_SKIP, Op.flkEvent w.frame false true,
                Op.when (s.flkSrc != 0) (Op.flk fun k => { k with used := some w.frame, fresh := false }) ]
          | none => Op.skip,
          Op.flk fun k =>
            { k with
              gen := move k.gen, ltc := move k.ltc, ltcStamp := ((k.ltcStamp : Int) + z).toNat
              last := if s.flkSrc = 0 then 0 else ((k.last : Int) + z).toNat },
          Op.shw fun h => { h with walked := none },
          Op.get fun s => Op.flkChoose s.now ]
    else Op.when (s.flkSrc == 0 && s.flk.next.isNone) (Op.get fun s => Op.flkChoose s.now))

/-- The take-over that gates 2 and 3 look back to keeps its distance from the present (R388). -/
def Op.holdStep (z : Int) : Op := Op.blk fun b => { b with oxb := { b.oxb with showHold := b.oxb.showHold.map (· + z) } }

/-- Instants that PMAP and PXP hold keep their distance from the present as the time base changes by `z` ns: the last universe
discovery (R249), the frames and requests that ports send (R250). -/
def Op.showStep (z : Int) : Op := Op.shw fun h =>
  let move (t : Nat) : Nat := ((t : Int) + z).toNat
  { h with
    disc := h.disc + z
    ports := h.ports.map fun (q : Port) =>
      { q with
        sends := q.sends.map move, began := q.began + z
        rdm := match q.rdm with | .running t => .running (move t) | r => r } }

/-! ### Timecode and cues (R256 to R259) -/

/-- The count of a frame label (R256). -/
def ltcCount (rate hh mm ss ff : Nat) : Nat :=
  let fps := [24, 25, 30, 30].getD rate 30
  let c := fps * (3600 * hh + 60 * mm + ss) + ff
  let tm := 60 * hh + mm
  if rate = 2 then c - 2 * (tm - tm / 10) else c

/-- Nominal LTC frame time as a fraction of ns. -/
def ltcPeriod (rate : Nat) : Nat × Nat :=
  match rate with
  | 0 => (1000000000, 24)
  | 1 => (1000000000, 25)
  | 2 => (1001000000000, 30000)
  | _ => (1000000000, 30)

/-- How FLK posts cue items (R259). -/
def cueEvt : EvtCfg := ⟨F.FLK_CUE_RILL_RILL, some F.FLK_CUE_RILL_EN, A.FLK_CUE_LOST, some 16⟩

/-- The frame number of the first walk that starts from now on. -/
def State.nextWalkFrame (s : State) : Nat :=
  match s.flk.next with
  | some (_, k) => if s.inWalk || s.blk.shows.walked == some k then k + 1 else k
  | none => match s.flk.used with | some u => u + 1 | none => 0

/-- A cue fires (R259). -/
def Op.fireCue (chase : Bool) (c : DWord) : Op := Op.get fun s =>
  let v := c.toNat
  let swap := natBits v 24 1 == 1
  (Op.when (swap && s.powered .pmap) (Op.set F.PMAP_BANK_NEXT (natBits v 25 1))).andThen
    (Op.postEvent .flk cueEvt (BitVec.ofNat 64
      (natBits v 0 24 + bit01 chase * 2 ^ 24 + bit01 swap * 2 ^ 25 + natBits v 32 16 * 2 ^ 32
        + s.nextWalkFrame % 2 ^ 15 * 2 ^ 48)))

/-- The cues that a decoded count reaches (R258). -/
def Op.cue (c : Nat) (reverse first : Bool) : Op := Op.get fun s =>
  let at_ (q : DWord) : Nat := natBits q.toNat 0 24
  let fire :=
    match s.flk.cPrev with
    | some p =>
      if reverse ∨ c = p then Op.skip
      else if p < c ∧ c ≤ p + 2 ∧ !first then Op.each (s.flk.cues.filter fun q => p < at_ q && at_ q ≤ c) (Op.fireCue false)
      else match (s.flk.cues.filter fun q => at_ q ≤ c).getLast? with | some q => Op.fireCue true q | none => Op.skip
    | none =>
      if reverse then Op.skip
      else match (s.flk.cues.filter fun q => at_ q ≤ c).getLast? with | some q => Op.fireCue true q | none => Op.skip
  fire.andThen (Op.flk fun k => { k with cPrev := some c })

/-- Whether a valid LTC frame follows the one before it directly: it came after one frame time, at a speed within 10 % of nominal
(R256; log entry 30). -/
def State.ltcFollows (s : State) : Bool :=
  let (a, b) := ltcPeriod (s.fld F.FLK_LTC_CFG_RATE)
  let d := (s.now - s.flk.ltcStamp) * b
  1 ≤ s.flk.valid && 9 * d ≤ 10 * a && 10 * a ≤ 11 * d

/-- A valid LTC frame has been decoded: lock, count, stamp, the LTC source's edge, cues (R225, R256, R258). -/
def execLtcFrame (hh mm ss ff : BitVec 6) (reverse : Bool) (s : State) : Host.Outcome State Fault Refusal :=
  (let c := ltcCount (s.fld F.FLK_LTC_CFG_RATE) hh.toNat mm.toNat ss.toNat ff.toNat
   let locks := s.bit F.FLK_STAT_LTC_LOCK || s.ltcFollows
   Op.when (s.bankA && s.working .flk && s.bit F.FLK_LTC_CFG_EN)
    (Op.all
      [ Op.sourceEdge 2,
        Op.flk fun k => { k with valid := if locks then 2 else 1, ltcStamp := s.now },
        Op.set F.FLK_LTC_COUNT_COUNT c,
        Op.set F.FLK_LTC_COUNT_REV (bit01 reverse),
        Op.set F.FLK_STAT_LTC_REV (bit01 reverse),
        Op.when locks
          (Op.all
            [ Op.set F.FLK_STAT_LTC_LOCK 1, Op.cue c reverse s.flk.newLock,
              Op.flk fun k => { k with newLock := false } ]) ])).go s

/-- Four nominal frame times without a valid frame unlock the decoder (R256). -/
def execLtcUnlock (s : State) : Host.Outcome State Fault Refusal :=
  (let (a, b) := ltcPeriod (s.fld F.FLK_LTC_CFG_RATE)
   Op.when (s.running .flk && s.bit F.FLK_STAT_LTC_LOCK && s.flk.ltcStamp * b + 4 * a ≤ s.now * b)
    (Op.all
      [ Op.set F.FLK_STAT_LTC_LOCK 0, Op.inc A.FLK_LTC_LOST,
        Op.flk fun k => { k with valid := 0, newLock := true } ])).go s

/-! ### Start and stop of FLK (R226, R257, R261) -/

/-- The cue table passes R257: counts rise, reserved bits are zero. -/
def cuesOk (l : List DWord) : Bool :=
  l.all (fun q => natBits q.toNat 26 6 == 0 && natBits q.toNat 48 16 == 0)
    && (l.zip (l.drop 1)).all fun (a, b) => natBits a.toNat 0 24 ≤ natBits b.toNat 0 24

/-- Checks 1 to 4 of R226, then 6 to 8; 0 where they pass. -/
def State.flkCause1 (s : State) : Nat :=
  let (d, n) := s.flkP
  let rillOk (en rill : Fld) : Bool := !(s.bit en) || s.rillUsable (s.fld rill)
  if s.fld F.FLK_RATE_DEN = 0 ∨ n < s.fld F.FLK_RATE_DEN ∨ 60 * s.fld F.FLK_RATE_DEN < n then 1
  else if s.flkLat < 100000 ∨ 9 * d < 10 * s.flkLat * n then 2
  else if s.flkLat ≤ (s.reg A.FLK_GUARD).toNat ∨ d ≤ s.flkPhase.natAbs * n then 3
  else if !(rillOk F.FLK_EVT_EN F.FLK_EVT_RILL && rillOk F.FLK_CUE_RILL_EN F.FLK_CUE_RILL_RILL) then 4
  else 0

def State.flkCause2 (s : State) : Nat :=
  let (d, n) := s.flkP
  let (a, b) := ltcPeriod (s.fld F.FLK_LTC_CFG_RATE)
  let u := s.fld F.FLK_SYNC_UNIV
  if s.bit F.FLK_SYNC_EN ∧ (u = 0 ∨ 63999 < u) then 6
  else if s.fld F.FLK_SRC_REQ = 2 ∧ n * a < 50 * (((b * d : Nat) : Int) - (a * n : Nat)).natAbs then 7
  else if s.fld F.FLK_SRC_FALLBACK = 3 then 8
  else 0

/-- Sets `FLK_CTRL.RUN` where every check passes, and copies the cue table; `refuse` gets the cause otherwise. -/
def Op.flkRun (refuse : Nat → Op) (start : Op) : Op := Op.get fun s =>
  let base := (s.reg A.FLK_CUE_BASE).toNat
  let n := s.fld F.FLK_CUE_CNT_COUNT
  let go (cues : List DWord) : Op :=
    match s.flkCause2 with
    | 0 =>
      let src := s.fld F.FLK_SRC_REQ
      Op.all
        [ start,
          Op.set F.FLK_STAT_SRC src,
          Op.set F.FLK_STAT_PENDING (bit01 (src != 0)),
          Op.flk fun k =>
            { k with
              cues := cues, gen := Track.reset, ltc := Track.reset, want := none, after := false, first := false, fresh := true
              last := 0, valid := 0, newLock := true },
          Op.shw fun h => { h with walked := none },
          Op.get fun s => Op.flkChoose s.now ]
    | c => refuse c
  match s.flkCause1 with
  | 0 =>
    if n = 0 then go []
    else if 1024 < n ∨ base % 8 ≠ 0 then refuse 5
    else Op.readDws Block.flk.num base n fun
      | some l => if cuesOk l then go l else refuse 5
      | none => refuse 5
  | c => refuse c

/-- FLK stops: nothing further is committed, the walk in progress is abandoned (R261). -/
def Op.flkStop : Op :=
  Op.all
    [ Op.abandonWalk, Op.flk fun k => { k with next := none, want := none, after := false, valid := 0, newLock := true },
      Op.set F.FLK_STAT_PENDING 0, Op.set F.FLK_STAT_HOLDOVER 0, Op.set F.FLK_STAT_LTC_LOCK 0 ]

/-- Whether the source in use is locked (`FLK_STAT.LOCKED`). -/
def State.flkLocked (s : State) : Bool :=
  s.running .flk && (if s.flkSrc = 0 then s.powered .tsu && s.bit F.TSU_STAT_LOCKED else (s.flkTrack s.flkSrc).locked)

/-- P_m in ns (`FLK_PERIOD`), 0 while FLK does not run (R264; log entry 30). -/
def State.flkPeriod (s : State) : Nat :=
  let (a, b) := if s.flkSrc = 0 then s.flkP else s.flkPm (s.flkTrack s.flkSrc)
  if s.running .flk then a / max b 1 else 0

/-! ### Pixel ports: end of a frame, RDM, run check (R255, R263) -/

/-- A port finishes sending its frame, once the frame's time is over. -/
def execPortFrameEnd (p : Fin 16) (s : State) : Host.Outcome State Fault Refusal :=
  (Op.on .pxp (Op.when ((s.port p).sends.any (· ≤ s.now))
    ((Op.port p fun q => { q with sends := none, dmxEnded := s.fld (F.PXP_CFG_MODE p) == 2 }).andThen (Op.portBusy p false)))).go s

/-- A write of `PXPp_RDM_CTL` (R255). -/
def Op.rdmRequest (p : Fin 16) (v : Word) : Op := Op.get fun s =>
  if (s.port p).rdm = .idle then
    (Op.putReg (A.PXP_RDM_CTL p) (withField v 31 1 0)).andThen
      (Op.when (v.getLsbD 31) (Op.port p fun q => { q with rdm := .queued }))
  else Op.set F.PXP_ERR_RDMBUSY 1

/-- A write of `PXPp_RDM_CTL` with the value `v` queues a request, or is ignored while one is queued or running. -/
def execRdmRequest (p : Fin 16) (v : Word) (s : State) : Host.Outcome State Fault Refusal := (Op.on .pxp (Op.rdmRequest p v)).go s

/-- Time in ns to the port's next transmitting instant, where FLK has one. -/
def State.portNext (s : State) (p : Fin 16) : Option Nat :=
  match s.flk.next with
  | none => none
  | some (t, k) =>
    let d := max 1 (s.fld (F.PXP_CFG_DIV p))
    let (a, b) := s.flkP
    some (t + (roundUp k d - k) * a / max b 1 - s.now)

/-- After a DMX frame, with time enough to spare, the port sends the queued request (R255). -/
def execRdmStart (p : Fin 16) (s : State) : Host.Outcome State Fault Refusal :=
  (let n := s.fld (F.PXP_RDM_CTL_LEN p)
   let need := (192 + 44 * n + 2800 + 11500) * 1000
   let q := s.port p
   let time := (s.fld (F.PXP_DMX_BREAK p) + s.fld (F.PXP_DMX_MAB p) + 44 * n) * 1000
   Op.when (s.working .pxp && !(s.gated 2) && q.rdm == .queued && q.dmxEnded && q.sends.isNone && (s.portNext p).all (need ≤ ·))
    (Op.readBytes Block.pxp.num (s.reg (A.PXP_RDM_ADDR p)).toNat n fun
      | none => Op.port p fun q => { q with rdm := .idle }
      | some bs =>
        (Op.port p fun q => { q with rdm := .running (s.now + time), began := s.now, wire := bs, dmxEnded := false }).andThen
          (Op.portBusy p true))).go s

/-- Pushes the result item of a port, which waits while its rill cannot take it. -/
def Op.rdmResult (p : Fin 16) : Op := Op.get fun s =>
  match (s.port p).rdm with
  | .result v => Op.keepPush (Block.pxp.place (1 + p.val)) (rillNo (s.fld (F.PXP_RDM_CTL_RILL p))) v fun
    | .ok => Op.port p fun q => { q with rdm := .idle }
    | _ => Op.skip
  | _ => Op.skip

/-- When the response of an RDM request can end: after the request's last stop bit, and a timeout 2,800 µs later (R255). -/
def rdmEndFrom (fin : Nat) (kind : BitVec 2) : Nat := if kind = 2 then fin + 2800000 else fin

/-- A captured response ends or times out: it is stored at `PXPp_RDM_ADDR` + 0x200 and reported. `kind` is 0 response with
break, 1 without, 2 timeout (nothing has been captured), 3 framing error (R255). While bank B is not usable no response reaches the port
(R519). -/
def execRdmResponseEnd (p : Fin 16) (kind : BitVec 2) (bytes : List Byte) (s : State) : Host.Outcome State Fault Refusal :=
  (match (s.port p).rdm with
    | .running fin =>
      let got := if kind = 2 then [] else bytes.take 257
      Op.on .pxp (Op.when ((kind == 2 || s.bankB) && rdmEndFrom fin kind ≤ s.now)
        (Op.all
          [ Op.patchMem ((s.reg (A.PXP_RDM_ADDR p)).toNat + 0x200) got false fun _ => Op.skip,
            Op.portBusy p false,
            Op.port p fun q =>
              { q with rdm := .result (BitVec.ofNat 64 (kind.toNat + got.length * 4 + p.val * 2 ^ 12)) },
            Op.rdmResult p ]))
    | _ => Op.skip).go s

/-- Whether every setting of a port is in its range, whatever its mode and whether or not it is enabled (R251 to R253, R263). -/
def State.portOk (s : State) (p : Fin 16) : Bool :=
  s.fld (F.PXP_CFG_MODE p) != 3 && 1 ≤ s.fld (F.PXP_CFG_DIV p) && s.fld (F.PXP_CFG_DIV p) ≤ 8
    && s.fld (F.PXP_NRZ_T0H p) < s.fld (F.PXP_NRZ_T1H p) && s.fld (F.PXP_NRZ_T1H p) < s.fld (F.PXP_NRZ_TBIT p)
    && 100 ≤ s.fld (F.PXP_NRZ_TBIT p) && 5 ≤ s.fld (F.PXP_NRZ_LATCH p)
    && 5 ≤ s.fld (F.PXP_CLK_DIV p) && s.fld (F.PXP_CLK_PRE p) ≤ 16
    && 92 ≤ s.fld (F.PXP_DMX_BREAK p) && s.fld (F.PXP_DMX_BREAK p) ≤ 1000 && 12 ≤ s.fld (F.PXP_DMX_MAB p)

/-- The lowest port with a setting out of range (R263). -/
def State.pxpFault (s : State) : Option (Fin 16) := allPorts.find? fun p => !(s.portOk p)

/-- PXP runs: the enabled ports drive their pads (R517; log entry 44). -/
def Op.pxpStarted : Op := Op.get fun s =>
  Op.each allPorts fun p => Op.when (natBits (s.fld F.PXP_EN_EN) p.val 1 == 1) (Op.port p fun q => { q with driven := true })

/-- Whether every port has finished its frame, so that PXP may stop (R261). -/
def State.pxpIdle (s : State) : Bool := allPorts.all fun p => !(s.port p).busy

end Sys2Proof.Machine
end

