-- ==== Sys2Proof/Machine/Ieee.lean ====
section
/-!
DEFINITION. The frame format of IEEE 802.15.4 (frame version 2) as far as RAD reads and writes it: MAC header, auxiliary
security header, header IEs, the TSCH synchronisation IE, the enhanced acknowledgement, the FCS. The spec names the standard (R265) and
gives no layout: every layout of this file is PRESUMED, taken from the standard (log entry 7).
-/
namespace Sys2Proof.Machine

/-- What RAD reads of a MAC header. -/
structure Mhr where
  ftype : Nat
  sec : Bool
  pend : Bool
  ackReq : Bool
  version : Nat
  seq : Option Nat
  dpan : Option Nat
  dst : Option Nat
  dshort : Bool
  src : Option Nat
  sshort : Bool
  /-- where the auxiliary security header stands -/
  secAt : Nat
  level : Nat
  /-- frame counter suppressed, or ASN in the nonce -/
  oddSec : Bool
  kmode : Nat
  fc : Nat
  ksrc : Nat
  kidx : Nat
  /-- header bytes, header IEs included -/
  len : Nat
  /-- the Time Correction IE in µs -/
  tcorr : Option Int
  deriving DecidableEq, Repr

/-- The little-endian number of `n` bytes at `o`. -/
def leAt (o n : Nat) (bs : List Byte) : Nat := leNat ((bs.drop o).take n)

/-- Which PAN identifiers a version 2 header holds: destination, source. -/
def panFields (dmode smode : Nat) (comp : Bool) : Bool × Bool :=
  if dmode = 0 ∧ smode = 0 then (comp, false)
  else if smode = 0 then (!comp, false)
  else if dmode = 0 then (false, !comp)
  else if dmode = 3 ∧ smode = 3 then (!comp, false)
  else (true, !comp)

/-- Bytes of an address of a mode: 2 short, 3 extended. -/
def addrLen (mode : Nat) : Nat := if mode = 2 then 2 else if mode = 3 then 8 else 0

/-- Bytes of a key identifier of a mode. -/
def keyIdLen (mode : Nat) : Nat := [0, 1, 5, 9].getD mode 0

/-- Walks the header IEs from `o`: the end of the header and the Time Correction IE; nothing where an IE does not fit. `n`
bounds their number. -/
def headerIes : Nat → Nat → Option Int → List Byte → Option (Nat × Option Int)
  | 0, _, _, _ => none
  | n + 1, o, tc, bs =>
    if bs.length ≤ o then some (o, tc)
    else
      let d := leAt o 2 bs
      let len := natBits d 0 7
      let id := natBits d 7 8
      if bs.length < o + 2 + len ∨ natBits d 15 1 = 1 then none
      else if id = 0x7E ∨ id = 0x7F then some (o + 2 + len, tc)
      else
        headerIes n (o + 2 + len)
          (if id = 0x1E ∧ len = 2 then some (signedOf 12 (leAt (o + 2) 2 bs)) else tc) bs

/-- Bytes of the MIC at a level. -/
def micLen (level : Nat) : Nat := if level = 5 then 4 else if level = 6 then 8 else 16

/-- Reads a MAC header. `sc` gives the security control where the frame leaves only room for it, and no MIC follows. Header IEs
without a termination end where the MIC begins: the frame then has no payload. -/
def parseMhr (sc : Option Nat) (bs : List Byte) : Option Mhr :=
  let f := leAt 0 2 bs
  let b (i : Nat) : Bool := natBits f i 1 == 1
  let dmode := natBits f 10 2
  let smode := natBits f 14 2
  let (hd, hs) := panFields dmode smode (b 6)
  let o0 := if b 8 then 2 else 3
  let o1 := o0 + (if hd then 2 else 0)
  let o2 := o1 + addrLen dmode
  let o3 := o2 + (if hs then 2 else 0)
  let o4 := o3 + addrLen smode
  let c := sc.getD (leAt o4 1 bs)
  let kmode := natBits c 3 2
  let supp := natBits c 5 1 == 1
  let o5 := if b 3 then o4 + 1 + (if supp then 0 else 4) else o4
  let o6 := if b 3 then o5 + keyIdLen kmode else o4
  if bs.length < o6 ∨ bs.length < 2 ∨ dmode = 1 ∨ smode = 1 then none
  else
    let mic := if sc.isNone && b 3 && 5 ≤ natBits c 0 3 then micLen (natBits c 0 3) else 0
    match (if b 9 then headerIes (bs.length + 1) o6 none (bs.take (bs.length - mic)) else some (o6, none)) with
    | none => none
    | some (len, tc) =>
      some
        { ftype := natBits f 0 3, sec := b 3, pend := b 4, ackReq := b 5, version := natBits f 12 2
          seq := if b 8 then none else some (leAt 2 1 bs)
          dpan := if hd then some (leAt o0 2 bs) else none
          dst := if dmode = 0 then none else some (leAt o1 (addrLen dmode) bs)
          dshort := dmode == 2
          src := if smode = 0 then none else some (leAt o3 (addrLen smode) bs)
          sshort := smode == 2
          secAt := o4, level := natBits c 0 3, oddSec := supp || natBits c 6 1 == 1, kmode
          fc := leAt (o4 + 1) 4 bs
          ksrc := if kmode = 2 then leAt o5 4 bs else 0
          kidx := leAt (o6 - 1) 1 bs
          len, tcorr := tc }

/-- The security control of a level and key identifier mode. -/
def secControl (level kmode : Nat) : Nat := level + 8 * kmode

/-- The bytes of an auxiliary security header. -/
def auxHeader (level kmode fc ksrc kidx : Nat) : List Byte :=
  leBytes 1 (secControl level kmode) ++ leBytes 4 fc ++ (if kmode = 2 then leBytes 4 ksrc else []) ++ leBytes 1 kidx

/-- The CCM* nonce: source extended address, frame counter, level. -/
def ccmNonce (ext fc level : Nat) : List Byte := beBytes 8 ext ++ beBytes 4 fc ++ beBytes 1 level

/-- Sets or clears the Frame Pending bit. -/
def withPending (p : Bool) : List Byte → List Byte
  | b :: l => (if p then b ||| 0x10 else b &&& 0xEF) :: l
  | [] => []

/-- Where the content of the TSCH synchronisation IE stands in a frame whose payload IEs start at `o`: payload IE group 1
(MLME), nested short IE 0x1A. `n` bounds the number of IEs. -/
def syncAt : Nat → Nat → List Byte → Option Nat
  | 0, _, _ => none
  | n + 1, o, bs =>
    let d := leAt o 2 bs
    if bs.length < o + 2 then none
    else if natBits d 15 1 = 1 then
      if natBits d 11 4 = 1 then syncAt n (o + 2) bs else if natBits d 11 4 = 15 then none else syncAt n (o + 2 + natBits d 0 11) bs
    else if natBits d 8 7 = 0x1A ∧ natBits d 0 8 = 6 ∧ o + 8 ≤ bs.length then some (o + 2)
    else syncAt n (o + 2 + natBits d 0 8) bs

/-- The MAC header of an enhanced acknowledgement: no addresses, the sequence number of the frame it answers, the auxiliary
security header where there is one, the Time Correction IE. -/
def ackHeader (seq : Option Nat) (pend : Bool) (aux : List Byte) (tcorr : Int) : List Byte :=
  let f := 2 + (if aux.isEmpty then 0 else 8) + (if pend then 16 else 0) + (if seq.isSome then 0 else 2 ^ 8) + 2 ^ 9 + 2 * 2 ^ 12
  leBytes 2 f ++ (match seq with | some n => leBytes 1 n | none => []) ++ aux
    ++ leBytes 2 (2 + 0x1E * 2 ^ 7) ++ leBytes 2 (unsignedOf 12 (clampS 12 tcorr))

/-! ### Frame check sequence -/

def fcsStep (c : Nat) : Nat := if c % 2 = 0 then c / 2 else (c / 2) ^^^ 0x8408

/-- The frame check sequence of `n` bytes over a frame: CRC-32, or for 2 bytes the CRC of ITU-T with generator 0x1021, bit 0 first. -/
def fcsOf (n : Nat) (bs : List Byte) : List Byte :=
  if n = 4 then leBytes 4 (crc32 (nums bs))
  else leBytes 2 ((nums bs).foldl (fun c b => (List.range 8).foldl (fun c _ => fcsStep c) (c ^^^ b)) 0)

end Sys2Proof.Machine
end

