-- ==== Sys2Proof/Machine/Maint.lean ====
section
/-!
DEFINITION. Memory integrity and maintenance (spec/15): the grant that intrusive activities share, retraining and self-test,
the scrubber, write-backs, initialisation and remapping.
-/
namespace Sys2Proof.Machine

/-! ### The grant (R464 to R469) -/

/-- Posts an event of MEM (R470). -/
def Op.memEvent (kind memory detail : Nat) : Op := Op.postEvent .mem memEvt (memItem kind memory detail)

/-- Refuses a command of MEM with a cause. -/
def Op.memRefuse (cause : Nat) : Op :=
  Op.all [ Op.set F.MEM_ERR_CONFIG 1, Op.set F.MEM_ERR_CFG_CAUSE cause, Op.logRefused .mem cause 0 ]

/-- The outcome of a request for an activity. -/
inductive Maint where
  | granted
  | queued
  | refused
  deriving DecidableEq, Repr

/-- A request for an activity (R465): at a free grant it starts unless a lower-numbered request is queued, and takes a queued one of its
own activity with it; otherwise it is refused with `MAINT_BUSY`, counted and reported, and queued where its retry flag is set. -/
def Op.maintRequest (act : Nat) (retry : Bool) (k : Maint → Op) : Op := Op.get fun s =>
  (Op.when ([1, 2, 3].any fun a => a < act && s.maintQueued a) Op.grantFree).andThen (Op.get fun s =>
    if s.fld F.MEM_MAINT_STAT_GRANT = 0 then
      (Op.when (act ≤ 3) (Op.set ⟨A.MEM_MAINT_STAT, 7 + act, 1⟩ 0)).andThen
        (Op.startActivity act fun ok => Op.when ok (k .granted))
    else
      Op.all
        [ Op.inc A.MEM_MAINT_REFUSED,
          Op.memEvent 2 act act,
          if retry then (Op.set ⟨A.MEM_MAINT_STAT, 7 + act, 1⟩ 1).andThen (k .queued) else k .refused ])

/-- A write of `MEM_MAINT_REQ` (R467). -/
def Op.maintWrite (v : Word) : Op :=
  let act := natBits v.toNat 0 3
  Op.all
    [ Op.putReg A.MEM_MAINT_REQ (v &&& 0xF),
      Op.when (v.getLsbD 31)
        (if act ≠ 2 ∧ act ≠ 3 then Op.set F.MEM_MAINT_STAT_RESULT 3
         else Op.maintRequest act (v.getLsbD 3) fun
          | .granted => Op.skip
          | .queued => Op.set F.MEM_MAINT_STAT_RESULT 1
          | .refused => Op.set F.MEM_MAINT_STAT_RESULT 2) ]

/-- Firmware requests an activity. -/
def execMaintRequest (v : Word) (s : State) : Host.Outcome State Fault Refusal := ((Op.on .mem (Op.maintWrite v))).go s

/-- Whether the holder of the grant has ended its activity or lost its power (R466): STO releases after each operation; the
other activities end by rows of their own, which release the grant. -/
def State.holderDone (s : State) : Bool :=
  match s.fld F.MEM_MAINT_STAT_GRANT with
  | 1 => true
  | 2 => !(s.domOn 14)
  | 4 => !(s.powered .rad)
  | _ => false

/-- DRAM retraining ends (R468). -/
def execRetrainingEnd (s : State) : Host.Outcome State Fault Refusal :=
  ((Op.on .mem (Op.get fun s =>
    Op.when (s.bit F.MEM_STAT_RETRAIN) (Op.retrainEnd (Op.memEvent 4 2 0))))).go s

/-- A memory self-test ends; `lines` are the failing lines, counted from the start of the region (R469). -/
def execMemSelfTestEnd (lines : List (BitVec 25)) (s : State) : Host.Outcome State Fault Refusal :=
  ((Op.on .mem (Op.get fun s =>
    let base := s.blk.memu.test.1
    let bad := (lines.map (·.toNat)).eraseDups.filter (· < s.blk.memu.test.2 / 64)
    Op.when (s.bit F.MEM_STAT_STBUSY)
      (Op.all
        [ Op.set F.MEM_STAT_STBUSY 0,
          Op.set F.MEM_STAT_SCRUBPAUSE 0,
          Op.setReg A.MEM_ST_RES bad.length,
          Op.when (!bad.isEmpty) (Op.setReg A.MEM_ST_FIRST (base + 64 * bad.foldl min (bad.headD 0))),
          Op.memEvent 3 (memNumber base) bad.length,
          Op.releaseGrant 3 ])))).go s

/-! ### Scrubbing and write-backs (R452, R462) -/

/-- The first address and the size of a scrubbed memory. -/
def memStart (m : Fin 3) : Nat := [0x10000000, 0x20000000, 0x80000000].getD m.val 0
def memSize (m : Fin 3) : Nat := [0x400000, 0x100000, 0x70000000].getD m.val 0

/-- The first valid doubleword of memory `m` at or above the offset, as an address. -/
def State.nextValid (s : State) (m : Fin 3) (off : Nat) : Option Nat :=
  let a := memStart m + off
  let inMem (p : Nat × Bool) : Bool := p.2 && memStart m ≤ p.1 && p.1 < memStart m + memSize m
  if m.val = 2 then
    ((s.store.valid.filter fun p => inMem p && a < p.1 + 4096).head?).map fun p => max a p.1
  else ((s.store.valid.filter fun p => inMem p && a ≤ p.1).head?).map (·.1)

/-- Whether the self-test that runs pauses the scrubber of memory `m` (R463). -/
def State.scrubPaused (s : State) (m : Fin 3) : Bool :=
  s.bit F.MEM_STAT_STBUSY && memNumber s.blk.memu.test.1 == m.val

/-- A word with an uncorrectable error, found by the scrubber: reported unless it is listed (R462). -/
def Op.scrubUe (a : Nat) : Op := Op.get fun s =>
  Op.when (!(s.blk.memu.scrubbed.contains a))
    ((Op.reportUe a 18).andThen (Op.memu fun m => { m with scrubbed := (a :: m.scrubbed).take 16 }))

/-- The scrubber reads the next valid code word of a memory; the last of a pass ends it with event 5. -/
def Op.scrub (m : Fin 3) : Op := Op.get fun s =>
  match s.nextValid m s.blk.memu.scrubAt[m] with
  | none => (Op.memu fun u => { u with scrubAt := u.scrubAt.set m 0 }).andThen (Op.memEvent 5 m.val 0)
  | some a =>
    let next := a + 8 - memStart m
    let last := (s.nextValid m next).isNone
    Op.all
      [ match weight (s.errAt a) with
        | 0 => Op.skip
        | 1 => Op.reportCe a (s.store.w64 a) (s.errAt a)
        | 2 => Op.scrubUe a
        | _ => Op.draw fun n =>
          match Config.eccOutcome n with
          | 0 => Op.reportCe a (Config.eccData n) (s.errAt a)
          | 1 => Op.scrubUe a
          | 2 => Op.skip,
        Op.memu fun u => { u with scrubAt := u.scrubAt.set m (if last then 0 else next) },
        Op.when last (Op.memEvent 5 m.val 0) ]

/-- The scrubber reads a code word of memory `m`: 0 Basin, 1 rill SRAM, 2 DRAM. -/
def execScrubRead (m : Fin 3) (s : State) : Host.Outcome State Fault Refusal :=
  ((Op.get fun s =>
    Op.when (s.running .mem && s.domOn (memDomain (memStart m)) && !(s.scrubPaused m)
      && !(m.val == 2 && s.bit F.MEM_STAT_RETRAIN)) (Op.scrub m))).go s

/-- MEM writes back the corrected code word that has waited longest, unless what is stored has changed since (R452). A
write-back never consumes the flip mask. -/
def execWriteback (s : State) : Host.Outcome State Fault Refusal :=
  ((Op.on .mem (Op.get fun s =>
    match s.blk.memu.writebacks with
    | [] => Op.skip
    | (a, d, e, v) :: rest =>
      Op.all
        [ Op.memu fun m => { m with writebacks := rest },
          Op.when (s.isValid a && s.store.w64 a == d && s.errAt a == e)
            (Op.all [ Op.putBytes a (leBytes 8 v.toNat), Op.putErr a 0, Op.inc A.MEM_WRITEBACK ]) ]))).go s

/-! ### Initialisation and remapping (R459, R460) -/

/-- A write of `MEM_INIT_CTL` (R459): the valid bits of the range clear, so that it reads as zero. -/
def Op.initWrite (v : Word) : Op := Op.get fun s =>
  let n := natBits v.toNat 0 19
  let m := natBits v.toNat 20 2
  let a := (s.reg A.MEM_INIT_BASE).toNat
  let start := [0x10000000, 0x20000000, 0x80000000].getD m 0
  let size := [0x400000, 0x100000, 0x70000000].getD m 0
  Op.all
    [ Op.putReg A.MEM_INIT_CTL (v &&& 0x7FFFFFFF),
      Op.when (v.getLsbD 31)
        (if a % 4096 ≠ 0 ∨ n = 0 ∨ m = 3 ∨ a < start ∨ start + size < a + 4096 * n then Op.memRefuse 2
         else if m = 1 ∧ s.running .rill then Op.memRefuse 3
         else
          Op.all
            [ Op.dropMem a (a + 4096 * n),
              Op.memu fun u => { u with scrubbed := u.scrubbed.filter fun w => w < a || a + 4096 * n ≤ w },
              Op.memu fun u => { u with inits := (a, 4096 * n) :: u.inits },
              Op.set F.MEM_STAT_INITBUSY 1 ]) ]

/-- MEM clears the valid bits of a range. -/
def execMemInit (v : Word) (s : State) : Host.Outcome State Fault Refusal := (Op.on .mem (Op.initWrite v)).go s

/-- An initialisation ends. -/
def execMemInitDone (s : State) : Host.Outcome State Fault Refusal := (Op.on .mem Op.initEnd).go s

/-- The register of a remap entry: 8 of Basin, 16 of DRAM. -/
def remapReg (dram : Bool) (e : Nat) : Nat := if dram then A.MEM_DREMAP e else A.MEM_BREMAP e

/-- Whether an entry other than `e` holds a line. -/
def State.remapHeld (s : State) (dram : Bool) (e line : Nat) : Bool :=
  (List.range (if dram then 16 else 8)).any fun i =>
    i != e && (s.reg (remapReg dram i)).getLsbD 31 && natBits (s.reg (remapReg dram i)).toNat 0 25 == line

/-- A write of a remap entry: only the install of a line that no entry holds, or the removal of an installed one, is taken
(R460). What memory holds stays, errors included, since the spare takes over the code words raw. -/
def Op.remapWrite (dram : Bool) (e : Nat) (v : Word) : Op := Op.get fun s =>
  let old := s.reg (remapReg dram e)
  let line := if dram then natBits v.toNat 0 25 else natBits v.toNat 0 16
  let m := if dram then 2 else 0
  if old.getLsbD 31 == v.getLsbD 31 || (v.getLsbD 31 && s.remapHeld dram e line) then Op.set F.MEM_ERR_REMAP 1
  else
    (Op.putReg (remapReg dram e) v).andThen
      (Op.memEvent 6 m (if v.getLsbD 31 then line else natBits old.toNat 0 25))

/-- An entry is installed for a line of Basin or DRAM. -/
def execRemapInstall (dram : Bool) (e : Fin 16) (line : BitVec 25) (s : State) : Host.Outcome State Fault Refusal :=
  (Op.on .mem (Op.when (dram || e.val < 8) (Op.remapWrite dram e.val ((0x40#7) ++ line)))).go s

/-- An entry is removed. -/
def execRemapRemove (dram : Bool) (e : Fin 16) (line : BitVec 25) (s : State) : Host.Outcome State Fault Refusal :=
  (Op.on .mem (Op.when (dram || e.val < 8) (Op.remapWrite dram e.val ((0#7) ++ line)))).go s

/-- A write of `MEM_FLIP_CFG`: while `ARM` reads 1 it disarms the flip first (R461). -/
def Op.flipWrite (v : Word) : Op :=
  (Op.set F.MEM_FLIP_CFG_ARM 0).andThen (Op.putReg A.MEM_FLIP_CFG v)

end Sys2Proof.Machine
end

