-- ==== Sys2Proof/Machine/Rad.lean ====
section
/-!
DEFINITION. The mesh radio MAC (spec/08): neighbour table, frame counters, completions, schedule banks, drift learning, time
parent, and the commands on them.
-/
namespace Sys2Proof.Machine

def Op.rad (f : Rad → Rad) : Op := Op.blk fun b => { b with rad := f b.rad }

/-! ### Events (R289) -/

def radEvt : EvtCfg := ⟨F.RAD_RILLS_EVT, none, A.RAD_EVT_LOST, none⟩

/-- Posts an event: kind, neighbour or key entry, detail. -/
def Op.radEvent (kind who detail : Nat) : Op :=
  Op.postEvent .rad radEvt (BitVec.ofNat 64 (kind + who % 1024 * 2 ^ 8 + detail % 2 ^ 31 * 2 ^ 32))

/-! ### Neighbour table (R284) -/

/-- A field of `n` bytes at offset `o` of neighbour entry `i`. -/
def State.nbr (s : State) (i o n : Nat) : Nat := s.store.le (nbrKey i o) n

/-- Writes such a field. -/
def Op.setNbr (i o n v : Nat) : Op := Op.putBytes (nbrKey i o) (leBytes n v)

/-- Stores a signed 32-bit field. A value outside the format has no result in the spec: a free value takes its place (log
entry 11). -/
def Op.setNbrInt (i o : Nat) (z : Int) : Op :=
  if clampS 32 z = z then Op.setNbr i o 4 (unsignedOf 32 z)
  else Op.draw fun n => Op.setNbr i o 4 (Config.freeDword n).toNat

/-- A flag of a neighbour: 0 `VALID`, 1 `TPCAND`, 2 `SLEEPY`, 3 `ADRIFT`, 4 `TPARENT`. -/
def State.nbrFlag (s : State) (i f : Nat) : Bool := i < 512 && natBits (s.nbr i 0x0C 2) f 1 == 1

def Op.setNbrFlag (i f : Nat) (v : Bool) : Op := Op.get fun s =>
  Op.when (i < 512) (Op.setNbr i 0x0C 2 (withField (BitVec.ofNat 32 (s.nbr i 0x0C 2)) f 1 (bit01 v)).toNat)

/-- The valid neighbour that `p` holds of, lowest index first. -/
def State.findNbr (s : State) (p : Nat → Bool) : Option Nat := (List.range 512).find? fun i => s.nbrFlag i 0 && p i

/-! ### Slot timing (R266, R285, R286) -/

/-- Whether RAD is in relay role. -/
def State.relay (s : State) : Bool := s.bit F.RAD_CTRL_ROLE

def State.parent (s : State) : Nat := s.fld F.RAD_SYNC_PARENT

/-- The slot length in ns. -/
def State.slotNs (s : State) : Nat := s.fld F.RAD_TMPL_A_SLOT * 1000

/-- pred(n, t) of R285: the offset of a neighbour's slot boundaries in ns. -/
def State.pred (s : State) (n : Nat) (t : Int) : Int :=
  if n < 512 then
    signedOf 32 (s.nbr n 0x28 4) + (signedOf 32 (s.nbr n 0x2C 4) * (t - s.nbr n 0x20 8)).tdiv 1000000000
  else 0

/-- The instant at which slot 0 would start by the time the parent keeps, before the movement of R286. -/
def State.slotBase (s : State) : Int :=
  if s.relay then s.blk.rad.base
  else ((s.reg A.RAD_ASN_EPOCH_HI).toNat * 2 ^ 32 + (s.reg A.RAD_ASN_EPOCH_LO).toNat : Nat)

/-- The module's own slot 0 as it stands at `t`: in relay role the boundaries move by pred(parent, t). -/
def State.ownBase (s : State) (t : Int) : Int := s.slotBase + (if s.relay then s.pred s.parent t else 0)

/-- The present ASN, if slot 0 has started. -/
def State.asnNow (s : State) : Option Nat :=
  let d := (s.now : Int) - s.ownBase s.now
  if d < 0 ∨ s.slotNs = 0 then none else some (d.toNat / s.slotNs % 2 ^ 40)

/-- guard(n, t) of R285 in µs, and whether it was capped. -/
def State.guardOf (s : State) (n : Nat) (t : Int) : Nat × Bool :=
  let bnd := 2 * s.nbr n 0x30 4 + s.fld F.RAD_DRIFT_FLOOR
  let term := (bnd * (t - s.nbr n 0x20 8).toNat + 10 ^ 12 - 1) / 10 ^ 12
  let wide := s.nbrFlag n 3 || (s.nbrFlag n 4 && 3 ≤ s.fld F.RAD_SYNC_MISS)
  let g := s.fld F.RAD_GUARD_BASE + term + (if wide then 3 * term else 0)
  if s.fld F.RAD_TMPL_B_RXWAIT / 2 < g then (s.fld F.RAD_TMPL_B_RXWAIT / 2, true) else (g, false)

/-- A drift observation e of neighbour `n` at `t` (R285); of the time parent it moves the module's own boundaries (R286). -/
def Op.observe (n : Nat) (e t : Int) : Op := Op.get fun s =>
  let obs := s.nbr n 0x1E 2
  let parent := s.relay && s.parent == n
  let store := Op.all
    [ Op.setNbrInt n 0x28 (if parent then 0 else e),
      Op.when parent (Op.rad fun r => { r with base := r.base + e }),
      Op.setNbr n 0x20 8 (unsignedOf 64 t),
      Op.setNbr n 0x1E 2 (min (obs + 1) 65535) ]
  if obs = 0 then store
  else
    let learn (rate : Int) : Op :=
      let b : Int := s.nbr n 0x30 4
      let b' := b + ((rate.natAbs : Int) - b) / 8
      Op.all
        [ Op.setNbrInt n 0x2C (signedOf 32 (s.nbr n 0x2C 4) + rate / 2 ^ s.fld F.RAD_DRIFT_SHIFT),
          if clampU 32 b' = b' then Op.setNbr n 0x30 4 b'.toNat
          else Op.draw fun i => Op.setNbr n 0x30 4 (Config.freeDword i).toNat,
          store ]
    let dt := t - s.nbr n 0x20 8
    -- two observations at one instant: the spec states no rate (log entry 11)
    if dt = 0 then Op.draw fun i => learn (signedOf 64 (Config.freeDword i).toNat)
    else learn (((e - s.pred n t) * 1000000000).tdiv dt)

/-! ### Completions (R277) -/

/-- The item of a completed frame. -/
def txItem (desc status tries : Nat) : DWord := BitVec.ofNat 64 (desc + status * 2 ^ 32 + tries % 8 * 2 ^ 40)

/-- Pushes the completions that are held, oldest first, while their rill takes them; `n` bounds their number. -/
def Op.radFlush : Nat → Op
  | 0 => Op.skip
  | n + 1 => Op.get fun s =>
    match s.blk.rad.done with
    | [] => Op.skip
    | v :: rest => Op.keepPush (Block.rad.place 1) (rillNo (s.fld F.RAD_RILLS_TXDONE)) v fun
      | .ok => (Op.rad fun r => { r with done := rest }).andThen (Op.radFlush n)
      | _ => Op.skip

def Op.radFlushAll : Op := Op.get fun s => Op.radFlush s.blk.rad.done.length

/-- Writes RESULT and pushes the completion item, or holds it. -/
def Op.radResult (desc status tries fc : Nat) : Op := Op.get fun s =>
  let a := desc / 8 * 8 + 0x20
  let item := txItem desc status tries
  let hold := Op.rad fun r => { r with done := r.done ++ [item] }
  Op.all
    [ if s.reaches a then Op.storeDw a (BitVec.ofNat 64 (status + tries % 8 * 2 ^ 8 + fc * 2 ^ 32)) else Op.set F.RAD_ERR_TXBUS 1,
      Op.when (status == 0) (Op.inc A.RAD_TX_OK),
      Op.when (status == 1) (Op.inc A.RAD_TX_NOACK),
      if s.blk.rad.done.isEmpty then
        Op.keepPush (Block.rad.place 1) (rillNo (s.fld F.RAD_RILLS_TXDONE)) item fun
          | .ok => Op.skip
          | _ => hold
      else hold ]

/-- Whether a radio awaits the acknowledgement of a frame. -/
def RadioAct.holds (f : RadFrame) : RadioAct → Bool
  | .awaits n d _ _ => n == f.nbr && d == f.desc
  | _ => false

def State.inFlight (s : State) (f : RadFrame) : Bool := s.blk.rad.acts.toList.any (RadioAct.holds f)

/-- Removes a frame from its queue and completes it. -/
def Op.complete (f : RadFrame) (status : Nat) : Op :=
  Op.all
    [ Op.rad fun r => { r with
        queue := r.queue.erase f
        acts := r.acts.map fun a => if RadioAct.holds f a then .idle else a },
      Op.radResult f.desc status f.tries (f.fc.getD 0) ]

/-- Completes every queued frame that `p` holds of. -/
def Op.completeAll (p : RadFrame → Bool) (status : Nat) : Op := Op.get fun s =>
  Op.each (s.blk.rad.queue.filter p) fun f => Op.complete f status

/-! ### Frame counters (R281, R283) -/

def withBit {n : Nat} (v : BitVec n) (i : Nat) (b : Bool) : BitVec n :=
  if b then v ||| BitVec.twoPow n i else v &&& ~~~ BitVec.twoPow n i

/-- Records whether entry `k` is exhausted; `FCWAIT` says that some entry is. -/
def Op.setStalled (k : Nat) (v : Bool) : Op :=
  (Op.rad fun r => { r with stalled := withBit r.stalled k v }).andThen
    (Op.get fun s => Op.set F.RAD_STAT_FCWAIT (bit01 (s.blk.rad.stalled != 0)))

/-- Entry `k` is exhausted: event 9, once (R281). -/
def Op.exhaust (k : Nat) : Op := Op.get fun s =>
  Op.when (!(s.blk.rad.stalled.getLsbD k)) ((Op.setStalled k true).andThen (Op.radEvent 9 k 0))

/-- RAD goes over to the armed block of entry `k` (R281). -/
def Op.switchBlock (k : Nat) : Op := Op.get fun s =>
  Op.all
    [ Op.putReg (A.RAD_KEY_FC k) (s.reg (A.RAD_KEY_NEXT_BASE k)),
      Op.putReg (A.RAD_KEY_CEIL k) (s.reg (A.RAD_KEY_NEXT_CEIL k)),
      Op.rad fun r => { r with armed := withBit r.armed k false, warned := withBit r.warned k false },
      Op.setStalled k false,
      Op.radEvent 8 k (s.reg (A.RAD_KEY_NEXT_BASE k)).toNat ]

/-- The warning that counters run low (R281). -/
def Op.lowCheck (k : Nat) : Op := Op.get fun s =>
  let left := (s.reg (A.RAD_KEY_CEIL k)).toNat - (s.reg (A.RAD_KEY_FC k)).toNat
  let low := s.fld (F.RAD_KEY_CFG_LOW k)
  Op.when (low != 0 && left ≤ 256 * low && !(s.blk.rad.armed.getLsbD k) && !(s.blk.rad.warned.getLsbD k))
    ((Op.rad fun r => { r with warned := withBit r.warned k true }).andThen (Op.radEvent 7 k left))

/-- Takes the next counter of entry `k`, after going over to the armed block where the present one is used up; the
continuation gets none where the entry is exhausted (R281). -/
def Op.takeCounter (k : Nat) (cont : Option Nat → Op) : Op := Op.get fun s =>
  let spent := !((s.reg (A.RAD_KEY_FC k)).toNat < (s.reg (A.RAD_KEY_CEIL k)).toNat)
  if spent && !(s.blk.rad.armed.getLsbD k) then (Op.exhaust k).andThen (cont none)
  else
    (Op.when spent (Op.switchBlock k)).andThen (Op.get fun s =>
      let fc := (s.reg (A.RAD_KEY_FC k)).toNat
      Op.all
        [ Op.setReg (A.RAD_KEY_FC k) (fc + 1),
          Op.get fun s =>
            if fc + 1 = (s.reg (A.RAD_KEY_CEIL k)).toNat then
              if s.blk.rad.armed.getLsbD k then Op.switchBlock k else (Op.lowCheck k).andThen (Op.exhaust k)
            else Op.lowCheck k,
          cont (some fc) ])

/-- Firmware has written `RAD_KEYk_FC` or `RAD_KEYk_CEIL` while RAD is stopped: entry `k` has a new range, of which neither event 7
nor event 9 has told (R281). -/
def Op.keyRange (k : Nat) : Op :=
  (Op.rad fun r => { r with warned := withBit r.warned k false }).andThen (Op.setStalled k false)

/-- A write of `RAD_KEYk_NEXT_CEIL` (R281). An exhausted entry goes over to the block at once. -/
def Op.armBlock (k : Nat) (v : Word) : Op := Op.get fun s =>
  let base := (s.reg (A.RAD_KEY_NEXT_BASE k)).toNat
  if s.blk.rad.armed.getLsbD k || base < (s.reg (A.RAD_KEY_CEIL k)).toNat || v.toNat ≤ base then Op.set F.RAD_ERR_CEIL 1
  else
    Op.all
      [ Op.putReg (A.RAD_KEY_NEXT_CEIL k) v,
        Op.rad fun r => { r with armed := withBit r.armed k true },
        Op.when (s.blk.rad.stalled.getLsbD k) (Op.switchBlock k) ]

/-- Firmware or OXB arms the next block of an entry. -/
def execKeyBlockArm (k : Fin 8) (v : Word) (s : State) : Host.Outcome State Fault Refusal :=
  (Op.on .rad (Op.armBlock k.val v)).go s

/-- The effects of `NEWKEY` on entry `k` (R283). -/
def Op.newKey (k : Nat) : Op :=
  Op.all
    [ Op.each (List.range 512) fun i => Op.get fun s =>
        (Op.when (s.nbr i 0x12 1 == k) (Op.setNbr i 0x12 1 0xFF)).andThen (Op.when (s.nbr i 0x13 1 == k) (Op.setNbr i 0x13 1 0xFF)),
      Op.putReg (A.RAD_KEY_FC k) 0,
      Op.putReg (A.RAD_KEY_CEIL k) 0,
      Op.rad fun r => { r with armed := withBit r.armed k false, warned := withBit r.warned k false },
      Op.setStalled k false,
      Op.completeAll (fun f => f.key == k) 5 ]

/-- A write of `RAD_KEY_CMD`. -/
def execNewkey (v : Word) (s : State) : Host.Outcome State Fault Refusal :=
  (Op.on .rad (Op.when (v.getLsbD 3) (Op.newKey (natBits v.toNat 0 3)))).go s

/-! ### The window on the neighbour table (R284) -/

def State.nbrSel (s : State) : Nat := s.fld F.RAD_NBR_SEL_INDEX

/-- The bytes that the window holds. -/
def State.nbrWindow (s : State) : List Byte := (List.range 16).flatMap fun w => leBytes 4 (s.reg (A.RAD_NBR_D w)).toNat

/-- Command 1 reads the entry into the window. -/
def Op.nbrRead : Op := Op.get fun s =>
  Op.each (List.range 16) fun w => Op.setReg (A.RAD_NBR_D w) (s.nbr s.nbrSel (4 * w) 4)

/-- Command 2 writes the configuration fields, with every learned field as it stands. -/
def Op.nbrConfig : Op := Op.get fun s =>
  let w := s.nbrWindow
  let flags := leAt 0x0C 2 w % 8 + s.nbr s.nbrSel 0x0C 2 / 8 % 4 * 8
  Op.all [ Op.putBytes (nbrKey s.nbrSel 0) (w.take 0x0C), Op.setNbr s.nbrSel 0x0C 2 flags,
    Op.putBytes (nbrKey s.nbrSel 0x0E) ((w.drop 0x0E).take 4) ]

/-- Command 3 writes the whole entry; its reserved bytes stay zero. -/
def Op.nbrAll : Op := Op.get fun s =>
  let w := s.nbrWindow
  Op.putBytes (nbrKey s.nbrSel 0) (patch 0x34 (List.replicate 4 0) (patch 0x0C (leBytes 2 (leAt 0x0C 2 w % 32)) w))

/-- Command 4 clears the entry: its counter slots are free, and its frames complete with status 5. -/
def Op.nbrClear : Op := Op.get fun s =>
  (Op.dropMem (nbrKey s.nbrSel 0) (nbrKey s.nbrSel 64)).andThen (Op.completeAll (fun f => f.nbr == s.nbrSel) 5)

def execNbrRead (s : State) : Host.Outcome State Fault Refusal := (Op.on .rad Op.nbrRead).go s
def execNbrWriteConfig (s : State) : Host.Outcome State Fault Refusal := (Op.on .rad Op.nbrConfig).go s
def execNbrWriteAll (s : State) : Host.Outcome State Fault Refusal := (Op.on .rad Op.nbrAll).go s
def execNbrClear (s : State) : Host.Outcome State Fault Refusal := (Op.on .rad Op.nbrClear).go s

/-- A write of `RAD_NBR_CMD` with any value. -/
def Op.nbrCommand (v : Word) : Op :=
  match natBits v.toNat 0 3 with
  | 1 => Op.nbrRead
  | 2 => Op.nbrConfig
  | 3 => Op.nbrAll
  | 4 => Op.nbrClear
  | _ => Op.skip

/-! ### Schedule banks (R268 to R270) -/

/-- The fields of a cell record (R269). -/
def cellSlot (c : DWord) : Nat := natBits c.toNat 0 16
def cellOff (c : DWord) : Nat := natBits c.toNat 16 7
def cellFrame (c : DWord) : Nat := natBits c.toNat 24 2
def cellRadio (c : DWord) : Nat := natBits c.toNat 26 2
def cellTx (c : DWord) : Bool := c.getLsbD 28
def cellRx (c : DWord) : Bool := c.getLsbD 29
def cellShared (c : DWord) : Bool := c.getLsbD 30
def cellKeep (c : DWord) : Bool := c.getLsbD 31
def cellAdv (c : DWord) : Bool := c.getLsbD 32
def cellPolled (c : DWord) : Bool := c.getLsbD 33
def cellNbr (c : DWord) : Nat := natBits c.toNat 36 10

/-- The broadcast queue and the broadcast cell. -/
def bcast : Nat := 0x3FF

/-- Whether a cell record is accepted (R269). -/
def cellOk (frames : List Nat) (c : DWord) : Bool :=
  let len := frames.getD (cellFrame c) 0
  len != 0 && cellSlot c < len && !(c.getLsbD 23) && cellRadio c != 3 && natBits c.toNat 34 2 == 0 && natBits c.toNat 46 18 == 0
    && (cellNbr c < 512 || cellNbr c == bcast) && (cellTx c || cellRx c)
    && (!(cellAdv c) || (cellTx c && cellNbr c == bcast)) && (!(cellPolled c) || (cellTx c && cellNbr c != bcast))

/-- Loads and checks the image of a bank: the continuation gets it, or the index of the first bad record; a bad header counts
as record 0. -/
def Op.loadBank (n : Nat) (k : Nat ⊕ Bank → Op) : Op := Op.get fun s =>
  let a := (s.reg (if n = 0 then A.RAD_SCHED_BASE0 else A.RAD_SCHED_BASE1)).toNat
  Op.readBytes Block.rad.num a 0x100 fun
    | none => k (.inl 0)
    | some h =>
      let hd := leAt 0 8 h
      let n1 := natBits hd 0 8
      let n2 := natBits hd 8 5
      let cells := natBits hd 16 12
      let sfs := (List.range 4).map fun i => leAt (8 + 8 * i) 8 h
      let sub := ((h.drop 0x40).take n1).map (·.toNat)
      let ghz := ((h.drop 0xC0).take n2).map (·.toNat)
      if a % 64 ≠ 0 ∨ n1 = 0 ∨ 128 < n1 ∨ n2 = 0 ∨ 16 < n2 ∨ 2048 < cells ∨ natBits hd 13 3 ≠ 0 ∨ natBits hd 28 36 ≠ 0
          ∨ sfs.any (2 ^ 16 ≤ ·) ∨ sub.any (128 ≤ ·) ∨ ghz.any (fun c => c < 11 || 26 < c) then k (.inl 0)
      else Op.readDws Block.rad.num (a + 0x100) cells fun
        | none => k (.inl 0)
        | some cs =>
          match cs.findIdx? fun c => !(cellOk sfs c) with
          | some i => k (.inl i)
          | none => k (.inr ⟨sub, ghz, sfs, cs⟩)

/-- A write of `RAD_SCHED_BANK`. -/
def Op.bankRequest (next : Bool) : Op :=
  Op.all
    [ Op.set F.RAD_SCHED_BANK_NEXT (bit01 next), Op.set F.RAD_STAT_SWITCHPEND 1,
      Op.rad fun r => { r with loading := some (bit01 next), next := none } ]

def execScheduleBankRequest (next : Bool) (s : State) : Host.Outcome State Fault Refusal :=
  (Op.on .rad (Op.bankRequest next)).go s

/-- A bank or key configuration is refused. -/
def Op.radRefuse (cause index : Nat) : Op :=
  Op.all
    [ Op.set F.RAD_ERR_CONFIG 1, Op.set F.RAD_ERR_CFG_CAUSE cause, Op.set F.RAD_ERR_CFG_INDEX index,
      Op.logRefused .rad cause index ]

/-- The load of the requested bank ends. -/
def execScheduleBankLoaded (s : State) : Host.Outcome State Fault Refusal :=
  ((Op.on .rad (Op.get fun s =>
    match s.blk.rad.loading with
    | none => Op.skip
    | some n =>
      (Op.rad fun r => { r with loading := none }).andThen
        (Op.loadBank n fun
          | .inl i => (Op.set F.RAD_STAT_SWITCHPEND 0).andThen (Op.radRefuse 3 i)
          | .inr b => Op.rad fun r => { r with next := some (n, b) })))).go s

/-- The switch to a loaded bank at a slot where ASN mod the length of its slotframe 0 is 0. -/
def Op.bankSwitch (asn : Nat) : Op := Op.get fun s =>
  match s.blk.rad.next with
  | some (n, b) =>
    Op.when (asn % (b.frames.getD 0 0) == 0 || b.frames.getD 0 0 == 0)
      (Op.all
        [ Op.rad fun r => { r with bank := some b, next := none }, Op.set F.RAD_STAT_BANK n,
          Op.set F.RAD_STAT_SWITCHPEND 0 ])
  | none => Op.skip

/-! ### Time parent and scanning (R287, R288) -/

/-- Adopts a time parent. The module's own boundaries stay where they are at this moment; from here they follow the new
parent. Adopting the present parent changes nothing of them. -/
def Op.adopt (n : Nat) : Op := Op.get fun s =>
  Op.all
    [ Op.when (n != s.parent) (Op.rad fun r => { r with base := s.ownBase s.now }),
      Op.setNbrFlag s.parent 4 false,
      Op.setNbrFlag n 4 true,
      Op.set F.RAD_SYNC_PARENT n ]

/-- The valid candidate with the lowest metric, the lower index winning ties. -/
def State.bestParent (s : State) : Option Nat :=
  ((List.range 512).filter fun i => s.nbrFlag i 0 && s.nbrFlag i 1 && !(s.nbrFlag i 3)).foldl
    (fun b i => match b with
      | none => some i
      | some j => if s.nbr i 0x0E 2 < s.nbr j 0x0E 2 then some i else b) none

/-- RAD loses synchronisation and rescans. -/
def Op.startScan : Op := Op.get fun s =>
  Op.all
    [ Op.set F.RAD_STAT_SYNCED 0, Op.set F.RAD_STAT_SCANNING 1,
      Op.rad fun r => { r with scanCh := 0, scanSince := s.now, scanFor := none, timed := false, acts := Vector.replicate 3 .idle } ]

/-- A beacon of the time parent was missed (R288). -/
def Op.missBeacon : Op := Op.get fun s =>
  let m := satAdd 8 (s.fld F.RAD_SYNC_MISS) 1
  (Op.set F.RAD_SYNC_MISS m).andThen
    (if s.fld F.RAD_SYNC_MISS = m then Op.skip
     else if m = 3 then Op.radEvent 3 s.parent 0
     else if m = 8 then
      match s.bestParent with
      | some n => (Op.adopt n).andThen (Op.radEvent 4 n s.parent)
      | none => Op.skip
     else if m = 16 then (Op.radEvent 5 s.parent 0).andThen Op.startScan
     else Op.skip)

/-- A write of `RAD_SYNC.PARENT`. -/
def Op.parentWrite (n : Nat) : Op := Op.get fun s =>
  Op.all
    [ Op.adopt n, Op.set F.RAD_SYNC_MISS 0,
      Op.when (s.bit F.RAD_STAT_SCANNING) (Op.rad fun r => { r with scanFor := some n }) ]

/-- A dwell of the rescan ends. -/
def execScanDwell (s : State) : Host.Outcome State Fault Refusal :=
  ((Op.get fun s =>
    let r := s.blk.rad
    Op.when (s.running .rad && s.bit F.RAD_STAT_SCANNING && r.scanSince + s.fld F.RAD_SCAN_DWELL * 1000000 ≤ s.now)
      (Op.rad fun r => { r with
        scanCh := (r.scanCh + 1) % max 1 ((r.bank.map (·.sub.length)).getD 1)
        scanSince := s.now }))).go s

/-- Nothing has been accepted from a neighbour for 3 × `KA` (R287). -/
def execNeighbourAdrift (n : Fin 512) (s : State) : Host.Outcome State Fault Refusal :=
  ((Op.get fun s =>
    let ka := s.nbr n.val 0x10 2
    Op.when (s.running .rad && !s.relay && s.nbrFlag n.val 0 && !(s.nbrFlag n.val 3) && ka != 0
        && s.nbr n.val 0x38 8 + 3 * ka * 100000000 ≤ s.now)
      ((Op.setNbrFlag n.val 3 true).andThen (Op.radEvent 1 n.val 0)))).go s

/-! ### Queues (R275 to R277, R290) -/

/-- The frame limit of a radio in PSDU bytes (R273). -/
def State.frameLimit (s : State) (r : Nat) : Nat := if r = 2 then 127 else s.fld F.RAD_PHY_MAXPSDU

/-- FCS bytes of a radio. -/
def State.fcsLen (s : State) (r : Nat) : Nat := if r ≠ 2 ∧ s.bit F.RAD_PHY_FCS4 then 4 else 2

/-- The PSDU length of a frame on a radio. -/
def State.frameLen (s : State) (f : RadFrame) (r : Nat) : Nat :=
  f.hdr.length + f.payload.length + (if f.key = 0xFF then 0 else micLen f.level) + s.fcsLen r

/-- The radios that have a transmit cell toward a neighbour. -/
def State.radiosTo (s : State) (n : Nat) : List Nat :=
  match s.blk.rad.bank with
  | some b => ((b.cells.filter fun c => cellTx c && cellNbr c == n).map cellRadio).eraseDups
  | none => []

/-- Whether a header agrees with the key entry it is sent under: its security bit, and its length with the room for the
auxiliary security header. -/
def State.headerOk (s : State) (key level hlen : Nat) (hdr : List Byte) : Bool :=
  match parseMhr (some (secControl level (if key = 0xFF then 0 else s.fld (F.RAD_KEY_CFG_IDMODE key)))) hdr with
  | some m => m.sec == (key != 0xFF) && m.len == hlen && m.version == 2 && (key == 0xFF || s.bit (F.RAD_KEY_CFG_VALID key))
  | none => false

/-- Whether the fields of a descriptor keep the ranges of R275. -/
def radDescOk (bs : List Byte) : Bool :=
  let n (o w : Nat) : Nat := leAt o w bs
  (n 0 2 < 512 || n 0 2 == bcast) && (n 2 1 < 8 || n 2 1 == 0xFF)
    && (if n 2 1 = 0xFF then n 3 1 == 0 else 5 ≤ n 3 1 && n 3 1 ≤ 7) && n 4 1 < 4 && n 5 1 < 8 && n 6 2 == 0 && n 0x28 24 == 0

/-- RAD consumes a transmit descriptor (R275, R277). -/
def Op.acceptDesc (a : Nat) : Op :=
  let fail (st : Nat) : Op := Op.radResult a st 0 0
  if a % 64 ≠ 0 then fail 3
  else Op.readBytes Block.rad.num a 64 fun
    | none => (Op.set F.RAD_ERR_TXBUS 1).andThen (fail 4)
    | some d =>
      if !(radDescOk d) then fail 3
      else
        let hlen := leAt 0x0C 2 d
        Op.readBytes Block.rad.num (leAt 8 4 d) (hlen + leAt 0x0E 2 d) fun
          | none => (Op.set F.RAD_ERR_TXBUS 1).andThen (fail 4)
          | some bs => Op.get fun s =>
            let f : RadFrame :=
              { desc := a, nbr := leAt 0 2 d, key := leAt 2 1 d, level := leAt 3 1 d, flags := leAt 4 1 d, retries := leAt 5 1 d
                expire := leAt 0x10 8 d, hdr := bs.take hlen, payload := bs.drop hlen, since := s.now, tries := 0, fc := none
                seq := none }
            let rs := s.radiosTo f.nbr
            if !(s.headerOk f.key f.level hlen f.hdr) || (!rs.isEmpty && rs.all fun r => s.frameLimit r < s.frameLen f r) then
              fail 3
            else Op.rad fun r => { r with queue := r.queue ++ [f] }

/-- RAD takes the next transmit request, while `TXDONE` has room and no completion is held (R277). -/
def execTxRequest (s : State) : Host.Outcome State Fault Refusal :=
  ((Op.get fun s => Op.when (s.working .rad) (Op.radFlushAll.andThen (Op.get fun s =>
    Op.when (s.blk.rad.queue.length < 1024 && s.blk.rad.done.isEmpty && s.rillFree (rillNo (s.fld F.RAD_RILLS_TXDONE)) != 0)
      (Op.hwPop (rillNo (s.fld F.RAD_RILLS_TXREQ)) fun v => Op.acceptDesc (natBits v.toNat 0 32)))))).go s

/-- The queued frame of a descriptor that is not in flight. -/
def State.waitingFrame (s : State) (a : Nat) : Option RadFrame :=
  s.blk.rad.queue.find? fun f => f.desc == a && !(s.inFlight f)

/-- A frame's `EXPIRE` passes before it is sent. -/
def execFrameExpire (desc : Word) (s : State) : Host.Outcome State Fault Refusal :=
  ((Op.on .rad (Op.get fun s =>
    match s.waitingFrame desc.toNat with
    | some f => Op.when (f.expire != 0 && f.expire < s.now) (Op.complete f 2)
    | none => Op.skip))).go s

/-- A frame for a sleepy neighbour is too old (R290). -/
def execSleepyMaxage (desc : Word) (s : State) : Host.Outcome State Fault Refusal :=
  ((Op.on .rad (Op.get fun s =>
    match s.waitingFrame desc.toNat with
    | some f =>
      Op.when (s.nbrFlag f.nbr 2 && f.since + s.fld F.RAD_SLEEPY_MAXAGE * 1000000000 < s.now) (Op.complete f 2)
    | none => Op.skip))).go s

/-- RAD takes a buffer that firmware lends. -/
def execRxfreeBuffer (s : State) : Host.Outcome State Fault Refusal :=
  ((Op.get fun s => Op.when (s.working .rad)
    (Op.hwPop (rillNo (s.fld F.RAD_RILLS_RXFREE)) fun v =>
      if v.toNat < s.fld F.RAD_RXBUF_CNT_COUNT then Op.rad fun r => { r with bufs := r.bufs ++ [v.toNat] }
      else Op.inc A.RAD_RX_NOBUF))).go s

/-! ### Recalibration (R292) -/

/-- The detail of event 10: radio in [1:0], refusal in [2]. -/
def calDetail (radio : Nat) (refused : Bool) : Nat := radio + bit01 refused * 4

/-- A write of `RAD_CAL`. -/
def Op.calWrite (v : Word) : Op := Op.get fun s =>
  let r := natBits v.toNat 0 2
  Op.all
    [ Op.set F.RAD_CAL_RADIO r,
      Op.when (v.getLsbD 2 && !(s.bit F.RAD_STAT_CALBUSY))
        (Op.maintRequest 4 false fun
          | .granted =>
            Op.all [ Op.set F.RAD_STAT_CALBUSY 1, Op.rad fun q => { q with cal := r, calRuns := true } ]
          | _ => Op.radEvent 10 0 (calDetail r true)) ]

def execRecalRequest (radio : BitVec 2) (s : State) : Host.Outcome State Fault Refusal :=
  (Op.on .rad (Op.calWrite (BitVec.ofNat 32 (radio.toNat + 4)))).go s

/-- A granted recalibration ends. -/
def execRecalEnd (s : State) : Host.Outcome State Fault Refusal :=
  ((Op.on .rad (Op.get fun s =>
    Op.when s.blk.rad.calRuns
      (Op.all
        [ Op.rad fun r => { r with calRuns := false }, Op.set F.RAD_STAT_CALBUSY 0, Op.releaseGrant 4,
          Op.radEvent 10 0 (calDetail s.blk.rad.cal false) ])))).go s

end Sys2Proof.Machine
end

