-- ==== Sys2Proof/Machine/GntCore.lean ====
section
/-!
DEFINITION. The Gauntlet's vault and the life-cycle state (spec/14): key slots, roots, key changes, sessions, fuses, debug.
-/
namespace Sys2Proof.Machine

def Op.gnt (f : Gnt → Gnt) : Op := Op.blk fun b => { b with gnt := f b.gnt }

def State.gnt (s : State) : Gnt := s.blk.gnt

/-! ### What a call names (R424, R426, R428) -/

def svcDefined (v : Nat) : Bool :=
  [1, 2, 3, 0x10, 0x11, 0x20, 0x21, 0x22, 0x23, 0x24, 0x25, 0x26, 0x27, 0x30, 0x31, 0x32, 0x33, 0x34, 0x40].contains v

/-- The life-cycle states in which a service answers. -/
def svcState (v life : Nat) : Bool :=
  match v with
  | 2 => true
  | 3 => true
  | 0x21 => life ≤ 1
  | 0x31 => life ≤ 3
  | _ => life != 4

/-- Services for system mode only. -/
def svcSys (v : Nat) : Bool := [0x20, 0x21, 0x27, 0x30, 0x31, 0x32, 0x33, 0x34, 0x40].contains v

/-- Services that name `SLOTA`, that write `SLOTB`, and that take a new `ATTR`. -/
def svcA (v : Nat) : Bool := [0x10, 0x11, 0x22, 0x23, 0x24, 0x25, 0x26].contains v
def svcB (v : Nat) : Bool := [0x20, 0x21, 0x23, 0x24, 0x25, 0x27].contains v
def svcAttr (v : Nat) : Bool := [0x20, 0x21, 0x24, 0x25].contains v

/-- A field of the call block, as a number. -/
def Call.fld (c : Call) (o n : Nat) : Nat := mf (c.fields.getD []) o n

def Call.slotA (c : Call) : Nat := c.fld 8 1
def Call.slotB (c : Call) : Nat := c.fld 9 1
def Call.mode (c : Call) : Nat := c.fld 0xA 1
def Call.tag (c : Call) : Nat := c.fld 0xB 1
def Call.attr (c : Call) : Nat := c.fld 0xC 2
def Call.session (c : Call) : Nat := c.fld 0xE 1
def Call.index (c : Call) : Nat := c.fld 0xF 1
def Call.src (c : Call) : Nat := c.fld 0x10 4
def Call.len (c : Call) : Nat := c.fld 0x14 4
def Call.dst (c : Call) : Nat := c.fld 0x18 4
def Call.aux (c : Call) : Nat := c.fld 0x20 4
def Call.auxLen (c : Call) : Nat := c.fld 0x24 4

/-- The slots that a call uses, fills or empties; session services count with the slots of their session. -/
def Call.slots (c : Call) : List Nat :=
  (if svcA c.svc then [c.slotA] else []) ++ (if svcB c.svc || c.svc == 0x22 then [c.slotB] else [])
    ++ (match c.svc with
      | 0x30 => [0]
      | 0x31 => [0]
      | 0x32 => [2]
      | 0x33 => [240 + 2 * c.session, 241 + 2 * c.session]
      | 0x34 => [240 + 2 * c.session, 241 + 2 * c.session]
      | _ => [])

/-! ### Random numbers (R433) -/

/-- `n` words of the random generator. -/
def Op.randomWords : Nat → (List Nat → Op) → Op
  | 0, k => k []
  | n + 1, k => Op.draw fun i => Op.randomWords n fun l => k (cBytes 8 (Config.random i).toNat ++ l)

/-- `n` random bytes. -/
def Op.random (n : Nat) (k : List Nat → Op) : Op := Op.randomWords ((n + 7) / 8) fun l => k (l.take n)

/-! ### Events (R447) -/

def gntEvt : EvtCfg := ⟨F.GNT_EVT_RILL, some F.GNT_EVT_EN, A.GNT_EVT_LOST, some 8⟩

/-- Posts an event: kind, session or slot, credential, detail; kinds 3, 4 and 6 are logged in every case. -/
def Op.gntEvent (kind who cred detail : Nat) : Op :=
  let v := kind + who % 256 * 2 ^ 8 + cred % 256 * 2 ^ 16 + detail * 2 ^ 32
  (Op.when (kind == 3 || kind == 4 || kind == 6) (Op.log 0x0030 16 0 v)).andThen (Op.postEvent .gnt gntEvt (BitVec.ofNat 64 v))

/-! ### Key slots (R422 to R424, R431) -/

/-- The key in a slot. -/
def State.slot (s : State) (n : Nat) : Option KeySlot := (s.gnt.slots.find? (·.1 == n)).map (·.2)

def attrType (a : Nat) : Nat := natBits a 0 3
def attrUsage (a : Nat) : Nat := natBits a 4 2
def attrTask (a : Nat) : Bool := natBits a 7 1 == 1
def attrExport (a : Nat) : Bool := natBits a 6 1 == 1

/-- The combinations of type and usage of R424, with no reserved bit set. -/
def attrOk (a : Nat) : Bool :=
  let t := attrType a
  natBits a 3 1 == 0 && natBits a 8 8 == 0 &&
    (match attrUsage a with
      | 0 => 1 ≤ t && t ≤ 4
      | 1 => 1 ≤ t && t ≤ 3
      | 2 => t == 2
      | _ => t == 3 || t == 4)

/-- The number of key changes of a slot since D3 was reset. -/
def State.keyGen (s : State) (n : Nat) : Nat := ((s.gnt.gens.find? (·.1 == n)).map (·.2)).getD 0

/-- What a key change in slot `n` does outside the vault (R431): RAD entries that name it take the effects of `NEWKEY`. -/
def Op.keyChanged (n : Nat) : Op := Op.get fun s =>
  let ks := if s.powered .rad then
      (List.range 8).filter fun k => s.bit (F.RAD_KEY_CFG_VALID k)
        && (s.fld (F.RAD_KEY_CFG_ENC_SLOT k) == n || s.fld (F.RAD_KEY_CFG_DEC_SLOT k) == n)
    else []
  Op.all
    [ Op.gnt fun g => { g with gens := (n, (s.keyGen n + 1) % 2 ^ 16) :: g.gens.filter (·.1 != n) },
      Op.each ks Op.newKey,
      Op.count A.GNT_KEYCHG ks.length,
      Op.when (!ks.isEmpty) (Op.gntEvent 5 n 0 ks.length) ]

/-- Fills a slot. -/
def Op.fillSlot (n attr : Nat) (key : List Nat) : Op :=
  (Op.gnt fun g => { g with slots := (n, ⟨attr, octets key⟩) :: g.slots.filter (·.1 != n) }).andThen (Op.keyChanged n)

/-- Empties a slot; nothing changes where it is empty. -/
def Op.emptySlot (n : Nat) : Op := Op.get fun s =>
  Op.when (s.slot n).isSome
    ((Op.gnt fun g => { g with slots := g.slots.filter (·.1 != n) }).andThen (Op.keyChanged n))

/-- Empties slots 4 to 255. -/
def Op.emptySlots : Op := Op.get fun s =>
  Op.each ((s.gnt.slots.map (·.1)).filter (4 ≤ ·)) Op.emptySlot

/-! ### Fuses and roots (R434 to R439) -/

/-- Burned bits of the fuse row of a state, 1 PROVISION to 4 SCRAP. -/
def State.rowBits (s : State) (st : Nat) : Nat :=
  (List.range 3).countP fun b => s.store.fuses.contains (3 * (st - 1) + b)

/-- The life-cycle state that the fuses give (R439). -/
def State.fuseState (s : State) : Nat := (([4, 3, 2, 1] : List Nat).find? fun st => 2 ≤ s.rowBits st).getD 0

/-- The fuse that says the device root secret has been burned, and those of its bits. -/
def drsFuse : Nat := 12
def drsBit (i : Nat) : Nat := 16 + i

/-- The 32 bytes of the device root secret. -/
def State.drs (s : State) : List Nat :=
  (List.range 32).map fun i => (List.range 8).foldl (fun n b => n + bit01 (s.store.fuses.contains (drsBit (8 * i + b))) * 2 ^ b) 0

/-- The present life-cycle state (R436). -/
def State.life (s : State) : Nat := s.fld F.LCS_STAT_STATE

/-- Bytes of the factory data (R400). -/
def State.factory (s : State) (o n : Nat) : List Nat := nums (s.store.bytes (0x0C000000 + o) n)

def State.serial (s : State) : List Nat := s.factory 0 8

/-- The four root slots are filled from the root in force (R434, R435). -/
def Op.rootRefill : Op := Op.get fun s =>
  let test := s.bit F.LCS_STAT_TESTROOT
  let ikm := if test then (List.range 32).map fun i => (Config.testRoot i).toNat else s.drs
  let c := if !test && s.life == 1 then 2 else s.life
  let ks := (rootKeys ikm s.serial c).zip rootAttrs
  Op.each ((List.range 4).zip ks) fun p => Op.fillSlot p.1 p.2.2 p.2.1

/-- A new challenge (R441). -/
def Op.newChallenge : Op := Op.random 32 fun l =>
  Op.each (List.range 8) fun i => Op.setReg (A.LCS_CHAL i) (leNat (octets ((l.drop (4 * i)).take 4)))

/-- The 32 bytes of the challenge. -/
def State.challenge (s : State) : List Nat := nums ((List.range 8).flatMap fun i => leBytes 4 (s.reg (A.LCS_CHAL i)).toNat)

/-- What D3 does when it powers up or is reset: life-cycle state and debug from the fuses, root slots (R432, R434, R439). -/
def Op.vaultStart : Op := Op.get fun s =>
  let st := s.fuseState
  let open' := st == 0 || st == 3
  Op.all
    [ Op.gnt fun _ => Gnt.reset,
      Op.set F.LCS_STAT_STATE st,
      Op.set F.LCS_STAT_DEBUG (bit01 open'),
      Op.set F.LCS_STAT_TESTROOT (bit01 open'),
      Op.set F.LCS_STAT_DRS (bit01 (s.store.fuses.contains drsFuse)),
      Op.when ([1, 2, 3, 4].any fun r => s.rowBits r == 1) (Op.set F.LCS_ERR_FUSE 1),
      Op.newChallenge,
      Op.rootRefill,
      Op.gnt fun g => { g with gens := [] } ]

/-! ### Sessions and credentials (R442 to R446) -/

def State.session (s : State) (i : Nat) : Option Session := s.gnt.sessions.toList.getD i none

def Op.setSession (i : Nat) (v : Option Session) : Op := Op.gnt fun g => { g with sessions := g.sessions.setIfInBounds i v }

def State.cred (s : State) (i : Nat) : Option Credential := s.gnt.creds.toList.getD i none

def Op.setCred (i : Nat) (v : Option Credential) : Op := Op.gnt fun g => { g with creds := g.creds.setIfInBounds i v }

/-- The sum of 2ⁱ over the elements that `p` holds of. -/
def bitsWhere {α : Type} (p : α → Bool) (l : List α) : Nat := l.foldr (fun a n => bit01 (p a) + 2 * n) 0

/-- The registers show sessions and credentials. -/
def Op.gntShow : Op := Op.get fun s =>
  let ss := s.gnt.sessions.toList
  let cs := s.gnt.creds.toList
  Op.all
    [ Op.set F.GNT_STAT_SESS_OPEN (bitsWhere (fun q => match q with | some q => !q.waiting | none => false) ss),
      Op.set F.GNT_STAT_SESS_PEND (bitsWhere (fun q => match q with | some q => q.waiting | none => false) ss),
      Op.set F.GNT_CRED_STAT_LOADED (bitsWhere (·.isSome) cs),
      Op.set F.GNT_CRED_STAT_LOCKED (bitsWhere (fun q => match q with | some q => q.locked.isSome | none => false) cs),
      Op.set F.GNT_STAT_INFLIGHT s.gnt.calls.length ]

/-- Closes a session: its slots empty, event 2 with the reason; a session that waits is freed alone. -/
def Op.closeSession (i reason : Nat) : Op := Op.get fun s =>
  match s.session i with
  | none => Op.skip
  | some q =>
    Op.all
      [ Op.setSession i none,
        Op.when (!q.waiting)
          (Op.all [ Op.emptySlot (240 + 2 * i), Op.emptySlot (241 + 2 * i), Op.gntEvent 2 i q.cred reason ]),
        Op.gntShow ]

def Op.closeSessions (reason : Nat) : Op := Op.each (List.range 8) fun i => Op.closeSession i reason

/-- Debug opens (R441). -/
def Op.openDebug : Op :=
  Op.all
    [ Op.set F.LCS_STAT_DEBUG 1, Op.set F.LCS_STAT_TESTROOT 1, Op.closeSessions 2, Op.emptySlots, Op.rootRefill,
      Op.gntEvent 6 0 0 0 ]

/-! ### What waits for earlier calls (R430, R446) -/

/-- Whether an act destroys a slot that the call uses. -/
def VaultAct.uses (a : VaultAct) (c : Call) : Bool :=
  match a with
  | .close i _ => c.slots.any fun n => n == 240 + 2 * i || n == 241 + 2 * i
  | .debug => true

def Op.vaultAct (a : VaultAct) : Op :=
  match a with
  | .close i reason => Op.closeSession i reason
  | .debug => Op.openDebug

/-- Whether every call that uses the slots of an act, of the `ahead` calls accepted before it, has finished. -/
def State.vaultClear (s : State) (a : VaultAct) (ahead : Nat) : Bool :=
  (s.gnt.calls.take ahead).all fun c => c.answer.isSome || !(a.uses c)

/-- An act takes place, or waits once for the calls accepted before it. -/
def Op.vaultWhen (a : VaultAct) : Op := Op.get fun s =>
  if s.vaultClear a s.gnt.calls.length then Op.vaultAct a
  else Op.when (!(s.gnt.due.any (·.1 == a))) (Op.gnt fun g => { g with due := g.due ++ [(a, g.calls.length)] })

/-- The acts that no earlier call holds back any more take place. -/
def Op.vaultDue : Op := Op.get fun s =>
  let clear (p : VaultAct × Nat) : Bool := s.vaultClear p.1 p.2
  (Op.gnt fun g => { g with due := g.due.filter fun p => !(clear p) }).andThen
    (Op.each (s.gnt.due.filter clear) fun p => Op.vaultAct p.1)

/-- A session gets no response within 30 s (R445). -/
def execSessionChallengeExpire (i : Fin 8) (s : State) : Host.Outcome State Fault Refusal :=
  ((Op.on .gnt (Op.get fun s =>
    match s.session i.val with
    | some q => Op.when (q.waiting && q.since + 30 * 32768 ≤ s.pulses) ((Op.setSession i.val none).andThen Op.gntShow)
    | none => Op.skip))).go s

/-- A session has been idle for its limit (R446): it closes once the calls accepted earlier that use its slots have finished. -/
def execSessionTimeout (i : Fin 8) (s : State) : Host.Outcome State Fault Refusal :=
  ((Op.on .gnt (Op.get fun s =>
    let limit := s.fld F.GNT_SESS_TIMEOUT_SECONDS
    match s.session i.val with
    | some q => Op.when (!q.waiting && limit != 0 && q.since + limit * 32768 ≤ s.pulses) (Op.vaultWhen (.close i.val 1))
    | none => Op.skip))).go s

/-- A locked credential is free again after 60 s (R445). -/
def execCredentialUnlock (i : Fin 16) (s : State) : Host.Outcome State Fault Refusal :=
  ((Op.on .gnt (Op.get fun s =>
    match s.cred i.val with
    | some q => Op.when (q.locked.any fun t => t + 60 * 32768 ≤ s.pulses)
        ((Op.setCred i.val (some { q with locked := none, fails := 0 })).andThen Op.gntShow)
    | none => Op.skip))).go s

/-! ### Noise source health (R433) -/

def execDrbgHealthFail (s : State) : Host.Outcome State Fault Refusal :=
  ((Op.on .gnt (Op.all [ Op.set F.GNT_STAT_DRBG_OK 0, Op.set F.GNT_ERR_DRBG 1, Op.gntEvent 7 0 0 0 ]))).go s

def execDrbgHealthRecover (s : State) : Host.Outcome State Fault Refusal := (Op.on .gnt (Op.set F.GNT_STAT_DRBG_OK 1)).go s

/-! ### Debug (R440, R441) -/

/-- `LCS_CMD.DEBUGON`, from system mode, in PROVISION, while `RUN` reads 1. -/
def Op.debugOn (sys : Bool) : Op := Op.get fun s =>
  Op.when (sys && s.bit F.LCS_CTRL_RUN && s.life == 1 && !(s.bit F.LCS_STAT_DEBUG)) (Op.vaultWhen .debug)

def execDebugon (c : CoreId) (s : State) : Host.Outcome State Fault Refusal :=
  ((Op.on .lcs (Op.get fun s => Op.debugOn (s.core c).sys))).go s

/-- A response reaches the module through JTAG (R440, R441): any opens PROVISION, a signature under `DKEY` opens DEPLOY. The
port hears nothing while bank A is not usable (R519). -/
def Op.unlock (resp : List Byte) : Op := Op.get fun s =>
  let dkey := s.factory 0x100 64
  let good := s.life == 1 || (s.life == 2 && dkey.any (· != 0)
    && ecdsaVerify dkey (sha256 (s.challenge ++ s.serial)) (nums (resp.take 64)))
  Op.when (s.bankA && (s.life == 1 || s.life == 2) && !(s.bit F.LCS_STAT_DEBUG) && s.gnt.unlockFails < 8 && s.gnt.unlockAt ≤ s.pulses)
    (if good then Op.vaultWhen .debug
     else
      Op.all
        [ Op.set F.LCS_ERR_UNLOCKFAIL 1, Op.inc A.LCS_UNLOCK_FAIL, Op.newChallenge,
          Op.gnt fun g => { g with unlockFails := g.unlockFails + 1, unlockAt := s.pulses + 32768 },
          Op.when (s.gnt.unlockFails == 7) (Op.set F.LCS_STAT_UNLOCKOFF 1) ])

def execLcUnlock (resp : List Byte) (s : State) : Host.Outcome State Fault Refusal := (Op.on .lcs (Op.unlock resp)).go s

/-- The cause for which `GNT_CTRL.RUN` is refused (R449). -/
def State.gntCause (s : State) : Nat := if !(s.bit F.GNT_EVT_EN) || s.rillUsable (s.fld F.GNT_EVT_RILL) then 0 else 1

/-- What `GNT_SLOT_INFO` reads (R449). -/
def State.slotInfo (s : State) : Word :=
  let n := s.fld F.GNT_SLOT_SEL_SLOT
  let bound := (List.range 8).any fun k => s.bit (F.RAD_KEY_CFG_VALID k)
    && (s.fld (F.RAD_KEY_CFG_ENC_SLOT k) == n || s.fld (F.RAD_KEY_CFG_DEC_SLOT k) == n)
  let base := match s.slot n with
    | some q => q.attr % 256 + 256
    | none => 0
  BitVec.ofNat 32 (base + bit01 (n < 4) * 2 ^ 9 + bit01 (240 ≤ n) * 2 ^ 10 + bit01 bound * 2 ^ 11 + s.keyGen n * 2 ^ 16)

end Sys2Proof.Machine
end

