-- ==== Sys2Proof/Machine/Oxb.lean ====
section
/-!
DEFINITION. Oxbow pairing (spec/12): ownership and claims, link frames, yielding, revert, counter blocks, messages. Times are
counted in pulses of the crystal.
-/
namespace Sys2Proof.Machine

def Op.oxb (f : Oxb → Oxb) : Op := Op.blk fun b => { b with oxb := f b.oxb }

def State.oxb (s : State) : Oxb := s.blk.oxb

/-- Whether `ms` have passed since a pulse count. -/
def State.after (s : State) (p ms : Nat) : Bool := ms * 32768 ≤ (s.pulses - p) * 1000

/-- Whether an event happened less than `ms` ago. -/
def State.within (s : State) (p : Option Nat) (ms : Nat) : Bool := p.any fun p => !(s.after p ms)

/-! ### Events (R396) -/

def oxbEvt : EvtCfg := ⟨F.OXB_RILLS_EVT, none, A.OXB_EVT_LOST, none⟩

/-- Posts an event: kind, key entry, status. Kinds 1, 2, 4 and 10 are logged in every case. -/
def Op.oxbEvent (kind key status : Nat) : Op :=
  let v : DWord := BitVec.ofNat 64 (kind + key * 2 ^ 8 + status * 2 ^ 16)
  (Op.when ([1, 2, 4, 10].contains kind) (Op.log 0x0023 Block.oxb.num 0 v.toNat)).andThen (Op.postEvent .oxb oxbEvt v)

/-! ### Link frames (R383) -/

/-- The bytes of a link frame: type, sequence number, payload length, payload, CRC-32. The spec gives no byte order for the length and
the CRC; they go as the numbers of a report do, low byte first (log entry 15). -/
def linkBytes (type seq : Nat) (payload : List Byte) : List Byte :=
  let body := leBytes 1 type ++ leBytes 1 seq ++ leBytes 2 payload.length ++ payload
  body ++ leBytes 4 (crc32 (body.map (·.toNat)))

/-- A frame leaves on the link. -/
def Op.linkSend (type : Nat) (payload : List Byte) : Op :=
  Op.oxb fun o => { o with sent := linkBytes type o.frameSeq payload, frameSeq := (o.frameSeq + 1) % 256 }

/-- The state of R379: 0 OFF, 1 WAIT, 2 STANDBY, 3 CLAIM, 4 OWNER. -/
def State.oxbState (s : State) : Nat := s.fld F.OXB_STAT_STATE

def State.owner (s : State) : Bool := s.oxbState == 4

/-- Whether firmware keeps the watchdog alive (R377). -/
def State.oxbAlive (s : State) : Bool := !(s.after s.oxb.kick (s.fld F.OXB_WDOG_MS))

/-- Enters a state. -/
def Op.oxbEnter (n : Nat) : Op := Op.get fun s =>
  (Op.set F.OXB_STAT_STATE n).andThen (Op.oxb fun o => { o with since := s.pulses })

/-! ### High-water marks (R391) -/

/-- The bytes of a copy of the marks: marks, sequence number, CRC-32. The spec gives the contents and not the order (log entry 15). -/
def hwmCopy (marks : List Nat) (seq : Nat) : List Byte :=
  let body := marks.flatMap (leBytes 4) ++ leBytes 4 seq
  body ++ leBytes 24 0 ++ leBytes 4 (crc32 (body.map (·.toNat)))

/-- The sequence number of a valid copy. -/
def hwmSeq : Option (List Byte) → Option Nat
  | none => none
  | some bs =>
    if leNat ((bs.drop 60).take 4) = crc32 ((bs.take 36).map (·.toNat)) then some (leNat ((bs.drop 32).take 4)) else none

def State.marks (s : State) : List Nat := (List.range 8).map fun k => (s.reg (A.OXB_HWM k)).toNat

/-- The newer valid copy: whether it is the second, and its sequence number. -/
def State.hwmNewest (s : State) : Option (Bool × Nat) :=
  match hwmSeq (s.csBytes 0x480 64), hwmSeq (s.csBytes 0x4C0 64) with
  | some a, some b => if a < b then some (true, b) else some (false, a)
  | some a, none => some (false, a)
  | none, some b => some (true, b)
  | none, none => none

/-- The marks as registers hold them become durable, in the copy that is not the newest. -/
def Op.hwmKeep : Op := Op.get fun s =>
  match s.hwmNewest with
  | some (second, n) => Op.csWriteBytes (if second then 0x480 else 0x4C0) (hwmCopy s.marks (n + 1))
  | none => Op.csWriteBytes 0x480 (hwmCopy s.marks 1)

/-- Sets marks, durably where one changes: while a commit runs the copy waits until that ends (R485). -/
def Op.setMarks (l : List (Nat × Nat)) : Op := Op.get fun s =>
  Op.when (l.any fun e => (s.reg (A.OXB_HWM e.1)).toNat != e.2)
    ((Op.each l fun e => Op.setReg (A.OXB_HWM e.1) e.2).andThen Op.hwmKeep)

/-- Raises marks to the larger of the two modules' values. -/
def Op.raiseMarks (l : List (Nat × Nat)) : Op := Op.get fun s =>
  Op.setMarks ((l.filter fun e => e.1 < 8).map fun e => (e.1, max e.2 (s.reg (A.OXB_HWM e.1)).toNat))

/-- At the power-up of D4 the marks are restored, or `HWMLOST` sets. -/
def Op.oxbRestore : Op :=
  Op.csOwner 0x480 64 fun a => Op.csOwner 0x4C0 64 fun b => Op.get fun s =>
    match s.hwmNewest with
    | some (second, _) =>
      let bs := ((if second then b else a).getD [])
      Op.each (List.range 8) fun k => Op.setReg (A.OXB_HWM k) (leNat ((bs.drop (4 * k)).take 4))
    | none => Op.set F.OXB_STAT_HWMLOST 1

/-! ### Conditions and readiness (R384, R386) -/

/-- Whether condition `b` of `OXB_YIELD` is present. -/
def State.condition (s : State) (b : Nat) : Bool :=
  match b with
  | 0 => s.reg A.WEIR_HALTED != 0
  | 1 => s.bit F.MEM_ERR_UE_BASIN || s.bit F.MEM_ERR_UE_DRAM
  | 2 => s.bit F.RAD_STAT_FCWAIT
  | 3 => !(s.powered .etha && s.bit (F.ETH_STAT_LINK 0))
  | 4 => !(s.powered .ethb && s.bit (F.ETH_STAT_LINK 1))
  | 5 => !(s.powered .tsu && s.bit F.TSU_STAT_LOCKED)
  | 6 => s.blk.shows.flk.lateRun == 3
  | _ => s.oxb.fwDropped

/-- The conditions present, in the layout of `OXB_YIELD`. -/
def State.conditions (s : State) : Nat := (List.range 8).foldl (fun n b => n + bit01 (s.condition b) * 2 ^ b) 0

def State.oxbReady (s : State) : Bool :=
  s.oxbState == 2 && s.bit F.OXB_READY_FW && s.conditions &&& s.fld F.OXB_YIELD_EN == 0 && s.fld F.OXB_ST_RES_FAIL == 0
    && !(s.bit F.OXB_STAT_HWMLOST)

/-- The payload of a report (R384). -/
def State.healthReport (s : State) : List Byte :=
  let gate := s.fld F.OXB_CFG_GATE
  let flags := bit01 (s.bit F.OXB_CFG_POS) + bit01 s.oxbReady * 2 + bit01 (s.bit F.OXB_STAT_STALE) * 4 + bit01 (s.bit F.OXB_STAT_STBUSY) * 8
    + bit01 (s.fld F.OXB_ST_RES_FAIL != 0) * 16 + bit01 (s.bit F.OXB_STAT_PEERLOST) * 32 + bit01 (s.bit F.OXB_STAT_HWMLOST) * 64
    + bit01 (natBits gate 2 2 != 0) * 128
  leBytes 1 1 ++ leBytes 1 s.oxbState ++ leBytes 1 flags ++ leBytes 1 0 ++ leBytes 4 s.oxb.reportSeq
    ++ leBytes 8 (if s.powered .tsu && s.bit F.TSU_STAT_SET then s.now else 0)
    ++ leBytes 2 s.conditions ++ leBytes 2 (s.fld F.OXB_SCORE_SCORE) ++ leBytes 4 (s.reg A.OXB_ST_RES).toNat
    ++ leBytes 4 (s.reg A.RAD_ASN_EPOCH_LO).toNat ++ leBytes 4 (s.reg A.RAD_ASN_EPOCH_HI).toNat
    ++ s.marks.flatMap (leBytes 4)

/-- HEALTH_SEND: every 100 ms ± 1 ms in any state but OFF. -/
def execHealthSend (s : State) : Host.Outcome State Fault Refusal :=
  (Op.on .oxb (Op.get fun s =>
    Op.when (s.oxbState != 0 && s.oxb.health.all fun p => s.after p 99)
      ((Op.linkSend 1 s.healthReport).andThen
        (Op.oxb fun o => { o with health := some s.pulses, reportSeq := (o.reportSeq + 1) % 2 ^ 32 })))).go s

/-! ### Counter blocks (R392, R393) -/

/-- The next block of RAD key entry `k` is written and armed. -/
def Op.oxbArm (k base : Nat) : Op :=
  Op.on .rad ((Op.setReg (A.RAD_KEY_NEXT_BASE k) base).andThen (Op.armBlock k (BitVec.ofNat 32 (base + 4096))))

/-- A reservation for entry `k` ends with a status. -/
def Op.reserved (k status : Nat) : Op :=
  Op.all
    [ Op.set F.OXB_RES_STATUS status, Op.set F.OXB_RES_BUSY 0, Op.oxb fun o => { o with reserving := none },
      Op.when (status != 0) (Op.inc A.OXB_RES_FAIL), Op.oxbEvent 7 k status ]

/-- A reservation ends well: the block is armed. -/
def Op.reservedOk (k base : Nat) : Op :=
  Op.all [ Op.oxbArm k base, Op.setReg A.OXB_RES_BASE base, Op.reserved k 0 ]

/-- A reservation made alone counts. -/
def Op.solo : Op := Op.get fun s =>
  (Op.set F.OXB_SOLO_USED (min 255 (s.fld F.OXB_SOLO_USED + 1))).andThen (Op.inc A.OXB_SOLO_CNT)

/-- Whether the link is up and the partner not lost. -/
def State.peerUp (s : State) : Bool := s.oxb.linkUp && !(s.bit F.OXB_STAT_PEERLOST)

/-- The payload of a frame about one entry's mark. -/
def markPayload (k mark : Nat) : List Byte := leBytes 4 k ++ leBytes 4 mark

/-- A `CLEAR` command ends with a status. -/
def Op.cleared (status : Nat) : Op :=
  Op.all [ Op.set F.OXB_RES_STATUS status, Op.set F.OXB_RES_BUSY 0, Op.oxb fun o => { o with clearing := none } ]

/-- What OXB does once its marks are durable: the rest of reserve(k) and of `CLEAR`, the block of a new owner, the answers. -/
def Op.markAct : MarkAct → Op
  | .reserve k b => Op.get fun s =>
    if s.peerUp then
      (Op.linkSend 3 (markPayload k (b + 4096))).andThen (Op.oxb fun o => { o with reserving := some (k, b, s.pulses, s.pulses) })
    else if !(s.bit F.OXB_STAT_PEERLOST) || !(s.after s.oxb.peerLost 500) || s.fld F.OXB_SOLO_USED == s.fld F.OXB_SOLO_MAX then
      Op.reserved k 2
    else Op.solo.andThen (Op.reservedOk k b)
  | .arm k b => Op.oxbArm k b
  | .resAck k mark => Op.linkSend 4 (markPayload k mark)
  | .clear k => Op.get fun s =>
    if s.oxb.linkUp then (Op.linkSend 7 (leBytes 1 k)).andThen (Op.oxb fun o => { o with clearing := some (k, s.pulses, s.pulses) })
    else Op.cleared 2
  | .clrAck k => (Op.linkSend 8 (leBytes 1 k)).andThen (Op.oxbEvent 12 k 0)

/-- Acts once every change of a mark is durable: at once, or when the commit in progress ends. -/
def Op.durably (a : MarkAct) : Op := Op.get fun s =>
  if s.bit F.BON_STAT_COMMIT_BUSY then Op.oxb fun o => { o with acts := o.acts ++ [a] } else Op.markAct a

/-- A commit has ended, and what waited for the marks is done. -/
def Op.oxbDurable : Op := Op.on .oxb (Op.get fun s =>
  (Op.oxb fun o => { o with acts := [] }).andThen (Op.each s.oxb.acts Op.markAct))

/-- reserve(k). -/
def Op.reserve (k : Nat) : Op := Op.get fun s =>
  let b := (s.reg (A.OXB_HWM k)).toNat
  if s.bit F.OXB_STAT_HWMLOST then Op.reserved k 4
  else if s.blk.rad.armed.getLsbD k then Op.reserved k 1
  else if 0xFFFFF000 ≤ b then Op.reserved k 3
  else Op.all [ Op.set F.OXB_RES_BUSY 1, Op.setMarks [(k, b + 4096)], Op.durably (.reserve k b) ]

/-- The blocks that a new owner arms (R393). `alone` says that the link is down. -/
def Op.ownerBlocks (alone : Bool) : Op :=
  Op.each (List.range 8) fun k => Op.get fun s =>
    let b := (s.reg (A.OXB_HWM k)).toNat + (if s.bit F.OXB_STAT_STALE then s.fld F.OXB_SOLO_MAX * 4096 else 0)
    Op.when (s.powered .rad && s.bit (F.RAD_KEY_CFG_VALID k))
      (if s.bit F.OXB_STAT_HWMLOST then (Op.inc A.OXB_RES_FAIL).andThen (Op.oxbEvent 7 k 4)
      else if 0xFFFFF000 < b + 4096 then (Op.inc A.OXB_RES_FAIL).andThen (Op.oxbEvent 7 k 3)
      else
        Op.all [ Op.setMarks [(k, b + 4096)], Op.when (alone || !s.oxb.linkUp) Op.solo, Op.durably (.arm k b) ])

/-! ### Claims (R380, R381) -/

/-- A self-test that runs is aborted (R390). -/
def Op.selfTestAbort : Op := Op.get fun s =>
  Op.when (s.bit F.OXB_STAT_STBUSY)
    (Op.all [ Op.set F.OXB_STAT_STBUSY 0, Op.inc A.OXB_ST_ABORT, Op.releaseGrant 5 ])

/-- A claim starts, unless the positions clash, the random delay of an earlier clash still runs, or the link tells that the partner owns;
it toggles `OWN_A`, so that a module whose watchdog has expired starts none (R377; log entry 35). -/
def Op.claim : Op := Op.get fun s =>
  Op.when (!s.oxb.clash && s.oxb.retry.isNone && s.oxbAlive && (s.oxbState == 1 || s.oxbState == 2))
    (if s.within s.oxb.ownerRep 250 then (Op.set F.OXB_ERR_PINFAULT 1).andThen (Op.oxbEvent 10 0 0)
     else
      Op.all [ Op.selfTestAbort, Op.oxb fun o => { o with yielded := false, toggles := s.pulses }, Op.oxbEnter 3 ])

/-- Whether the partner shows as owning: an edge less than `LOSS` ms ago. -/
def State.partnerOwns (s : State) : Bool := s.within s.oxb.edge (s.fld F.OXB_TIMES_LOSS)

/-- OWN_B_EDGE: an edge on `OWN_B` of a pulse of so many whole periods of the real-time clock; one shorter than two is ignored (R376),
and so is every edge while bank A is not usable (R519).
During a claim it resolves the claim; `samePos` says that the partner's position is this module's own: the retry follows after 164 to 491
periods, 5 to 15 ms. -/
def execOwnBEdge (periods : BitVec 16) (samePos : Bool) (s : State) : Host.Outcome State Fault Refusal :=
  (Op.on .oxb (Op.get fun s =>
    let primary := s.bit F.OXB_CFG_POS
    Op.when (2 ≤ periods.toNat && s.bankA)
     ((Op.oxb fun o => { o with edge := some s.pulses, lossTold := false }).andThen
      (Op.when (s.oxbState == 3)
        (if samePos then
          Op.all
            [ Op.oxbEnter 2, Op.inc A.OXB_CLAIM_CLASH, Op.oxbEvent 9 0 0,
              Op.draw fun n => Op.oxb fun o => { o with retry := some (s.pulses + 164 + (Config.random n).toNat % 328) } ]
        else Op.when (!primary) (Op.oxbEnter 2)))))).go s

/-- Whether the partner's ownership is lost (R376): `LOSS` ms without an edge, counted from when the pin is watched where no edge has
come since. In WAIT a partner that has shown no edge has no ownership to lose (R379, log entry 35). -/
def State.ownLost (s : State) : Bool :=
  let seen := s.oxb.edge.filter (s.oxb.watch ≤ ·)
  s.after (seen.getD s.oxb.watch) (s.fld F.OXB_TIMES_LOSS) && (s.oxbState == 2 || seen.isSome)

/-- OWNERSHIP_LOSS: no edge has come for `LOSS` ms, or for 1 ms after a `YIELD` frame; the standby claims. -/
def execOwnershipLoss (s : State) : Host.Outcome State Fault Refusal :=
  (Op.on .oxb (Op.get fun s =>
    let lost := s.ownLost
    let quiet := s.oxb.yielded && s.oxb.edge.all fun p => s.after p 1
    Op.when (s.oxbState == 1 || s.oxbState == 2)
      ((Op.when (lost && !s.oxb.lossTold) ((Op.oxb fun o => { o with lossTold := true }).andThen (Op.oxbEvent 3 0 0))).andThen
        (Op.when (lost || quiet) Op.claim)))).go s

/-- WAIT_END: `START` ms have passed in WAIT. -/
def execWaitEnd (s : State) : Host.Outcome State Fault Refusal :=
  (Op.on .oxb (Op.get fun s =>
    Op.when (s.oxbState == 1 && s.after s.oxb.since (s.fld F.OXB_TIMES_START))
      (if s.partnerOwns then Op.oxbEnter 2 else Op.claim))).go s

/-- CLAIM_RETRY: the random delay after a clash is over. -/
def execClaimRetry (s : State) : Host.Outcome State Fault Refusal :=
  (Op.on .oxb (Op.get fun s =>
    Op.when (s.oxbState == 2 && s.oxb.retry.any (· ≤ s.pulses))
      ((Op.oxb fun o => { o with retry := none }).andThen (Op.when (!s.partnerOwns) Op.claim)))).go s

/-- GUARD_END: a claim has lasted its guard; the module becomes owner. `linkDown` says that the link does not answer, which LINK_LOST
shows only 300 ms after its last frame. -/
def execGuardEnd (linkDown : Bool) (s : State) : Host.Outcome State Fault Refusal :=
  (Op.on .oxb (Op.get fun s =>
    Op.when (s.oxbState == 3 && s.oxbAlive && s.after s.oxb.since (s.fld F.OXB_TIMES_GUARD))
      (Op.all
        [ Op.oxbEnter 4,
          Op.ownerBlocks linkDown,
          Op.oxb fun o => { o with showHold := some (s.now : Int), revert := none, fwDropped := false },
          Op.inc A.OXB_TAKEOVERS,
          Op.oxbEvent 1 0 0 ]))).go s

/-! ### Yielding (R377, R378, R386) -/

/-- The show network's gate closes: sends that have not begun complete with status 4, and the launch frame is discarded. -/
def Op.showGateClose : Op := Op.get fun s =>
  Op.when (natBits (s.fld F.OXB_CFG_GATE) 3 1 == 1)
    (Op.eth 1 fun p => { p with
      shows := p.shows.map fun d => if d.status.isNone && d.sent == 0 then { d with status := some 4 } else d
      launch := none, launchLate := [] })

/-- The owner yields; from now on its partner's pulses are watched. -/
def Op.yieldNow : Op := Op.get fun s =>
  Op.all
    [ Op.oxbEnter 2,
      Op.oxb fun o => { o with showHold := none, revert := none, fwDropped := false, watch := s.pulses, lossTold := false },
      Op.set F.OXB_STAT_REVERTREADY 0,
      Op.showGateClose,
      Op.linkSend 2 [],
      Op.inc A.OXB_YIELDS,
      Op.oxbEvent 2 0 0 ]

/-- `YIELD` of `OXB_CMD`. -/
def Op.yieldCmd : Op := Op.get fun s => Op.when s.owner Op.yieldNow

/-- YIELD_CMD. -/
def execYieldCmd (s : State) : Host.Outcome State Fault Refusal := (Op.on .oxb Op.yieldCmd).go s

/-- OXB_KICK: any write restarts the watchdog. -/
def Op.oxbKick : Op := Op.get fun s => Op.oxb fun o => { o with kick := s.pulses }
def execOxbKick (s : State) : Host.Outcome State Fault Refusal := (Op.on .oxb Op.oxbKick).go s

/-- OXB_WATCHDOG_EXPIRE: `MS` ms without a kick; an owner yields, and a claim is lost. In WAIT and STANDBY the expiry shows when a claim
would start. -/
def execOxbWatchdogExpire (s : State) : Host.Outcome State Fault Refusal :=
  (Op.on .oxb (Op.get fun s =>
    Op.when (!s.oxbAlive)
      (match s.oxbState with
        | 4 => Op.yieldNow.andThen (Op.inc A.OXB_WDOG_EXP)
        | 3 => (Op.oxbEnter 2).andThen (Op.oxb fun o => { o with watch := s.pulses, lossTold := false })
        | _ => Op.skip))).go s

/-- Whether condition `b` of `OXB_YIELD` is present and has persisted for its hold: 1 s for conditions 2 to 5. -/
def State.persists (s : State) (b : Fin 8) : Bool :=
  s.condition b.val && (b.val < 2 || 5 < b.val || s.oxb.cond[b].any fun p => s.after p 1000)

/-- YIELD_CONDITION: condition `b` has persisted for its hold. The owner yields if its partner is ready, else it counts the held
yield, once for each occurrence. -/
def execYieldCondition (b : Fin 8) (s : State) : Host.Outcome State Fault Refusal :=
  (Op.on .oxb (Op.get fun s =>
    Op.when (s.owner && natBits (s.fld F.OXB_YIELD_EN) b.val 1 == 1 && s.persists b)
      (if s.within s.oxb.report 250 && natBits (s.fld F.OXB_PEER_FLAGS) 1 1 == 1 then Op.yieldNow
       else Op.when (!(s.oxb.held.getLsbD b.val))
        (Op.all
          [ Op.oxb fun o => { o with held := o.held ||| BitVec.twoPow 8 b.val },
            Op.inc A.OXB_YIELD_HELD, Op.oxbEvent 11 0 0 ])))).go s

/-- A write of `OXB_READY`. -/
def Op.readyWrite (v : Word) : Op := Op.get fun s =>
  (Op.putReg A.OXB_READY v).andThen (Op.oxb fun o => { o with fwDropped := !(v.getLsbD 0) && (s.owner || o.fwDropped) })

/-! ### Revertive fail-back (R389) -/

/-- Whether no report has come for more than 250 ms. -/
def State.reportGap (s : State) : Bool := s.oxb.report.all fun p => decide (250 * 32768 < (s.pulses - p) * 1000)

/-- REVERT_READY: the hold has lasted `SECONDS`. -/
def execRevertReady (s : State) : Host.Outcome State Fault Refusal :=
  (Op.on .oxb (Op.get fun s =>
    Op.when (s.owner && !(s.bit F.OXB_CFG_POS) && s.bit F.OXB_CFG_REVERT && !(s.bit F.OXB_STAT_REVERTREADY)
        && !s.reportGap
        && s.oxb.revert.any fun p => s.after p (s.fld F.OXB_REVERT_SECONDS * 1000))
      ((Op.set F.OXB_STAT_REVERTREADY 1).andThen (Op.oxbEvent 6 0 0)))).go s

/-- A safe point: a revert-ready secondary yields. -/
def Op.safePoint : Op := Op.get fun s => Op.when (s.owner && s.bit F.OXB_STAT_REVERTREADY && !s.reportGap) Op.yieldNow

/-- SAFEPOINT: firmware writes `OXB_CMD.SAFEPOINT`. -/
def execSafepoint (s : State) : Host.Outcome State Fault Refusal := (Op.on .oxb Op.safePoint).go s

/-- The revert hold after a report: it runs while the partner reports `READY`, and a gap restarts it. -/
def Op.revertReport (ready gap : Bool) : Op := Op.get fun s =>
  Op.when (s.owner && !(s.bit F.OXB_CFG_POS) && s.bit F.OXB_CFG_REVERT)
    (if ready && !gap && s.oxb.revert.isSome then Op.skip
     else (Op.oxb fun o => { o with revert := if ready then some s.pulses else none }).andThen (Op.set F.OXB_STAT_REVERTREADY 0))

/-! ### Frames from the partner (R384, R385, R391 to R395) -/

/-- Sends this module's `SYNC`. -/
def Op.syncSend : Op := Op.get fun s =>
  (Op.linkSend 5 (s.marks.flatMap (leBytes 4))).andThen (Op.oxb fun o => { o with syncSent := true })

/-- What every valid frame does; nothing is heard in OFF, or while bank A is not usable (R519). -/
def Op.linkFrame (o : Op) : Op := Op.on .oxb (Op.get fun s =>
  Op.when (s.oxbState != 0 && s.bankA)
    (Op.all
      [ Op.oxb fun x => { x with frame := s.pulses, linkUp := true, linkLost := false },
        Op.when s.oxb.linkLost (Op.oxbEvent 5 0 0),
        Op.when (!s.oxb.linkUp) Op.syncSend,
        o ]))

/-- Milliseconds since the last report, saturating: what `OXB_PEER.AGE` reads. -/
def State.peerAge (s : State) : Nat :=
  match s.oxb.report with
  | some p => min 0xFFFF ((s.pulses - p) * 1000 / 32768)
  | none => 0xFFFF

/-- HEALTH_FRAME: a report of 64 bytes. -/
def execHealthFrame (p : List Byte) (s : State) : Host.Outcome State Fault Refusal :=
  (Op.linkFrame (Op.get fun s =>
    let at' (o n : Nat) : Nat := leNat ((p.drop o).take n)
    let flags := at' 2 1
    let gap := s.reportGap
    Op.all
      [ Op.set F.OXB_PEER_STATE (at' 1 1), Op.set F.OXB_PEER_FLAGS flags,
        Op.set F.OXB_PEER_SCORE_SCORE (at' 0x12 2), Op.set F.OXB_PEER_SCORE_COND (at' 0x10 2),
        Op.oxb fun o =>
          if at' 1 1 = 4 then { o with report := some s.pulses, ownerRep := some s.pulses, yielded := false }
          else { o with report := some s.pulses },
        Op.when (natBits flags 0 1 == bit01 (s.bit F.OXB_CFG_POS))
          ((Op.set F.OXB_ERR_POSCLASH 1).andThen (Op.oxb fun o => { o with clash := true })),
        Op.when (natBits flags 5 1 == 1 && s.oxbState == 2) (Op.set F.OXB_STAT_STALE 1),
        Op.raiseMarks ((List.range 8).map fun k => (k, at' (0x20 + 4 * k) 4)),
        Op.revertReport (natBits flags 1 1 == 1) gap ])).go s

/-- YIELD_FRAME: the standby may claim once `OWN_B` has been quiet for 1 ms. -/
def execYieldFrame (s : State) : Host.Outcome State Fault Refusal :=
  (Op.linkFrame (Op.get fun s =>
    (Op.oxb fun o => { o with yielded := true }).andThen (Op.when (s.oxb.edge.all fun p => s.after p 1) Op.claim))).go s

/-- RESERVE_FRAME: the mark rises durably, and then the answer goes back. -/
def execReserveFrame (k : Fin 8) (mark : Word) (s : State) : Host.Outcome State Fault Refusal :=
  (Op.linkFrame ((Op.raiseMarks [(k.val, mark.toNat)]).andThen (Op.durably (.resAck k.val mark.toNat)))).go s

/-- RES_ACK_FRAME: the reservation that awaits it completes. -/
def execResAckFrame (k : Fin 8) (mark : Word) (s : State) : Host.Outcome State Fault Refusal :=
  (Op.linkFrame (Op.get fun s =>
    match s.oxb.reserving with
    | some (j, b, _, _) => Op.when (j == k.val && b + 4096 == mark.toNat) (Op.reservedOk j b)
    | none => Op.skip)).go s

/-- SYNC_FRAME: the partner's marks. It answers the `SYNC` that this module has sent, or this module answers it with its own; either
way the exchange is complete (R385). -/
def execSyncFrame (marks : Vector Word 8) (s : State) : Host.Outcome State Fault Refusal :=
  (Op.linkFrame (Op.all
    [ Op.raiseMarks ((List.finRange 8).map fun k => (k.val, marks[k].toNat)),
      Op.get fun s => Op.when (!s.oxb.syncSent) Op.syncSend,
      Op.oxb fun o => { o with syncSent := false },
      Op.set F.OXB_STAT_PEERLOST 0, Op.set F.OXB_STAT_STALE 0, Op.set F.OXB_STAT_HWMLOST 0, Op.set F.OXB_SOLO_USED 0 ])).go s

/-- Pushes an `APP` item; one that finds no room is lost and counts, one that must wait (R156) stands in line. -/
def Op.appItem (v : DWord) : Op := Op.get fun s =>
  let wait := Op.oxb fun o => { o with items := o.items ++ [v] }
  if !s.oxb.items.isEmpty then wait
  else Op.hwPush (rillNo (s.fld F.OXB_RILLS_RX)) v fun
    | .ok => Op.skip
    | .stopped => wait
    | .busy => wait
    | _ => Op.inc A.OXB_RX_LOST

/-- The oldest `APP` item that waits is tried again. -/
def Op.appRetry : Op := Op.get fun s =>
  match s.oxb.items with
  | [] => Op.skip
  | v :: vs =>
    let pop := (Op.oxb fun o => { o with items := vs }).andThen
    Op.hwPush (rillNo (s.fld F.OXB_RILLS_RX)) v fun
      | .ok => pop Op.skip
      | .stopped => Op.skip
      | .busy => Op.skip
      | _ => pop (Op.inc A.OXB_RX_LOST)

/-- APP_FRAME: a message of 1 to 1,024 bytes goes into the lowest free buffer. -/
def execAppFrame (p : List Byte) (s : State) : Host.Outcome State Fault Refusal :=
  (Op.linkFrame (Op.get fun s =>
    match (List.range 16).find? fun i => natBits (s.fld F.OXB_RX_FULL_BUFS) i 1 == 0 with
    | none => Op.inc A.OXB_RX_LOST
    | some i => Op.writeDws ((s.reg A.OXB_RXBUF).toNat + 1024 * i) (dwordsOf 128 p) fun
      | false => Op.inc A.OXB_RX_LOST
      | true => (Op.set ⟨A.OXB_RX_FULL, i, 1⟩ 1).andThen (Op.appItem (BitVec.ofNat 64 (i + p.length * 2 ^ 16))))).go s

/-- CLEAR_FRAME: the mark becomes 0 durably, and then the answer goes back. -/
def execClearFrame (k : Fin 8) (s : State) : Host.Outcome State Fault Refusal :=
  (Op.linkFrame ((Op.setMarks [(k.val, 0)]).andThen (Op.durably (.clrAck k.val)))).go s

/-- CLR_ACK_FRAME: the `CLEAR` that awaits it completes. -/
def execClrAckFrame (k : Fin 8) (s : State) : Host.Outcome State Fault Refusal :=
  (Op.linkFrame (Op.get fun s => Op.when (s.oxb.clearing.any fun p => p.1 == k.val) (Op.cleared 0))).go s

/-- LINK_FRAME_ERROR: a received frame's CRC fails, or, with `tx`, an acknowledge does not arrive and the frame being sent ends, which
with `app` is the `APP` frame (R382, R383). No frame comes in while bank A is not usable (R519). -/
def execLinkFrameError (tx app : Bool) (s : State) : Host.Outcome State Fault Refusal :=
  (Op.on .oxb (Op.get fun s =>
    Op.when (s.oxbState != 0 && (tx || s.bankA)) ((Op.inc A.OXB_LINK_ERR).andThen (Op.when (tx && app) (Op.set F.OXB_TX_CTL_BUSY 0))))).go s

/-- LINK_LOST: 300 ms without a valid frame. -/
def execLinkLost (s : State) : Host.Outcome State Fault Refusal :=
  (Op.on .oxb (Op.get fun s =>
    Op.when (s.oxbState != 0 && !s.oxb.linkLost && s.after s.oxb.frame 300)
      (Op.all
        [ Op.oxb fun o => { o with linkLost := true, linkUp := false, syncSent := false, peerLost := s.pulses },
          Op.set F.OXB_STAT_PEERLOST 1,
          Op.when (!s.owner) (Op.set F.OXB_STAT_STALE 1),
          Op.inc A.OXB_LINK_LOST,
          Op.oxbEvent 4 0 0 ]))).go s

/-! ### Commands of `OXB_RES` (R392, R394) -/

/-- `KEY` of `OXB_RES` is written, and the command with it runs unless one runs already (log entry 35). -/
def Op.resCmd (k : Nat) (cmd : Op) : Op := Op.get fun s =>
  (Op.set F.OXB_RES_KEY k).andThen (Op.when (!(s.bit F.OXB_RES_BUSY)) cmd)

/-- RESERVE_CMD. -/
def execReserveCmd (k : Fin 8) (s : State) : Host.Outcome State Fault Refusal :=
  (Op.on .oxb (Op.resCmd k.val (Op.reserve k.val))).go s

/-- RESERVE_TIMEOUT: 20 ms without `RES_ACK`; the block stays unused. -/
def execReserveTimeout (s : State) : Host.Outcome State Fault Refusal :=
  (Op.on .oxb (Op.get fun s =>
    match s.oxb.reserving with
    | some (k, _, t, _) => Op.when (s.after t 20) (Op.reserved k 2)
    | none => Op.skip)).go s

/-- `CLEAR` of `OXB_RES`. -/
def Op.clearCmd (k : Nat) : Op :=
  Op.all [ Op.set F.OXB_RES_BUSY 1, Op.setMarks [(k, 0)], Op.durably (.clear k) ]

/-- CLEAR_CMD. -/
def execClearCmd (k : Fin 8) (s : State) : Host.Outcome State Fault Refusal :=
  (Op.on .oxb (Op.resCmd k.val (Op.clearCmd k.val))).go s

/-- CLEAR_TIMEOUT: 20 ms without `CLR_ACK`. -/
def execClearTimeout (s : State) : Host.Outcome State Fault Refusal :=
  (Op.on .oxb (Op.get fun s => Op.when (s.oxb.clearing.any fun p => s.after p.2.1 20) (Op.cleared 2))).go s

/-- `SETMIN` of `OXB_RES`: the mark rises to `OXB_RES_BASE`; with all eight set, `HWMLOST` clears. -/
def Op.setMin (k : Nat) : Op := Op.get fun s =>
  let m := s.oxb.setMarks ||| BitVec.twoPow 8 k
  Op.all
    [ Op.raiseMarks [(k, (s.reg A.OXB_RES_BASE).toNat)],
      Op.oxb fun o => { o with setMarks := m },
      Op.when (m == 0xFF) (Op.set F.OXB_STAT_HWMLOST 0),
      Op.set F.OXB_RES_STATUS 0 ]

/-- SETMIN. -/
def execSetmin (k : Fin 8) (s : State) : Host.Outcome State Fault Refusal :=
  (Op.on .oxb (Op.resCmd k.val (Op.setMin k.val))).go s

/-- A write of `OXB_RES` with any value. -/
def Op.resWrite (v : Word) : Op :=
  let k := natBits v.toNat 0 3
  Op.resCmd k
    (match natBits v.toNat 8 2 with
      | 1 => Op.reserve k
      | 2 => Op.clearCmd k
      | 3 => Op.setMin k
      | _ => Op.skip)

/-! ### Firmware messages (R395) -/

/-- A write of `OXB_TX_CTL`: with `GO` it starts a message; `GO` is ignored while one is sent. A length outside 1 to 1,024 starts
none. -/
def Op.txWrite (v : Word) : Op := Op.get fun s =>
  let n := natBits v.toNat 0 11
  (Op.set F.OXB_TX_CTL_LEN n).andThen
    (Op.when (!(s.bit F.OXB_TX_CTL_BUSY) && v.getLsbD 31 && 1 ≤ n && n ≤ 1024)
      (Op.readBytes Block.oxb.num ((s.reg A.OXB_TX_ADDR).toNat / 8 * 8) n fun
        | none => Op.log 0x000A Block.oxb.num (s.reg A.OXB_TX_ADDR).toNat 0
        | some bs => (Op.set F.OXB_TX_CTL_BUSY 1).andThen (Op.linkSend 6 bs)))

/-- APP_SEND: a write of `OXB_TX_CTL` with the value `v`. -/
def execAppSend (v : Word) (s : State) : Host.Outcome State Fault Refusal := (Op.on .oxb (Op.txWrite v)).go s

/-- APP_SENT: the message has been sent. -/
def execAppSent (s : State) : Host.Outcome State Fault Refusal := (Op.on .oxb (Op.set F.OXB_TX_CTL_BUSY 0)).go s

/-- OXB_RX_RETURN: firmware returns buffers. -/
def Op.rxReturn (v : Word) : Op := Op.get fun s => Op.putReg A.OXB_RX_FULL (s.reg A.OXB_RX_FULL &&& ~~~ v)
def execOxbRxReturn (v : Word) (s : State) : Host.Outcome State Fault Refusal := (Op.on .oxb (Op.rxReturn v)).go s

/-! ### Standby self-test (R390) -/

/-- A run is requested by `OXB_ST.GO` or the period. -/
def Op.selfTestRequest : Op := Op.get fun s =>
  Op.when (s.oxbState == 2 && !(s.bit F.OXB_STAT_STBUSY))
    (Op.maintRequest 5 false fun
      | .granted => Op.set F.OXB_STAT_STBUSY 1
      | _ => Op.skip)

/-- The period of `OXB_ST` has passed since its last request, or since `RUN` was set; it requests a run, and one that is refused is
requested again at the next period (R390). -/
def Op.selfTestPeriod : Op := Op.get fun s =>
  let period := s.fld F.OXB_ST_PERIOD
  Op.when (s.bit F.OXB_CTRL_RUN && period != 0 && s.after s.oxb.tested (period * 60000))
    ((Op.oxb fun o => { o with tested := s.pulses }).andThen Op.selfTestRequest)

/-- STANDBY_SELF_TEST_REQUEST: by `GO`, or by the period. -/
def execStandbySelfTestRequest (go : Bool) (s : State) : Host.Outcome State Fault Refusal :=
  (Op.on .oxb (if go then Op.selfTestRequest else Op.selfTestPeriod)).go s

/-- STANDBY_SELF_TEST_END, with its failure mask. -/
def execStandbySelfTestEnd (fail : BitVec 5) (s : State) : Host.Outcome State Fault Refusal :=
  (Op.on .oxb (Op.get fun s =>
    Op.when (s.bit F.OXB_STAT_STBUSY)
      (Op.all
        [ Op.set F.OXB_STAT_STBUSY 0, Op.set F.OXB_ST_RES_FAIL fail.toNat, Op.releaseGrant 5, Op.oxbEvent 8 0 0 ]))).go s

/-! ### What the crystal's pulse does (log entry 20) -/

/-- A frame that awaits its answer is sent again every 5 ms, for 20 ms (R392, R394). -/
def Op.oxbResend : Op := Op.get fun s =>
  let due (t last : Nat) : Bool := s.after last 5 && !(s.after t 20)
  (match s.oxb.reserving with
    | some (k, b, t, last) => Op.when (due t last)
      ((Op.linkSend 3 (markPayload k (b + 4096))).andThen (Op.oxb fun o => { o with reserving := some (k, b, t, s.pulses) }))
    | none => Op.skip).andThen
  (match s.oxb.clearing with
    | some (k, t, last) => Op.when (due t last)
      ((Op.linkSend 7 (leBytes 1 k)).andThen (Op.oxb fun o => { o with clearing := some (k, t, s.pulses) }))
    | none => Op.skip)

/-- The conditions of `OXB_YIELD` are looked at, each with the pulse since which it is present; the occurrence of one that is gone has
ended (R386). -/
def Op.oxbConditions : Op := Op.get fun s =>
  Op.oxb fun o => { o with
    cond := Vector.ofFn fun b => if s.condition b.val then some (o.cond[b].getD s.pulses) else none
    held := o.held &&& BitVec.ofNat 8 s.conditions }

/-- A gap between reports restarts the revert hold (R389). -/
def Op.oxbGap : Op := Op.get fun s =>
  Op.when (s.oxb.revert.isSome && s.reportGap)
    ((Op.oxb fun o => { o with revert := none }).andThen (Op.set F.OXB_STAT_REVERTREADY 0))

/-- One pulse of the crystal. -/
def Op.oxbPulse : Op := Op.on .oxb (Op.all [Op.oxbConditions, Op.oxbGap, Op.oxbResend])

/-! ### Start and stop (R397) -/

/-- The cause for which `RUN` is refused, or 0. -/
def State.oxbCause (s : State) : Nat :=
  let loss := s.fld F.OXB_TIMES_LOSS
  let guard := s.fld F.OXB_TIMES_GUARD
  let a := (s.reg A.OXB_RXBUF).toNat
  if loss < 2 || 20 < loss || guard < 1 || 10 < guard then 1
  else if !(s.rillUsable (s.fld F.OXB_RILLS_RX) && s.rillUsable (s.fld F.OXB_RILLS_EVT)) then 2
  else if a % 64 ≠ 0 || (regionOf a != .basin && regionOf a != .dram) || regionOf (a + 16383) != regionOf a then 3
  else 0

/-- OXB starts: WAIT, with the link yet to be heard. -/
def Op.oxbStarted : Op := Op.get fun s =>
  Op.all
    [ Op.oxbEnter 1,
      Op.set F.OXB_STAT_STALE 1,
      Op.oxb fun o => { o with
        yielded := false, lossTold := false, ownerRep := none, frame := s.pulses, linkUp := false, linkLost := false, syncSent := false,
        retry := none, clash := false, kick := s.pulses, health := none, revert := none, watch := s.pulses, tested := s.pulses } ]

/-- OXB stops at once: an owner yields, and the module enters OFF. -/
def Op.oxbOff : Op := Op.get fun s =>
  Op.all
    [ Op.when s.owner Op.yieldNow,
      Op.selfTestAbort,
      Op.oxbEnter 0 ]

end Sys2Proof.Machine
end

