-- ==== Sys2Proof/Machine/Rec.lean ====
section
/-!
DEFINITION. The event recorder (spec/16): records written, the reading window, snapshots, firmware records.
-/
namespace Sys2Proof.Machine

/-- The 32 bytes of a record (R487). -/
def recordBytes (seq : Nat) (r : Record) : List Byte :=
  leBytes 4 seq ++ leBytes 2 r.kind ++ leBytes 1 r.source ++ leBytes 1 r.flags ++ leBytes 8 r.time
    ++ leBytes 8 r.subject.toNat ++ leBytes 8 r.detail.toNat

/-- A record as it is written: with `DROPS` where records were dropped before it. -/
def withDrops (n : Nat) (r : Record) : Record :=
  if n = 0 then r
  else { r with
    flags := r.flags ||| 4
    detail := BitVec.ofNat 64 (r.detail.toNat % 2 ^ 48 + min n 65535 * 2 ^ 48) }

/-- The recorder writes a record under the next sequence number. -/
def Op.writeRecord (r : Record) : Op := Op.get fun s =>
  let q := s.blk.rcd
  let e := (q.next, withDrops q.dropped r)
  Op.all
    [ Op.rcd fun q => { q with
        first := if q.next < 256 then q.first ++ [e] else q.first
        circ := if q.next < 256 then q.circ else (e :: q.circ).take 4096
        next := q.next + 1
        dropped := 0 },
      Op.setReg A.REC_NEXT (q.next + 1),
      Op.when (q.next == 255) (Op.set F.REC_STAT_FIRSTFULL 1),
      Op.when (256 + 4096 ≤ q.next) (Op.set F.REC_STAT_WRAPPED 1) ]

/-- The oldest record of the input queue is written (R489). -/
def execRecordLog (s : State) : Host.Outcome State Fault Refusal :=
  ((Op.get fun s =>
    match s.blk.rcd.queue with
    | [] => Op.skip
    | r :: rest => Op.when (s.powered .recd) ((Op.rcd fun q => { q with queue := rest }).andThen (Op.writeRecord r)))).go s

/-- The record with a sequence number, if it is held. -/
def State.record (s : State) (seq : Nat) : Option (Nat × Record) :=
  (s.blk.rcd.first ++ s.blk.rcd.circ).find? fun e => e.1 % 2 ^ 32 == seq

/-- Loads a record into the window (R490). -/
def Op.loadWindow (seq : Nat) : Op := Op.get fun s =>
  let put (bs : List Byte) : Op := Op.each (List.range 8) fun w => Op.setReg (A.REC_WIN w) (leNat ((bs.drop (4 * w)).take 4))
  Op.all
    [ Op.setReg A.REC_CURSOR seq,
      match s.record seq with
      | some (n, r) =>
        Op.all [ put (recordBytes n r), Op.set F.REC_WSTAT_STATE 0, Op.set F.REC_WSTAT_FIRST (bit01 (n < 256)) ]
      | none =>
        Op.all [ put [], Op.set F.REC_WSTAT_STATE (if seq < s.blk.rcd.next then 1 else 2), Op.set F.REC_WSTAT_FIRST 0 ] ]

/-- A write of `REC_CURSOR`. -/
def execRecCursor (v : Word) (s : State) : Host.Outcome State Fault Refusal := (Op.on .recd (Op.loadWindow v.toNat)).go s

/-- A read of `REC_WIN7` loads the next record. -/
def Op.nextWindow : Op := Op.get fun s => Op.loadWindow (((s.reg A.REC_CURSOR).toNat + 1) % 2 ^ 32)

def execWindowAdvance (s : State) : Host.Outcome State Fault Refusal := (Op.on .recd Op.nextWindow).go s

/-- A write of `REC_SNAP`. -/
def Op.recSnap : Op := Op.get fun s =>
  let h := s.blk.rcd.next
  (Op.setReg A.REC_SNAP_HIGH h).andThen (Op.setReg A.REC_SNAP_LOW (if h ≤ 256 then h else max 256 (h - 4096)))

def execRecSnap (s : State) : Host.Outcome State Fault Refusal := (Op.on .recd Op.recSnap).go s

/-- A write of `REC_LOG_KIND` (R491). -/
def Op.firmwareRecord (kind : Nat) : Op := Op.get fun s =>
  if kind < 0xF000 then Op.set F.REC_ERR_KIND 1
  else
    Op.log kind 0xFF ((s.reg A.REC_LOG_SUBJ_HI).toNat * 2 ^ 32 + (s.reg A.REC_LOG_SUBJ_LO).toNat)
      ((s.reg A.REC_LOG_DET_HI).toNat * 2 ^ 32 + (s.reg A.REC_LOG_DET_LO).toNat)

def execFirmwareRecord (kind : BitVec 16) (s : State) : Host.Outcome State Fault Refusal :=
  (Op.on .recd (Op.firmwareRecord kind.toNat)).go s

end Sys2Proof.Machine
end

