-- ==== Sys2Proof/Machine/Met.lean ====
section
/-!
DEFINITION. Feeder metering MET (spec/11): samples, powers, energy registers, demand intervals, theft, the committed image.
A sample arrives as the eight filtered codes of R353; the decimators before them are not held.
-/
namespace Sys2Proof.Machine

def Op.met (f : Met → Met) : Op := Op.blk fun b => { b with met := f b.met }

def State.met (s : State) : Met := s.blk.met

/-! ### Events (R372) -/

def metEvt : EvtCfg := ⟨F.MET_RILLS_EVT, some F.MET_RILLS_EVT_EN, A.MET_EVT_LOST, some 16⟩

/-- Posts an event: kind, channel or register index, detail. It waits while `EVT_EN` is 0. -/
def Op.metEvent (kind index detail : Nat) : Op := Op.get fun s =>
  let v : DWord := BitVec.ofNat 64 (kind + index * 2 ^ 8 + detail % 2 ^ 31 * 2 ^ 32)
  if s.evOn metEvt then Op.postEvent .met metEvt v else Op.enqueueEvent .met metEvt v

/-! ### Demand intervals (R361 to R363) -/

/-- The integer part of a register. -/
def metInt (n : Nat) : Nat := n / 2 ^ 32

/-- The length of an interval in ns, by `LEN`. -/
def intervalNs (len : Nat) : Nat := [1, 5, 10, 15, 30, 60].getD len 60 * 60000000000

/-- The registers whose changes a record carries, in its order. -/
def recordRegs : List (Fin 38) := [24, 25, 26, 27, 28, 29, 30, 31, 0, 1, 8, 9, 16, 17]

/-- The body of the record of an interval that ends at `t`. -/
def State.demandBody (s : State) (i : Interval) (early : Bool) (t : Nat) : List DWord :=
  [ BitVec.ofNat 64 (t % 2 ^ 63),
    BitVec.ofNat 64
      (s.met.number % 2 ^ 32 + bit01 (early || i.early) * 2 ^ 32 + bit01 i.lost * 2 ^ 33 + bit01 i.batt * 2 ^ 34
        + bit01 i.notime * 2 ^ 35 + bit01 s.met.fresh * 2 ^ 36 + s.fld F.MET_DMD_LEN * 2 ^ 37) ]
    ++ recordRegs.map fun k =>
      BitVec.ofNat 64 ((metInt s.met.regs[k] + 2 ^ 64 - i.base[k]) % 2 ^ 63)

/-- `DMDWAIT` shows whether records wait. -/
def Op.demandShow : Op := Op.get fun s => Op.set F.MET_STAT_DMDWAIT (bit01 !s.met.records.isEmpty)

/-- Pushes the oldest record that waits. -/
def Op.demandPush : Op := Op.get fun s =>
  match s.met.records with
  | [] => Op.skip
  | r :: rs =>
    Op.when (s.bit F.MET_RILLS_DMD_EN)
      ((Op.hwPacket .met 1 (rillNo (s.fld F.MET_RILLS_DMD)) 1 r fun
          | .ok => Op.met fun m => { m with records := rs }
          | _ => Op.skip).andThen Op.demandShow)

/-- The interval in progress ends at `t` and queues its record; the ninth that waits is lost. -/
def Op.demandClose (early : Bool) (t : Nat) : Op := Op.get fun s =>
  match s.met.interval with
  | none => Op.skip
  | some i =>
    let r := s.demandBody i early t
    Op.all
      [ Op.met fun m => { m with interval := none, number := m.number + 1, fresh := false },
        Op.when (s.bit F.MET_RILLS_DMD_EN)
          (if 8 ≤ s.met.records.length then Op.inc A.MET_DMD_LOST
           else
            Op.all
              [ Op.met fun m => { m with records := m.records ++ [r] },
                Op.demandShow,
                Op.when s.met.records.isEmpty Op.demandPush ]) ]

/-- A new interval starts, on the free count while the time base is not set. -/
def Op.demandOpen (t : Nat) (early batt : Bool) : Op := Op.get fun s =>
  Op.met fun m => { m with
    interval := some { start := t, base := m.regs.map metInt, early := early, lost := false, batt := batt, notime := !s.timeSet } }

/-- The time base restarts from 0 with the power-up of D12: the interval in progress runs on the free count (R362). -/
def Op.metFree : Op :=
  Op.met fun m => { m with interval := m.interval.map fun i => { i with start := 0, notime := true } }

/-- The interval in progress ends early, and the next starts at once. -/
def Op.demandCut (t t' : Nat) : Op := Op.get fun s =>
  Op.when s.met.interval.isSome ((Op.demandClose true t).andThen (Op.demandOpen t' false false))

/-- The first boundary of R361 after an instant. -/
def State.boundaryAfter (s : State) (t : Nat) : Nat :=
  let l : Int := intervalNs (s.fld F.MET_DMD_LEN)
  let o : Int := 1000000000 * s.fld F.MET_TAI_UTC_SECONDS
  ((((t : Int) - o) / l + 1) * l + o).toNat

/-- DEMAND_INTERVAL_END: the time base has reached the end of the interval. -/
def execDemandIntervalEnd (s : State) : Host.Outcome State Fault Refusal :=
  (Op.get fun s =>
    match s.met.interval with
    | none => Op.skip
    | some i =>
      let b := s.boundaryAfter i.start
      Op.when (s.running .met && b ≤ s.now) ((Op.demandClose false b).andThen (Op.demandOpen b false false))).go s

/-- DEMAND_RECORD_PUSH: a record that waits is pushed once its rill has room. -/
def execDemandRecordPush (s : State) : Host.Outcome State Fault Refusal := (Op.on .met Op.demandPush).go s

/-- A time step of more than 1,000 ns ends the interval, and so does the setting of the time base (R361, R362); called before the time
base changes. -/
def Op.metStep (z : Int) : Op := Op.get fun s =>
  Op.when (1000 < z.natAbs || (s.timeSet && s.met.interval.any (·.notime))) (Op.demandCut s.now (max 0 ((s.now : Int) + z)).toNat)

/-- A write of `MET_TAI_UTC` ends the interval (R361). -/
def Op.taiWrite (v : Word) : Op := Op.get fun s => (Op.demandCut s.now s.now).andThen (Op.putReg A.MET_TAI_UTC v)

/-! ### Calibration (R354) -/

/-- The integer square root, by bits from `b` down. -/
def isqrtGo (x : Nat) : Nat → Nat → Nat
  | 0, acc => acc
  | b + 1, acc => let t := acc + 2 ^ b; isqrtGo x b (if t * t ≤ x then t else acc)

/-- The integer square root of a number below 2^256. -/
def isqrt (x : Nat) : Nat := isqrtGo x 128 0

/-- A quotient rounded to the nearest whole number, half upward. -/
def roundDiv (a b : Nat) : Nat := (2 * a + b) / (2 * b)

/-- The calibrated sample of channel `c` from its code, with the filter state that follows. The interpolation of `delay` is the same
line for either sign of `PHASE`. -/
def State.calibrate (s : State) (c : Fin 8) (raw : BitVec 24) : Int × (Int × Int) :=
  let x := raw.toInt - signedOf 24 (s.fld (F.MET_CAL_OFF_OFF c.val))
  let (x0, y0) := s.met.last[c]
  let y := if s.bit F.MET_CTRL_HPF then Config.metHighpass y0 x0 x else x
  let d := 256 * y - signedOf 8 (s.fld (F.MET_CAL_PHASE_PHASE c.val)) * (y - y0)
  ((d * signedOf 32 (s.fld (F.MET_CAL_GAIN_GAIN c.val)) + 2 ^ 31) / 2 ^ 32, (x, y))

/-- Whether a channel is enabled. -/
def State.chen (s : State) (c : Nat) : Bool := natBits (s.fld F.MET_CTRL_CHEN) c 1 == 1

/-- Whether a channel's samples count: enabled, not in modulator fault, no voltage in battery current-only mode. -/
def State.chanLive (s : State) (c : Nat) : Bool :=
  s.chen c && natBits (s.fld F.MET_MODFAULT_NOW) c 1 == 0 && !(s.bit F.MET_STAT_BATT && c < 3)

/-! ### Quantities over a window (R355) -/

/-- Channel `c` of the sample `k` before the newest; zero before the start. -/
def histAt (h : List (Vector Int 8)) (c : Fin 8) (k : Nat) : Int :=
  match h[k]? with
  | some v => v[c]
  | none => 0

/-- A sum over a window of `n` samples, the newest first. -/
def windowSum (n : Nat) (f : Nat → Int) : Int := (List.range n).foldl (fun a k => a + f k) 0

/-- The sum of squares of a quantity over a window. -/
def squares (n : Nat) (f : Nat → Int) : Nat := (windowSum n fun k => f k * f k).toNat

/-- An RMS value in thousands of its unit, truncated. -/
def rmsThousands (sq n : Nat) : Nat := isqrt (sq / n) / 1000

/-- Voltage and current channels of a phase. -/
def voltCh (p : Fin 3) : Fin 8 := ⟨p.val, by omega⟩
def ampCh (p : Fin 3) : Fin 8 := ⟨p.val + 3, by omega⟩

/-- The powers of a phase or of the total over a window: sums of active and four times reactive products, and the root of the
product of the sums of squares with 32 fraction bits. -/
structure Powers where
  p : Int
  q4 : Int
  s : Nat

/-- The powers of a phase (R355): the quarter-period delay of the voltage is interpolated between two samples. -/
def phasePowers (h : List (Vector Int 8)) (n : Nat) (p : Fin 3) : Powers :=
  let v := histAt h (voltCh p)
  let i := histAt h (ampCh p)
  { p := windowSum n fun k => v k * i k
    q4 := windowSum n fun k => (v (k + n / 4) * (4 - (n % 4 : Nat)) + v (k + n / 4 + 1) * (n % 4 : Nat)) * i k
    s := isqrt (squares n v * squares n i * 2 ^ 64) }

/-- What one sample of block `b` adds to its registers (R357), each part rounded to the nearest 2⁻³² LSB: 10⁻¹¹ W × 125 µs against
0.36 J. -/
def blockAdds (n b : Nat) (w : Powers) : List (Nat × Nat) :=
  let e (x d : Nat) : Nat := roundDiv (x * 125 * 2 ^ 32) (d * n * 36 * 10 ^ 15)
  let imp := 0 ≤ w.p
  let vaAdd := roundDiv (w.s * 125) (n * 36 * 10 ^ 15)
  [ (8 * b + (if imp then 0 else 1), e w.p.natAbs 1),
    (8 * b + (if imp then 6 else 7), vaAdd),
    (8 * b + (if 0 ≤ w.q4 then (if imp then 2 else 3) else if imp then 5 else 4), e w.q4.natAbs 4) ]

/-- Whether a phase is energised: its voltage and current channels are both enabled. -/
def State.energised (s : State) (p : Fin 3) : Bool := s.chen p.val && s.chen (p.val + 3)

/-- What a sample adds to the energy registers outside battery current-only mode. -/
def State.energyAdds (s : State) (h : List (Vector Int 8)) (n : Nat) : List (Nat × Nat) :=
  let ps := (List.finRange 3).filter s.energised
  let ws := ps.map fun p => (p, phasePowers h n p)
  ws.flatMap (fun e => blockAdds n e.1.val e.2)
    ++ (if ps.isEmpty then [] else
      blockAdds n 3 (ws.foldl (fun a e => ⟨a.p + e.2.p, a.q4 + e.2.q4, a.s + e.2.s⟩) ⟨0, 0, 0⟩))

/-- What a sample adds to the charge registers: 1 µA × 125 µs against 0.36 C. -/
def chargeAdds (h : List (Vector Int 8)) (n : Nat) : List (Nat × Nat) :=
  ([3, 4, 5, 6] : List (Fin 8)).map fun c =>
    (32 + (c.val - 3), roundDiv (isqrt (squares n (histAt h c) * 2 ^ 64 / n) * 125) (36 * 10 ^ 10))

/-- Adds to the registers, which wrap at 2^64. -/
def addAll (r : Vector Nat 38) (l : List (Nat × Nat)) : Vector Nat 38 :=
  l.foldl (fun r e => r.setIfInBounds e.1 ((r.toList.getD e.1 0 + e.2) % 2 ^ 96)) r

/-! ### The sample (R351 to R357, R364 to R367) -/

/-- The reference channel. -/
def State.refCh (s : State) : Fin 8 := Fin.ofNat 8 (s.fld F.MET_CTRL_REF)

/-- The last whole cycle after a sample: samples since the crossing, and in the cycle. A cycle of more than 200 samples is none. -/
def nextCycle (m : Met) (ref : Fin 8) (v : Int) : Option Nat × Option Nat :=
  let since := m.cross.map (· + 1)
  if histAt m.hist ref 0 < 0 ∧ 0 ≤ v then (some 0, since)
  else match since with
    | some k => if 200 < k then (none, none) else (some k, m.cycle)
    | none => (none, none)

/-- The time and theft counters after a sample (R365 to R368): register 36 counts every 8,000th sample in battery mode, register
37 every 8,000th for which the supply-cut condition held. -/
def Op.countSample (cut resid : Bool) : Op := Op.get fun s =>
  let m := s.met
  let batt := s.bit F.MET_STAT_BATT
  let tick (on : Bool) (n : Nat) : Nat × Nat := if on then (if n = 7999 then (0, 2 ^ 32) else (n + 1, 0)) else (n, 0)
  let a := tick batt m.battN
  let b := tick cut m.cutN
  Op.all
    [ Op.met fun m => { m with
        battN := a.1, cutN := b.1, regs := addAll m.regs [(36, a.2), (37, b.2)]
        cutHeld := if cut then m.cutHeld + 1 else 0, cutTold := cut && m.cutTold
        residHeld := if resid then m.residHeld + 1 else 0, residTold := resid && m.residTold },
      Op.set F.MET_THEFT_STAT_SUPPLYNOW (bit01 cut),
      Op.set F.MET_THEFT_STAT_RESIDNOW (bit01 resid) ]

/-- The residual current of a sample. -/
def residAt (h : List (Vector Int 8)) (k : Nat) : Int := histAt h 3 k + histAt h 4 k + histAt h 5 k + histAt h 6 k

/-- Forms a sample's quantities and accumulates them. -/
def Op.measureSample (raw : Vector (BitVec 24) 8) : Op := Op.get fun s =>
  let m := s.met
  let cal : Vector (Int × (Int × Int)) 8 :=
    Vector.ofFn fun c => if s.chanLive c.val then s.calibrate c raw[c] else (0, (0, 0))
  let h := (cal.map (·.1) :: m.hist).take 256
  let cyc := nextCycle m s.refCh (cal[s.refCh]).1
  let f := (Config.metFrequency (h.map fun v => v[s.refCh])).toNat
  let ok : Bool := match cyc.2 with
    | some n => 2000000 * 2000000 * n < squares n (histAt h s.refCh) && 45000 ≤ f && f ≤ 65000
    | none => false
  let n := if ok then max 1 (cyc.2.getD 160) else 160
  let adds := (if s.bit F.MET_STAT_BATT then [] else s.energyAdds h n) ++ chargeAdds h n
  let above (q : Nat → Int) (level : Nat) : Bool := (level * 10000) ^ 2 * n < squares n q
  let cut := s.bit F.MET_STAT_BATT && ([3, 4, 5] : List (Fin 8)).any fun c => above (histAt h c) (s.fld F.MET_THEFT_LEVEL)
  let rms8 := rmsThousands (squares n (residAt h)) n
  let resid := s.fld F.MET_RESID_LEVEL != 0 && s.chen 6 && decide (s.fld F.MET_RESID_LEVEL * 10 < rms8)
  Op.all
    [ Op.met fun m => { m with
        last := cal.map (·.2), hist := h, cross := cyc.1, cycle := cyc.2, added := adds, regs := addAll m.regs adds },
      Op.set F.MET_STAT_FREQOK (bit01 ok),
      Op.set F.MET_FREQ_MHZ (if ok then f else 0),
      Op.each (List.finRange 8) fun c => Op.setReg (A.MET_RMS c.val) (rmsThousands (squares n (histAt h c)) n),
      Op.setReg (A.MET_RMS 8) rms8,
      Op.countSample cut resid ]

/-- A sample is lost (R364): it counts, event 8 is posted, and the powers of the one before are accumulated again. While settling
the one before accumulated nothing. -/
def Op.lostSample : Op :=
  Op.all
    [ Op.met fun m => { m with regs := addAll m.regs m.added, interval := m.interval.map fun i => { i with lost := true } },
      Op.inc A.MET_SAMP_LOST,
      Op.metEvent 8 0 0 ]

/-- A sample of the settling time is excluded from measurement (R351). -/
def Op.settleSample : Op := (Op.met fun m => { m with settle := m.settle + 1 }).andThen (Op.countSample false false)

/-- The code that a ones density of `ones` in `n` gives (R353): 100 % saturates at the largest code, and 0 % is the least. -/
def densityCode (ones n : Nat) : Int := min (2 ^ 23 - 1) (((2 * ones - n : Int) * 2 ^ 23).tdiv n)

/-- The count of samples in a row whose code shows a ones density above 99.9 %, or, negative, below 0.1 %. -/
def extremeRun (run : Int) (raw : BitVec 24) : Int :=
  if densityCode 999 1000 < raw.toInt then max 0 run + 1
  else if raw.toInt < densityCode 1 1000 then min 0 run - 1
  else 0

/-- Counts the samples in a row of extreme and of normal density, by channel; in battery current-only mode `MOD0` to `MOD2` are ignored
(R365), and their counts begin anew after it. -/
def Op.countDensity (raw : Vector (BitVec 24) 8) : Op := Op.get fun s =>
  let ignored (c : Fin 8) : Bool := s.bit F.MET_STAT_BATT && decide (c.val < 3)
  Op.met fun m => { m with
    extreme := Vector.ofFn fun c => if ignored c then 0 else extremeRun m.extreme[c] raw[c]
    calm := Vector.ofFn fun c => if !(ignored c) && extremeRun 0 raw[c] == 0 then m.calm[c] + 1 else 0 }

/-- A snapshot that is due is taken (R358). -/
def Op.takeSnap : Op := Op.get fun s =>
  Op.when s.met.snap
    ((Op.met fun m => { m with snap := false, bank := m.regs.map metInt }).andThen (Op.setReg A.MET_SNAP_NUM (s.met.num % 2 ^ 32)))

/-- Settling begins, and nothing measured before it counts. -/
def Op.settleStart : Op := (Op.met fun m => { m with settle := 0, hist := [], cross := none, cycle := none, added := [] }).andThen
  (Op.set F.MET_STAT_SETTLING 1)

/-- The end of a sample: battery current-only mode begins or ends with `VIN_GOOD` (R362, R365). In the mode a lost sample adds
again charge alone. -/
def Op.battMode : Op := Op.get fun s =>
  let batt := s.bit F.MET_STAT_BATT
  if !batt && !s.blk.pwr.vinGood then
    Op.all
      [ Op.met fun m => { m with interval := m.interval.map fun i => { i with batt := true } },
        Op.demandClose true s.now,
        Op.set F.MET_STAT_BATT 1,
        Op.inc A.MET_BATT_CNT,
        Op.met fun m => { m with battN := 0, added := m.added.filter (32 ≤ ·.1) },
        Op.metEvent 1 0 0 ]
  else if batt && s.blk.pwr.vinGood then
    Op.all [ Op.set F.MET_STAT_BATT 0, Op.metEvent 2 0 0, Op.settleStart, Op.demandOpen s.now true true ]
  else Op.skip

/-- MET_SAMPLE: the eight codes of one sample, or, with `lost`, a sample that the engine could not take in time. -/
def execMetSample (raw : Vector (BitVec 24) 8) (lost : Bool) (s : State) : Host.Outcome State Fault Refusal :=
  (Op.get fun s =>
    Op.when (s.running .met)
      (Op.all
        [ Op.countDensity raw,
          Op.when lost Op.lostSample,
          if s.bit F.MET_STAT_SETTLING then Op.settleSample
          else if lost then Op.countSample (s.bit F.MET_THEFT_STAT_SUPPLYNOW) (s.bit F.MET_THEFT_STAT_RESIDNOW)
          else Op.measureSample raw,
          Op.takeSnap,
          Op.met fun m => { m with num := m.num + 1 },
          Op.battMode ])).go s

/-- SETTLING_END: 20 ms of samples have passed since settling began (R351). -/
def execSettlingEnd (s : State) : Host.Outcome State Fault Refusal :=
  (Op.get fun s => Op.when (s.powered .met && 160 ≤ s.met.settle) (Op.set F.MET_STAT_SETTLING 0)).go s

/-- MODULATOR_FAULT: the ones density of a channel has been extreme for 1 ms (R353). -/
def execModulatorFault (c : Fin 8) (s : State) : Host.Outcome State Fault Refusal :=
  (Op.get fun s =>
    Op.when (s.running .met && s.chanLive c.val && 8 ≤ s.met.extreme[c].natAbs)
      (Op.all
        [ Op.set ⟨A.MET_MODFAULT, c.val, 1⟩ 1,
          Op.set ⟨A.MET_MODFAULT, 8 + c.val, 1⟩ 1,
          Op.inc A.MET_MODFAULT_CNT,
          Op.metEvent 5 c.val 0 ])).go s

/-- MODULATOR_RECOVER: 10 ms of normal density have passed. -/
def execModulatorRecover (c : Fin 8) (s : State) : Host.Outcome State Fault Refusal :=
  (Op.get fun s =>
    Op.when (s.running .met && natBits (s.fld F.MET_MODFAULT_NOW) c.val 1 == 1 && 80 ≤ s.met.calm[c])
      ((Op.set ⟨A.MET_MODFAULT, c.val, 1⟩ 0).andThen (Op.metEvent 6 c.val 0))).go s

/-- SUPPLY_CUT_THEFT: the condition of R366 has held for `HOLD` seconds without a break. -/
def execSupplyCutTheft (s : State) : Host.Outcome State Fault Refusal :=
  (Op.get fun s =>
    Op.when (s.running .met && !s.met.cutTold && s.fld F.MET_THEFT_HOLD * 8000 ≤ s.met.cutHeld)
      (Op.all [ Op.met fun m => { m with cutTold := true }, Op.set F.MET_THEFT_STAT_SUPPLYCUT 1, Op.metEvent 3 0 0 ])).go s

/-- RESIDUAL_THEFT: the condition of R367 has held for `HOLD` seconds without a break. -/
def execResidualTheft (s : State) : Host.Outcome State Fault Refusal :=
  (Op.get fun s =>
    Op.when (s.running .met && !s.met.residTold && s.fld F.MET_RESID_HOLD * 8000 ≤ s.met.residHeld)
      (Op.all [ Op.met fun m => { m with residTold := true }, Op.set F.MET_THEFT_STAT_RESIDUAL 1, Op.metEvent 4 0 0 ])).go s

/-! ### Snapshot and preset (R358, R359) -/

/-- `SNAP` of `MET_CMD`. -/
def Op.metSnap : Op := Op.met fun m => { m with snap := true }

/-- SNAP. -/
def execSnap (s : State) : Host.Outcome State Fault Refusal := (Op.on .met Op.metSnap).go s

/-- The register that `MET_ESEL` names. -/
def State.metSel (s : State) : Fin 38 := Fin.ofNat 38 (min 37 (s.fld F.MET_ESEL_INDEX))

/-- A write of `MET_ESEL`: larger values read as 37. -/
def Op.eselWrite (v : Word) : Op := Op.set F.MET_ESEL_INDEX (min 37 (natBits v.toNat 0 6))

/-- A read of `MET_EVAL_LO` (RL): the low word of the snapshot, and the high word into `_HI`. -/
def Op.evalRead : Op := Op.get fun s =>
  (Op.setReg A.MET_EVAL_LO (s.met.bank[s.metSel] % 2 ^ 32)).andThen (Op.setReg A.MET_EVAL_HI (s.met.bank[s.metSel] / 2 ^ 32 % 2 ^ 32))

/-- `PRESET` while `RUN` reads 0; R488 names no kind for its record, so the kind is a free value (log entry 14). -/
def Op.metPreset : Op := Op.get fun s =>
  let v := (s.reg A.MET_PSET_HI).toNat * 2 ^ 32 + (s.reg A.MET_PSET_LO).toNat
  Op.all
    [ Op.met fun m => { m with regs := m.regs.set s.metSel (v * 2 ^ 32) },
      Op.metEvent 9 s.metSel.val 0,
      Op.draw fun n => Op.log ((Config.freeDword n).toNat % 2 ^ 16) Block.met.num 0 s.metSel.val ]

/-- PRESET: a write of 1 to `MET_CMD.PRESET`, refused while `RUN` reads 1. -/
def execPreset (s : State) : Host.Outcome State Fault Refusal :=
  (Op.on .met (Op.get fun s =>
    if s.bit F.MET_CTRL_RUN then Op.refuseStopOnly .met A.MET_CMD 2 else Op.metPreset)).go s

/-! ### The committed image (R369 to R371) -/

/-- MET's image with a sequence number: the registers with their fractions, the flags, the number, the CRC-32. The spec gives the
contents and not the order (log entry 15). -/
def State.metImage (s : State) (seq : Nat) : List Byte :=
  let body := s.met.regs.toList.flatMap (leBytes 12)
    ++ leBytes 2 (bit01 (s.bit F.MET_THEFT_STAT_SUPPLYCUT) + bit01 (s.bit F.MET_THEFT_STAT_RESIDUAL) * 2 + s.fld F.MET_MODFAULT_SEEN * 2 ^ 8)
    ++ leBytes 2 0 ++ leBytes 4 seq
  body ++ leBytes 4 (crc32 (body.map (·.toNat))) ++ leBytes 44 0

/-- The sequence number of an area, if its image is valid. -/
def metSeq : Option (List Byte) → Option Nat
  | none => none
  | some bs =>
    if leNat ((bs.drop 464).take 4) = crc32 ((bs.take 464).map (·.toNat)) then some (leNat ((bs.drop 460).take 4)) else none

/-- The registers, flags and number of an image. -/
def Op.metLoad (bs : List Byte) : Op :=
  let seq := leNat ((bs.drop 460).take 4)
  let fl := leNat ((bs.drop 456).take 2)
  Op.all
    [ Op.met fun m => { m with
        regs := Vector.ofFn fun i => leNat ((bs.drop (12 * i.val)).take 12), seq := seq, fresh := true },
      Op.set F.MET_THEFT_STAT_SUPPLYCUT (natBits fl 0 1),
      Op.set F.MET_THEFT_STAT_RESIDUAL (natBits fl 1 1),
      Op.set F.MET_MODFAULT_SEEN (natBits fl 8 8),
      Op.set F.MET_STAT_RESTORED 1,
      Op.metEvent 7 0 seq ]

/-- MET_RESTORE: at the power-up of D1 the valid image with the higher number is restored. -/
def execMetRestore (s : State) : Host.Outcome State Fault Refusal :=
  (Op.on .met (Op.get fun s =>
    Op.when s.met.restore
      (Op.csOwner 0 512 fun a => Op.csOwner 0x200 512 fun b =>
        (Op.met fun m => { m with restore := false }).andThen
          (match metSeq a, metSeq b with
            | some i, some j => Op.metLoad ((if i < j then b else a).getD [])
            | some _, none => Op.metLoad (a.getD [])
            | none, some _ => Op.metLoad (b.getD [])
            | none, none => (Op.set F.MET_STAT_RESTFAIL 1).andThen (Op.metEvent 10 0 0))))).go s

/-! ### Start and stop (R350, R373) -/

/-- The cause for which `RUN` is refused, or 0. -/
def State.metCause (s : State) : Nat :=
  let en (e f : Fld) : Bool := !(s.bit e) || s.rillUsable (s.fld f)
  let ref := s.fld F.MET_CTRL_REF
  let hold (f : Fld) : Bool := 1 ≤ s.fld f && s.fld f ≤ 3600
  if !(en F.MET_RILLS_DMD_EN F.MET_RILLS_DMD) || !(en F.MET_RILLS_EVT_EN F.MET_RILLS_EVT)
    || (s.bit F.MET_RILLS_DMD_EN && !(s.isPacket (rillNo (s.fld F.MET_RILLS_DMD)))) then 1
  else if ref = 3 || !(s.chen ref) || (List.range 3).any (fun p => s.chen (p + 3) && !(s.chen p)) || s.fld F.MET_CTRL_CLK = 3
    || (List.range 8).any (fun c => s.fld (F.MET_CAL_PHASE_PHASE c) == 128) then 2
  else if 5 < s.fld F.MET_DMD_LEN then 3
  else if !(hold F.MET_THEFT_HOLD) || !(hold F.MET_RESID_HOLD) then 4
  else 0

/-- MET starts: samples are numbered from the start, settling begins where `ISO_EN` runs beside `MODCLK` (R351), and an interval
starts unless battery mode holds. -/
def Op.metStarted : Op := Op.get fun s =>
  Op.all
    [ Op.met fun m => { m with
        num := 0, last := Vector.replicate 8 (0, 0), added := [], extreme := Vector.replicate 8 0, calm := Vector.replicate 8 0 },
      Op.settleStart,
      Op.set F.MET_STAT_SETTLING (s.fld F.MET_CTRL_ISO),
      Op.when (!(s.bit F.MET_STAT_BATT)) (Op.demandOpen s.now false false) ]

/-- MET has stopped: the interval in progress closes as partial. -/
def Op.metStopped : Op := Op.get fun s => Op.demandClose true s.now

end Sys2Proof.Machine
end

