-- ==== Sys2Proof/Machine/RadSlot.lean ====
section
/-!
DEFINITION. The radio MAC in a timeslot (spec/08): the choice of cells, transmission, the end of a slot, start and stop.
-/
namespace Sys2Proof.Machine

/-! ### Keys -/

/-- The AES-128 key that RAD transmits with under entry `k`: its slot holds one for encryption only (R424). -/
def State.sealKey (s : State) (k : Nat) : Option (List Nat) :=
  match s.blk.gnt.slots.find? (·.1 == s.fld (F.RAD_KEY_CFG_ENC_SLOT k)) with
  | some (_, q) => if natBits q.attr 0 3 = 1 ∧ natBits q.attr 4 2 = 0 then some (nums q.key) else none
  | none => none

/-- The key RAD receives with under entry `k`: decryption only. -/
def State.openKey (s : State) (k : Nat) : Option (List Nat) :=
  match s.blk.gnt.slots.find? (·.1 == s.fld (F.RAD_KEY_CFG_DEC_SLOT k)) with
  | some (_, q) => if natBits q.attr 0 3 = 1 ∧ natBits q.attr 4 2 = 1 then some (nums q.key) else none
  | none => none

/-- Whether entry `k` has no counter to give: `FC` has reached `CEIL` and no block is armed. -/
def State.spent (s : State) (k : Nat) : Bool :=
  !((s.reg (A.RAD_KEY_FC k)).toNat < (s.reg (A.RAD_KEY_CEIL k)).toNat) && !(s.blk.rad.armed.getLsbD k)

/-- The module's extended address. -/
def State.ownExt (s : State) : Nat := (s.reg A.RAD_EXT_HI).toNat * 2 ^ 32 + (s.reg A.RAD_EXT_LO).toNat

/-- A secured PSDU: header with its auxiliary security header filled in, payload encrypted, MIC (R275). -/
def State.sealed (s : State) (k level fc : Nat) (key : List Nat) (hdr payload : List Byte) : List Byte :=
  let kmode := s.fld (F.RAD_KEY_CFG_IDMODE k)
  let aux := auxHeader level kmode fc (s.reg (A.RAD_KEY_SRC k)).toNat (s.fld (F.RAD_KEY_CFG_INDEX k))
  match parseMhr (some (secControl level kmode)) hdr with
  | some m =>
    let h := patch m.secAt aux hdr
    h ++ octets (ccmSeal key (nums (ccmNonce s.ownExt fc level)) (nums h) (nums payload) (micLen level))
  | none => hdr ++ payload

/-! ### The choice of a cell (R271) -/

/-- What a radio does with its cell. -/
inductive Use where
  | beacon
  | frame (f : RadFrame)
  | stall (k : Nat)
  | receive
  deriving DecidableEq, Repr

/-- Backoff exponent and cells to skip of a queue. -/
def State.backoff (s : State) (n : Nat) : Nat × Nat :=
  match s.blk.rad.backoff.find? (·.1 == n) with
  | some (_, b) => b
  | none => (s.fld F.RAD_BACKOFF_MINBE, 0)

def Op.setBackoff (n be skip : Nat) : Op :=
  Op.rad fun r => { r with backoff := (n, be, skip) :: r.backoff.filter (·.1 != n) }

/-- Whether a sleepy neighbour is in its hold (R290). -/
def State.holding (s : State) (n asn : Nat) : Bool := s.blk.rad.holds.any fun h => h.1 == n && asn ≤ h.2

/-- What a transmit cell of radio `r` may send at an ASN. -/
def State.txUse (s : State) (asn r : Nat) (c : DWord) : Option Use :=
  if cellAdv c && s.bit F.RAD_EB_EN then
    if s.bit F.RAD_EB_SECURE then
      if s.spent (s.fld F.RAD_EB_KEY) then some (.stall (s.fld F.RAD_EB_KEY))
      else if (s.sealKey (s.fld F.RAD_EB_KEY)).isSome then some .beacon else none
    else some .beacon
  else
    match s.blk.rad.queue.find? (·.nbr == cellNbr c) with
    | none => none
    | some f =>
      if s.inFlight f || s.frameLimit r < s.frameLen f r || (f.expire != 0 && f.expire < s.now)
          || s.nbrFlag f.nbr 2 != cellPolled c || (cellPolled c && !(s.holding f.nbr asn))
          || (cellShared c && (s.backoff f.nbr).2 != 0) then none
      else if f.key = 0xFF then some (.frame f)
      else if f.fc.isNone && s.spent f.key then some (.stall f.key)
      else if (s.sealKey f.key).isSome then some (.frame f)
      else none

/-- The cells of radio `r` at an ASN, lower slotframe and lower index first. -/
def Bank.cellsAt (b : Bank) (asn r : Nat) : List DWord :=
  let at' (sf : Nat) : List DWord := b.cells.filter fun c =>
    cellFrame c == sf && cellRadio c == r && b.frames.getD sf 0 != 0 && asn % b.frames.getD sf 0 == cellSlot c
  at' 0 ++ at' 1 ++ at' 2 ++ at' 3

/-- The cell of radio `r` at an ASN, with what it is used for; with the radio gate closed no transmit cell is used (R378). -/
def State.pick (s : State) (b : Bank) (asn r : Nat) : Option (DWord × Use) :=
  let cs := b.cellsAt asn r
  match cs.findSome? fun c => if cellTx c && !s.blk.rad.mute then (s.txUse asn r c).map fun u => (c, u) else none with
  | some p => some p
  | none => (cs.find? cellRx).map fun c => (c, .receive)

/-- The channel of a cell. -/
def Bank.chan (b : Bank) (asn : Nat) (c : DWord) : Nat :=
  let hop := if cellRadio c = 2 then b.ghz else b.sub
  hop.getD ((asn + cellOff c) % max 1 hop.length) 0

def Use.sends : Use → Bool
  | .receive => false
  | _ => true

/-- Whether radio 1's cell may run beside radio 0's (R272). -/
def State.dualOk (s : State) (b : Bank) (asn : Nat) (p0 p1 : DWord × Use) : Bool :=
  let c0 := b.chan asn p0.1
  let c1 := b.chan asn p1.1
  p0.2.sends == p1.2.sends && s.fld F.RAD_PHY_SEP ≤ max c0 c1 - min c0 c1
    && (cellNbr p0.1 != cellNbr p1.1 || cellNbr p0.1 == bcast)

/-! ### What a radio does in its cell -/

def Op.setAct (r : Fin 3) (a : RadioAct) : Op := Op.rad fun q => { q with acts := q.acts.set r a }

/-- A frame leaves the antenna, with its FCS (R275). -/
def Op.onAir (r : Fin 3) (frame : List Byte) (chan : Nat) (sof : Int) : Op := Op.get fun s =>
  Op.rad fun q => { q with sent := q.sent.set r (some ⟨frame ++ fcsOf (s.fcsLen r.val) frame, chan, sof⟩) }

/-- The air time of a PSDU after its delimiter, in ns. -/
def State.airNs (s : State) (r : Fin 3) (len : Nat) : Nat :=
  if r = 2 then (1 + len) * 32000 else (2 + len) * 8 * 1000000 / (50 * (s.fld F.RAD_PHY_RATE + 1))

/-- When the acknowledgement of a frame of `len` PSDU bytes is due (R273 step 4). -/
def State.ackAt (s : State) (r : Fin 3) (sof : Int) (len : Nat) : Int := sof + s.airNs r len + s.fld F.RAD_TMPL_B_ACKDELAY * 1000

/-- A beacon with ASN and join metric patched in. The spec does not say what the module's own join metric is: a free value
(log entry 11). -/
def patchBeacon (asn metric : Nat) (hlen : Nat) (bs : List Byte) : List Byte :=
  match syncAt (bs.length + 1) hlen bs with
  | some o => patch o (leBytes 5 asn ++ leBytes 1 metric) bs
  | none => bs

/-- The enhanced beacon is sent (R268, R269), unless it exceeds the frame limit of its radio (R273). -/
def Op.sendBeacon (r : Fin 3) (asn chan : Nat) (sof : Int) : Op := Op.get fun s =>
  let k := s.fld F.RAD_EB_KEY
  Op.readBytes Block.rad.num (s.reg A.RAD_EB_TPL).toNat (s.fld F.RAD_EB_LEN) fun
    | none => Op.set F.RAD_ERR_TXBUS 1
    | some tpl => Op.draw fun i =>
      let sc := if s.bit F.RAD_EB_SECURE then some (secControl 5 (s.fld (F.RAD_KEY_CFG_IDMODE k))) else none
      let hlen := ((parseMhr sc tpl).map (·.len)).getD tpl.length
      let bs := patchBeacon asn ((Config.freeDword i).toNat % 256) hlen tpl
      let size := tpl.length + (if s.bit F.RAD_EB_SECURE then micLen 5 else 0) + s.fcsLen r.val
      if s.frameLimit r.val < size then Op.skip
      else if s.bit F.RAD_EB_SECURE then
        Op.takeCounter k fun
          | some fc => match s.sealKey k with
            | some key => Op.onAir r (s.sealed k 5 fc key (bs.take hlen) (bs.drop hlen)) chan sof
            | none => Op.skip
          | none => Op.skip
      else Op.onAir r bs chan sof

/-- Tells a sleepy neighbour of pending data: the hold runs from this slot (R290). -/
def Op.hold (n asn : Nat) : Op := Op.get fun s =>
  Op.rad fun r => { r with holds := (n, asn + s.fld F.RAD_SLEEPY_HOLD) :: r.holds.filter (·.1 != n) }

/-- Sends a queued frame: its first attempt takes a counter and a sequence number, which later ones reuse (R276). -/
def Op.sendFrame (r : Fin 3) (f : RadFrame) (c : DWord) (asn chan : Nat) (sof : Int) : Op := Op.get fun s =>
  let hasSeq := natBits (leAt 0 2 f.hdr) 8 1 == 0
  let auto := natBits f.flags 1 1 == 1 && hasSeq
  let seq := if auto then some (f.seq.getD s.blk.rad.seq) else none
  let go (fc : Option Nat) : Op := Op.get fun s =>
    let g := { f with tries := f.tries + 1, fc := fc, seq := seq }
    let more := cellPolled c && 1 < (s.blk.rad.queue.countP fun q => q.nbr == f.nbr)
    let h := match seq with | some n => patch 2 (leBytes 1 n) f.hdr | none => f.hdr
    let h := if cellPolled c then withPending more h else h
    let psdu := match fc, s.sealKey f.key with
      | some v, some key => s.sealed f.key f.level v key h f.payload
      | _, _ => h ++ f.payload
    Op.all
      [ Op.rad fun q => { q with
          queue := q.queue.replace f g
          seq := if auto && f.seq.isNone then (q.seq + 1) % 256 else q.seq },
        Op.onAir r psdu chan sof,
        Op.when more (Op.hold f.nbr asn),
        if natBits f.flags 0 1 = 1 then
          Op.setAct r (.awaits f.nbr f.desc (cellShared c) (s.ackAt r sof (psdu.length + s.fcsLen r.val)))
        else (Op.setBackoff f.nbr (s.fld F.RAD_BACKOFF_MINBE) 0).andThen (Op.complete g 0) ]
  if f.key = 0xFF then go none
  else match f.fc with
    | some v => go (some v)
    | none => Op.takeCounter f.key fun
      | some v => go (some v)
      | none => Op.skip

/-- Opens the receive window of a cell (R285). A broadcast cell follows the time parent in relay role and has no prediction in
coordinator role. -/
def Op.openWindow (r : Fin 3) (c : DWord) (slot chan : Nat) (used : Bool) : Op := Op.get fun s =>
  let t : Int := s.now
  let n := if cellNbr c = bcast ∧ s.relay then s.parent else cellNbr c
  let start := (slot : Int) * s.slotNs + s.fld F.RAD_TMPL_A_TXOFF * 1000
  let expect := s.slotBase + start
  let own := s.ownBase t + start
  let beacon := s.relay && cellKeep c && (cellNbr c == bcast || cellNbr c == s.parent)
  let (g, cap) := if n < 512 then s.guardOf n t else (0, false)
  let half := if n < 512 then g * 1000 else s.fld F.RAD_TMPL_B_RXWAIT * 500
  (Op.when cap (Op.inc A.RAD_GUARD_CAP)).andThen
    (Op.setAct r (.listens n chan ((if s.relay && n == s.parent then expect else own) + s.pred n t) half expect own beacon false used))

/-- Whether radio `r` is being recalibrated (R292). -/
def State.calibrates (s : State) (r : Nat) : Bool := s.blk.rad.calRuns && s.blk.rad.cal == r

/-- Radio `r` runs its cell. `late` says that the frame was not in the baseband by its delimiter instant (R274). -/
def Op.runCell (b : Bank) (r : Fin 3) (slot : Nat) (late : Bool) (p : DWord × Use) : Op := Op.get fun s =>
  let asn := slot % 2 ^ 40
  let chan := b.chan asn p.1
  let sof : Int := s.ownBase s.now + (slot : Int) * s.slotNs + s.fld F.RAD_TMPL_A_TXOFF * 1000
  let calibrates := s.calibrates r.val
  (Op.when calibrates (Op.inc A.RAD_CAL_SKIP)).andThen
    (match p.2 with
      | .receive => Op.openWindow r p.1 slot chan calibrates
      | .stall k => Op.when (!calibrates) ((Op.inc A.RAD_FC_STALL).andThen (Op.exhaust k))
      | .beacon =>
        if calibrates then Op.skip
        else if late then Op.inc A.RAD_LATE else Op.sendBeacon r asn chan sof
      | .frame f =>
        if calibrates then Op.skip
        else if late then Op.inc A.RAD_LATE else Op.sendFrame r f p.1 asn chan sof)

/-- Shared cells at this ASN of queues that back off count one skipped cell each (R276). -/
def Op.skipShared (b : Bank) (asn : Nat) : Op := Op.get fun s =>
  let cs := [0, 1, 2].flatMap fun r => if natBits (s.fld F.RAD_CTRL_RADIO_EN) r 1 = 1 then b.cellsAt asn r else []
  Op.each ((cs.filter fun c => cellTx c && cellShared c).map cellNbr) fun n => Op.get fun s =>
    let (be, skip) := s.backoff n
    Op.when (skip != 0 && s.blk.rad.queue.any (·.nbr == n)) (Op.setBackoff n be (skip - 1))

/-! ### The end of a slot -/

/-- An attempt that was not acknowledged (R276, R277). -/
def Op.failed (n desc : Nat) (shared : Bool) : Op := Op.get fun s =>
  match s.blk.rad.queue.find? fun f => f.nbr == n && f.desc == desc && f.tries != 0 with
  | none => Op.skip
  | some f =>
    let be := min ((s.backoff n).1 + 1) (s.fld F.RAD_BACKOFF_MAXBE)
    (Op.when shared (Op.draw fun i => Op.setBackoff n be ((Config.freeDword i).toNat % 2 ^ be))).andThen
      (Op.when (f.retries < f.tries) (Op.complete f 1))

/-- The slot in progress ends: acknowledgements that did not come, beacons that were missed. -/
def Op.endSlot : Op := Op.get fun s =>
  (Op.rad fun q => { q with acts := Vector.replicate 3 .idle }).andThen
    (Op.each s.blk.rad.acts.toList fun
      | .awaits n d sh _ => Op.failed n d sh
      | .listens _ _ _ _ _ _ true false _ => Op.missBeacon
      | _ => Op.skip)

/-- The slots since slot 0, unwrapped. -/
def State.slotNow (s : State) : Option Nat :=
  let d := (s.now : Int) - s.ownBase s.now
  if d < 0 ∨ s.slotNs = 0 then none else some (d.toNat / s.slotNs)

/-- The slot in progress ends if the present one is another. -/
def Op.endPast : Op := Op.get fun s => Op.when (s.blk.rad.asn != s.slotNow) Op.endSlot

/-- Whether radio `r` idles although it has chosen a cell: it is being recalibrated, or the cell waits for counters (R281, R292). -/
def State.cellIdles (s : State) (r : Nat) (p : DWord × Use) : Bool :=
  s.calibrates r || (match p.2 with | .stall _ => true | _ => false)

/-- The queued frame that radio `r` sends with the cell it runs: none while it is recalibrated or where the frame came late. -/
def State.sends (s : State) (late : BitVec 3) (r : Nat) (p : DWord × Use) : Option RadFrame :=
  match p.2 with
  | .frame f => if s.calibrates r || late.getLsbD r then none else some f
  | _ => none

/-- The state as another radio finds it in the same slot: with `l` as the queued frames. -/
def State.queueing (s : State) (l : List RadFrame) : State := { s with blk := { s.blk with rad := { s.blk.rad with queue := l } } }

/-- The cells of one slot run, radio by radio. The cells of radios 0 and 1 are chosen together, and a neighbour that one of them sends to
gets no frame from radio 2 in the same slot (R272). Broadcast frames go out in their order: radio 1 takes the one after the frame that
radio 0 sends (R276). -/
def Op.runSlot (b : Bank) (slot : Nat) (late : BitVec 3) : Op := Op.get fun s =>
  let asn := slot % 2 ^ 40
  let en (r : Nat) : Bool := natBits (s.fld F.RAD_CTRL_RADIO_EN) r 1 == 1
  let p0 := if en 0 then s.pick b asn 0 else none
  let f0 := p0.bind (s.sends late 0)
  let p1 := if en 1 then (s.queueing (match f0 with
    | some f => if f.nbr = bcast then s.blk.rad.queue.erase f else s.blk.rad.queue
    | none => s.blk.rad.queue)).pick b asn 1 else none
  let clash := match p1, p0 with
    | some p, some q => !(s.cellIdles 0 q || s.cellIdles 1 p || s.dualOk b asn q p)
    | _, _ => false
  let sent := f0.toList ++ (if clash then none else p1.bind (s.sends late 1)).toList
  Op.all
    [ match p0 with | some p => Op.runCell b 0 slot (late.getLsbD 0) p | none => Op.skip,
      match p1 with
      | some p => if clash then Op.inc A.RAD_DUAL_CLASH else Op.runCell b 1 slot (late.getLsbD 1) p
      | none => Op.skip,
      Op.get fun s =>
        let free := s.blk.rad.queue.filter fun f => f.nbr == bcast || sent.all (·.nbr != f.nbr)
        match (if en 2 then (s.queueing free).pick b asn 2 else none) with
        | some p => Op.runCell b 2 slot (late.getLsbD 2) p
        | none => Op.skip ]

/-- The slot at the present ASN runs, once (R271). Bit r of `late` is the late rule of radio r. -/
def Op.radioSlot (late : BitVec 3) : Op :=
  Op.all
    [ Op.radFlushAll,
      Op.get fun s => Op.when (s.working .rad && (!s.relay || s.bit F.RAD_STAT_SYNCED))
        (match s.slotNow with
          | none => Op.skip
          | some slot => Op.when (s.blk.rad.asn != some slot)
            (Op.all
              [ Op.endSlot,
                Op.get fun s => Op.when (!s.relay || s.bit F.RAD_STAT_SYNCED)
                  (Op.all
                    [ Op.rad fun r => { r with asn := some slot, mute := s.gated 0 },
                      Op.bankSwitch (slot % 2 ^ 40),
                      Op.get fun s =>
                        let n := (s.blk.rad.bank.map fun b => b.frames.getD 0 0).getD 0
                        Op.when (s.bit F.OXB_CFG_AUTOSAFE && n != 0 && slot % 2 ^ 40 % n == 0) Op.safePoint,
                      Op.get fun s =>
                        match s.blk.rad.bank with
                        | some b => (Op.runSlot b slot late).andThen (Op.skipShared b (slot % 2 ^ 40))
                        | none => Op.skip ]) ])) ]

/-- At an ASN RAD chooses a cell per radio and runs it. -/
def execRadioSlot (late : BitVec 3) (s : State) : Host.Outcome State Fault Refusal := (Op.radioSlot late).go s

/-- Firmware adopts a time parent. -/
def execParentAdopt (n : BitVec 10) (s : State) : Host.Outcome State Fault Refusal :=
  (Op.on .rad ((Op.get fun s => Op.when (s.running .rad) Op.endPast).andThen (Op.parentWrite n.toNat))).go s

/-! ### Start and stop (R273, R295) -/

/-- Whether the timeslot template is accepted for a radio: every term in µs times twice the bit rate in kbit/s. -/
def State.templateOk (s : State) (r : Nat) : Bool :=
  let rate := if r = 2 then 250 else 50 * (s.fld F.RAD_PHY_RATE + 1)
  let bits := if r = 2 then (6 + 127 + 6 + 40) * 8 else (12 + s.fld F.RAD_PHY_MAXPSDU + 12 + 40) * 8
  rate * (2 * s.fld F.RAD_TMPL_A_TXOFF + s.fld F.RAD_TMPL_B_RXWAIT + 2 * s.fld F.RAD_TMPL_B_ACKDELAY
    + s.fld F.RAD_TMPL_C_ACKWAIT) + 2000 * bits ≤ 2 * rate * s.fld F.RAD_TMPL_A_SLOT

/-- The first breach that `RUN` is refused for, with its index: 1 template, 2 rills, 4 receive buffers, 6 key entries. The
schedule bank is checked as it is loaded. -/
def State.radCause (s : State) : Option (Nat × Nat) :=
  let classes := (List.range 8).filter fun c => s.bit (F.RAD_CLASS_EN c)
  let rest := [s.fld F.RAD_RILLS_TXDONE, s.fld F.RAD_RILLS_EVT, s.fld F.RAD_RX_CFG_DEFRILL]
    ++ (classes.filterMap fun c => if s.bit (F.RAD_CLASS_FAULT c) then none else some (s.fld (F.RAD_CLASS_RILL c)))
    ++ (if classes.any fun c => s.bit (F.RAD_CLASS_FAULT c) then [s.fld F.RAD_RX_CFG_FLT_RILL] else [])
  let req := s.fld F.RAD_RILLS_TXREQ
  let free := s.fld F.RAD_RILLS_RXFREE
  let a := (s.reg A.RAD_RXBUF_BASE).toNat
  let badKey := (List.range 8).find? fun k =>
    s.bit (F.RAD_KEY_CFG_VALID k) && s.fld (F.RAD_KEY_CFG_IDMODE k) != 1 && s.fld (F.RAD_KEY_CFG_IDMODE k) != 2
  if s.fld F.RAD_TMPL_A_SLOT < 1000 || s.fld F.RAD_TMPL_B_ACKDELAY < 300 || s.fld F.RAD_PHY_MAXPSDU = 0
      || [0, 1, 2].any (fun r => natBits (s.fld F.RAD_CTRL_RADIO_EN) r 1 == 1 && !(s.templateOk r)) then some (1, 0)
  else if !((req :: free :: rest).all s.rillUsable) || req = free || rest.contains req || rest.contains free then some (2, 0)
  else if a % 64 ≠ 0 || (regionOf a != .basin && regionOf a != .dram) || 4096 < s.fld F.RAD_RXBUF_CNT_COUNT then some (4, 0)
  else badKey.map fun k => (6, k)

/-- `RUN` is set from 0: the checks, the bank in use, and the role's first state; a relay that holds no slot timing scans. -/
def Op.radRun (start : Op) : Op := Op.get fun s =>
  match s.radCause with
  | some (c, i) => Op.radRefuse c i
  | none => Op.loadBank (s.fld F.RAD_STAT_BANK) fun
    | .inl i => Op.radRefuse 3 i
    | .inr b =>
      Op.all
        [ start,
          Op.rad fun r => { r with bank := some b, asn := none },
          Op.get fun s =>
            if !s.relay then
              Op.all [ Op.set F.RAD_STAT_SYNCED 1, Op.set F.RAD_STAT_SCANNING 0, Op.rad fun r => { r with timed := false } ]
            else Op.when (!s.blk.rad.timed) Op.startScan ]

/-- Whether the slot in progress is over, so that RAD may stop (R295). -/
def State.slotOver (s : State) : Bool := s.blk.rad.asn.isNone || s.blk.rad.asn != s.slotNow || s.bit F.RAD_STAT_SCANNING

/-- RAD has stopped at the end of the slot in progress; it scans no more. -/
def Op.radStopped : Op := Op.endSlot.andThen (Op.set F.RAD_STAT_SCANNING 0)

end Sys2Proof.Machine
end

