-- ==== Sys2Proof/Machine/Tsu.lean ====
section
/-!
DEFINITION. Network time (spec/09): the time base and its steps, the trackers and the servo, sources, pulse per second.
Offsets are held in 2⁻¹⁶ ns and rates in 2⁻¹⁶ ppb (R321).
-/
namespace Sys2Proof.Machine

def Op.tsu (f : Tsu → Tsu) : Op := Op.net fun n => { n with tsu := f n.tsu }

def State.tsu (s : State) : Tsu := s.blk.net.tsu

/-! ### Registers that show the servo -/

def stateFld (k : Fin 3) : Fld := ⟨A.TSU_STAT, 8 + 3 * k.val, 3⟩

/-- The state of a tracker: 0 IDLE, 1 ACQUIRE, 2 TRACK, 3 LOCKED, 4 HOLDOVER (R322). -/
def State.trkState (s : State) (k : Fin 3) : Nat := s.fld (stateFld k)

/-- The source in use: 0 free run, else 1 + tracker. -/
def State.source (s : State) : Nat := s.fld F.TSU_STAT_SEL

def State.selected (s : State) (k : Fin 3) : Bool := s.source == k.val + 1

/-- The tracker of a source. -/
def trackerOf (sel : Nat) : Option (Fin 3) := if h : 1 ≤ sel ∧ sel ≤ 3 then some ⟨sel - 1, by omega⟩ else none

/-- The registers and flags take the servo's present values (R322, R325). -/
def Op.tsuShow : Op := Op.get fun s =>
  let locked := match trackerOf s.source with
    | some k => s.trkState k == 3
    | none => false
  Op.all
    [ Op.set F.TSU_STAT_LOCKED (bit01 locked),
      Op.set F.TSU_STAT_GMOK (bit01 (locked && s.source == 3)),
      Op.setReg A.TSU_RATE (unsignedOf 32 (s.tsu.a / 256)),
      Op.each [0, 1, 2] fun (k : Fin 3) =>
        Op.all
          [ Op.setReg (A.TSU_T_X k.val) (unsignedOf 32 (clampS 32 (s.tsu.trk[k].x / 65536))),
            Op.setReg (A.TSU_T_Y k.val) (unsignedOf 32 (s.tsu.trk[k].y / 256)),
            Op.set (F.TSU_T_N_COUNT k.val) s.tsu.trk[k].n ] ]

/-! ### Events (R327) -/

def tsuEvt : EvtCfg := ⟨F.TSU_EVT_RILL, some F.TSU_EVT_EN, A.TSU_EVT_LOST, none⟩

def Op.tsuEvent (kind k : Nat) (detail : Int) : Op :=
  Op.postEvent .tsu tsuEvt (BitVec.ofNat 64 (kind + k * 2 ^ 8 + unsignedOf 31 (clampS 31 detail) * 2 ^ 32))

/-! ### Steps of the time base (R318, R319, R232, R267) -/

/-- A wait that a forward step carries past its instant ends at this tick with its lateness (R116). -/
def Op.stepWaits (old : Nat) : Op := Op.each (List.finRange 24) fun c => Op.get fun s =>
  match (s.core c).run with
  | .timeWait wd t => Op.when (old < t && t ≤ s.now) (Op.finish c fun k => k.wr wd (BitVec.ofNat 32 (min (s.now - t) (2 ^ 32 - 1))))
  | _ => Op.skip

/-- The time base changes by `z` ns on one tick; every block that holds instants is told. -/
def Op.timeStep (z : Int) : Op := Op.get fun s =>
  let old := s.now
  let move (t : Nat) : Nat := max 0 ((t : Int) + z).toNat
  Op.all
    [ Op.on .met (Op.metStep z),
      Op.corrStep z,
      Op.clk fun c => { c with tb := unsignedOf 64 ((c.tb : Int) + z) },
      Op.inc A.TSU_STEPS,
      Op.tsu fun t => { t with
        trk := t.trk.map fun k => { k with x := k.x + z * 65536, seen := move k.seen }
        ppsEdge := t.ppsEdge.map move
        ppsRef := move t.ppsRef
        ppsOut := t.ppsOut.map (· + z) },
      Op.tsuEvent 1 0 z,
      Op.flkStep z,
      Op.showStep z,
      Op.holdStep z,
      Op.netStep z,
      Op.on .rad (Op.get fun s => Op.when (!s.relay && 1000 < z.natAbs)
        (let e := unsignedOf 64 (s.slotBase + z)
         (Op.setReg A.RAD_ASN_EPOCH_LO (e % 2 ^ 32)).andThen (Op.setReg A.RAD_ASN_EPOCH_HI (e / 2 ^ 32)))),
      Op.rtcFollow z,
      Op.stepWaits old,
      Op.tsuShow ]

/-- The time base becomes set (R319). -/
def Op.firstSet : Op := Op.get fun s =>
  Op.when (!(s.bit F.TSU_STAT_SET)) ((Op.set F.TSU_STAT_SET 1).andThen (Op.tsuEvent 6 0 0))

/-- The step by −x that brings an offset to zero, in whole ns. -/
def stepFor (x : Int) : Int := -(x.tdiv 65536)

/-! ### The servo (R321) -/

def Op.trk (k : Fin 3) (f : Tracker → Tracker) : Op := Op.tsu fun t => { t with trk := t.trk.set k (f t.trk[k]) }

/-- `z` clamped to ± `m`. -/
def clampTo (m z : Int) : Int := max (-m) (min z m)

/-- steer(), from the offset `x` of the selected tracker; the rate is never above `RATEMAX` nor above 500 ppm (R317). -/
def Op.steer (k : Fin 3) (x : Int) : Op := Op.get fun s =>
  let p := clampTo (s.fld F.TSU_LIMITS_PHMAX * 65536) (x.tdiv (max 1 (s.fld F.TSU_SERVO_TAU)))
  let a := clampTo (min (s.fld F.TSU_LIMITS_RATEMAX) 500 * 1000 * 65536) (s.tsu.a - s.tsu.trk[k].y - p)
  Op.tsu fun t => { t with a := a, trk := t.trk.map fun q => { q with y := q.y + (a - t.a) } }

/-- The offset predicted at `t`. -/
def Tracker.pred (k : Tracker) (t : Int) : Int := k.x + (k.y * (t - k.t)).tdiv 1000000000

/-- measure(k, o, t) without the steering; the continuation gets the residual, if there is one. -/
def Op.measure (k : Fin 3) (o : Int) (t : Nat) (cont : Option Int → Op) : Op := Op.get fun s =>
  let q := s.tsu.trk[k]
  if q.n = 0 then (Op.trk k fun q => { q with x := o * 65536, y := 0, t := t, n := 1, seen := s.now }).andThen (cont none)
  else
    let pred := q.pred t
    let r := o * 65536 - pred
    (Op.trk k fun q => { q with
        x := pred + r / 2 ^ s.fld F.TSU_SERVO_KP
        y := q.y + ((r * 1000000000).tdiv ((t : Int) - q.t)) / 2 ^ s.fld F.TSU_SERVO_KI
        t := t, n := min (q.n + 1) 65535, seen := s.now }).andThen (cont (some r))

/-! ### Tracker states and switches (R322 to R324) -/

/-- A tracker enters a state: events 3 to 5 tell of lock and holdover. The measurements that R322 counts toward lock or its loss are
those made in the state: a state other than LOCKED begins the counts anew. -/
def Op.setTrk (k : Fin 3) (v : Nat) : Op := Op.get fun s =>
  let old := s.trkState k
  Op.all
    [ Op.set (stateFld k) v,
      Op.when (v != old && v != 3) (Op.trk k fun q => { q with inside := 0, outside := 0 }),
      Op.when (old == 3 && v != 3) (Op.tsuEvent 4 k.val 0),
      Op.when (old != 3 && v == 3) (Op.tsuEvent 3 k.val 0),
      Op.when (old != 4 && v == 4) (Op.tsuEvent 5 k.val 0) ]

/-- A tracker is no longer selected. -/
def Op.deselect : Op := Op.get fun s =>
  match trackerOf s.source with
  | some k => (Op.trk k fun q => { q with inside := 0, outside := 0 }).andThen (Op.when (s.trkState k == 3) (Op.setTrk k 2))
  | none => Op.skip

/-- The seamless switch to tracker `b` (R324). -/
def Op.switchTo (b : Fin 3) : Op := Op.get fun s =>
  let x := s.tsu.trk[b].pred s.now
  let small := x.natAbs ≤ 50 * 65536
  let far := s.bit F.TSU_SW_STEPOK && s.fld F.TSU_SW_LIMIT * 1000 * 65536 < x.natAbs
  Op.all
    [ Op.deselect,
      Op.set F.TSU_STAT_SEL (b.val + 1),
      Op.set F.TSU_STAT_SWPEND 0,
      Op.tsu fun t => { t with want := none },
      Op.inc A.TSU_SWITCHES,
      Op.tsuEvent 2 b.val 0,
      if small then Op.when (stepFor x != 0) (Op.timeStep (stepFor x))
      else if far then (Op.timeStep (stepFor x)).andThen (Op.set F.TSU_ERR_SWSTEP 1)
      else (Op.setTrk b 2).andThen (Op.steer b x),
      Op.tsuShow ]

/-- The row of ACQUIRE in R322. -/
def Op.acquire (k : Fin 3) : Op := Op.get fun s =>
  let q := s.tsu.trk[k]
  let stepNs := (s.reg A.TSU_STEPNS).toNat
  Op.when (s.trkState k == 1 && q.n != 0)
    (if s.selected k && stepNs != 0 && stepNs * 65536 < q.x.natAbs then
      Op.firstSet.andThen (Op.timeStep (stepFor q.x))
     else if (s.selected k && q.x.natAbs ≤ stepNs * 65536) || ((!(s.selected k) || stepNs == 0) && s.fld F.TSU_LOCK_N ≤ q.n) then
      Op.setTrk k 2
     else Op.skip)

/-- The rows of TRACK and LOCKED, with the residual of the measurement. -/
def Op.lockRows (k : Fin 3) (r : Option Int) : Op := Op.get fun s =>
  let q := s.tsu.trk[k]
  let win := s.fld F.TSU_LOCK_NS * 65536
  let inWin := match r with
    | some r => r.natAbs ≤ win && q.x.natAbs ≤ win
    | none => false
  let inside := if s.selected k && inWin then min (q.inside + 1) 15 else 0
  let outside := if s.fld F.TSU_LOCK_UNNS * 65536 < q.x.natAbs then min (q.outside + 1) 3 else 0
  Op.all
    [ Op.trk k fun q => { q with inside := inside, outside := outside },
      if s.trkState k = 2 then Op.when (s.selected k && s.fld F.TSU_LOCK_N ≤ inside) (Op.setTrk k 3)
      else Op.when (s.trkState k == 3 && outside == 3) (Op.setTrk k 2) ]

/-- A switch that waits for a tracker is made once that tracker tracks. -/
def Op.pendingSwitch : Op := Op.get fun s =>
  match s.tsu.want.bind trackerOf with
  | some b => Op.when (s.trkState b == 2 || s.trkState b == 3) (Op.switchTo b)
  | none => Op.skip

/-- A measurement of a tracker takes effect while the TSU runs (R320 to R322). -/
def Op.measured (k : Fin 3) (o : Int) (t : Nat) : Op := Op.get fun s =>
  let q := s.tsu.trk[k]
  Op.when (s.running .tsu)
    (if q.n ≠ 0 ∧ t ≤ q.t then Op.set F.TSU_ERR_MEASORDER 1
     else Op.measure k o t fun r =>
      Op.all
        [ Op.get fun s => Op.when (s.selected k && r.isSome) (Op.steer k s.tsu.trk[k].x),
          Op.get fun s =>
            if s.trkState k = 0 ∨ s.trkState k = 4 then (Op.setTrk k 1).andThen (Op.acquire k)
            else if s.trkState k = 1 then Op.acquire k
            else Op.lockRows k r,
          Op.pendingSwitch,
          Op.tsuShow ])

/-- A source is requested (R323). -/
def Op.requestSource (sel : Nat) : Op := Op.get fun s =>
  let clear := (Op.tsu fun t => { t with want := none }).andThen (Op.set F.TSU_STAT_SWPEND 0)
  if sel = s.source then clear
  else match trackerOf sel with
    | none => Op.all [ clear, Op.deselect, Op.set F.TSU_STAT_SEL 0, Op.tsuShow ]
    | some b =>
      if s.source = 0 then Op.all [ clear, Op.set F.TSU_STAT_SEL sel, Op.setTrk b 1, Op.acquire b, Op.tsuShow ]
      else if s.trkState b = 2 ∨ s.trkState b = 3 then Op.switchTo b
      else (Op.tsu fun t => { t with want := some sel }).andThen (Op.set F.TSU_STAT_SWPEND 1)

/-- A write of `TSU_SRC`: `SEL` is requested at once while the TSU runs, else when it starts. -/
def Op.selWrite (sel : Nat) : Op := (Op.set F.TSU_SRC_SEL sel).andThen
  (Op.get fun s => Op.when (s.running .tsu) (Op.requestSource sel))

def execSourceSelect (sel : BitVec 2) (s : State) : Host.Outcome State Fault Refusal :=
  (Op.on .tsu (Op.selWrite sel.toNat)).go s

/-! ### Commands -/

/-- The argument of `TSU_CMD`. -/
def State.tsuArg (s : State) : Nat := (s.reg A.TSU_ARG_HI).toNat * 2 ^ 32 + (s.reg A.TSU_ARG_LO).toNat

/-- `SET`. -/
def Op.timeSet : Op := Op.get fun s =>
  (if s.bit F.TSU_STAT_SET then Op.skip else Op.set F.TSU_STAT_SET 1).andThen
    ((Op.timeStep ((s.tsuArg : Int) - s.now)).andThen (Op.when (!(s.bit F.TSU_STAT_SET)) (Op.tsuEvent 6 0 0)))

/-- `STEP`. -/
def Op.stepCmd : Op := Op.get fun s => Op.timeStep (signedOf 64 s.tsuArg)

/-- Command 3 puts the selected tracker in ACQUIRE. -/
def Op.acquireCmd : Op := Op.get fun s =>
  match trackerOf s.source with
  | some k => Op.all [ Op.setTrk k 1, Op.acquire k, Op.tsuShow ]
  | none => Op.skip

def execTimeSet (s : State) : Host.Outcome State Fault Refusal := (Op.on .tsu Op.timeSet).go s
def execTimeStep (s : State) : Host.Outcome State Fault Refusal := (Op.on .tsu Op.stepCmd).go s
def execTrackerAcquire (s : State) : Host.Outcome State Fault Refusal := (Op.on .tsu Op.acquireCmd).go s

/-- A write of `TSU_Tk_MO_HI` submits a measurement; tracker 2 ignores it (R320). -/
def Op.submit3 (k : Fin 3) (hi : Word) : Op := Op.get fun s =>
  let two (lo : Nat) (hi : Nat) : Nat := hi * 2 ^ 32 + lo
  Op.when (k.val != 2)
    ((Op.putReg (A.TSU_T_MO_HI k.val) hi).andThen
      (Op.measured k (signedOf 64 (two (s.reg (A.TSU_T_MO_LO k.val)).toNat hi.toNat))
        (two (s.reg (A.TSU_T_MT_LO k.val)).toNat (s.reg (A.TSU_T_MT_HI k.val)).toNat)))

def execMeasurementSubmit (k : Fin 3) (hi : Word) (s : State) : Host.Outcome State Fault Refusal :=
  (Op.on .tsu (Op.submit3 k hi)).go s

/-- A tracker has had no measurement for its timeout: it holds over, and with `AUTO` the fallback is requested (R322, R323). -/
def execTrackerTimeout (k : Fin 3) (s : State) : Host.Outcome State Fault Refusal :=
  ((Op.get fun s =>
    let st := s.trkState k
    Op.when (s.running .tsu && st != 0 && st != 4
        && s.tsu.trk[k].seen + s.fld (F.TSU_T_CFG_TIMEOUT k.val) * 1000000 ≤ s.now)
      (Op.all
        [ Op.setTrk k 4,
          Op.when (s.selected k && s.bit F.TSU_SRC_AUTO) (Op.requestSource (s.fld F.TSU_SRC_FALLBACK)),
          Op.tsuShow ]))).go s

/-! ### Pulse per second (R320, R326) -/

/-- An edge on `PPS_IN` at the present tick; none reaches TSU while bank A is not usable (R519). -/
def execPpsInEdge (s : State) : Host.Outcome State Fault Refusal :=
  ((Op.get fun s =>
    let late := match s.tsu.ppsEdge with
      | some e => e + 500000000 ≤ s.now
      | none => true
    let o : Int := ((s.now : Int) - s.fld F.TSU_PPSI_DELAY + 500000000) % 1000000000 - 500000000
    Op.when (s.bankA && s.powered .tsu && s.bit F.TSU_PPSI_EN && late)
      (Op.all
        [ Op.tsu fun t => { t with ppsEdge := some s.now, ppsRef := s.now },
          Op.when (s.running .tsu)
            (Op.all
              [ Op.setReg (A.TSU_T_MT_LO 2) (s.now % 2 ^ 32), Op.setReg (A.TSU_T_MT_HI 2) (s.now / 2 ^ 32),
                Op.setReg (A.TSU_T_MO_LO 2) (unsignedOf 64 o % 2 ^ 32), Op.setReg (A.TSU_T_MO_HI 2) (unsignedOf 64 o / 2 ^ 32),
                Op.measured 2 o s.now ]) ]))).go s

/-- A second has passed without an edge. -/
def execPpsMiss (s : State) : Host.Outcome State Fault Refusal :=
  ((Op.get fun s =>
    Op.when (s.powered .tsu && s.bit F.TSU_PPSI_EN && s.tsu.ppsRef + 1000000000 ≤ s.now)
      ((Op.inc A.TSU_PPS_MISS).andThen (Op.tsu fun t => { t with ppsRef := t.ppsRef + 1000000000 })))).go s

/-- `PPS_OUT` rises at a second of the time base less its offset; a tick is up to 5 ns of the time base (R317). -/
def execPpsOutEdge (s : State) : Host.Outcome State Fault Refusal :=
  ((Op.get fun s =>
    let phase := ((s.now : Int) - signedOf 32 (s.reg A.TSU_PPSO_OFS).toNat) % 1000000000
    Op.when (s.powered .tsu && s.bit F.TSU_STAT_SET && s.bit F.TSU_PPSO_EN && phase < 5)
      (Op.tsu fun t => { t with ppsOut := some s.now }))).go s

/-- A write of `TSU_PPSO`: without `EN` the output stays low (R326). -/
def Op.ppsoWrite (plain : Op) : Op :=
  plain.andThen (Op.get fun s => Op.when (!(s.bit F.TSU_PPSO_EN)) (Op.tsu fun t => { t with ppsOut := none }))

/-- A write of `TSU_PPSI`: seconds without an edge count from the write that sets `EN` (R326). -/
def Op.ppsiWrite (plain : Op) : Op := Op.get fun s =>
  plain.andThen (Op.get fun t =>
    Op.when (!(s.bit F.TSU_PPSI_EN) && t.bit F.TSU_PPSI_EN) (Op.tsu fun q => { q with ppsRef := s.now }))

/-- `PPS_OUT` falls after its width. -/
def execPpsOutFall (s : State) : Host.Outcome State Fault Refusal :=
  ((Op.on .tsu (Op.get fun s =>
    match s.tsu.ppsOut with
    | some t => Op.when (t + s.fld F.TSU_PPSO_WIDTH * 1000000 ≤ s.now) (Op.tsu fun q => { q with ppsOut := none })
    | none => Op.skip))).go s

/-! ### The tick and start (R317, R329, R331) -/

/-- One 4 ns tick of the time base at the applied rate. -/
def Op.tbTick : Op :=
  (Op.get fun s => Op.when (s.domOn 12)
    (let f := s.tsu.frac + (4 * 2 ^ 32 + (4 * s.tsu.a * 65536).tdiv 1000000000).toNat
     (Op.clk fun c => { c with tb := (c.tb + f / 2 ^ 32) % 2 ^ 64 }).andThen (Op.tsu fun t => { t with frac := f % 2 ^ 32 })))

/-- The cause for which `RUN` is refused. -/
def State.tsuCause (s : State) : Nat :=
  if s.bit F.TSU_EVT_EN && s.fld F.TSU_EVT_RILL < 4 then 1
  else if s.bit F.TSU_SRC_AUTO && s.fld F.TSU_SRC_FALLBACK == 0 then 2 else 0

/-- What the TSU does once it runs: a source chosen while it was stopped is requested. -/
def Op.tsuStarted : Op := Op.get fun s => Op.requestSource (s.fld F.TSU_SRC_SEL)

end Sys2Proof.Machine
end

