-- ==== Sys2Proof/Machine/Reset.lean ====
section
/-!
DEFINITION. Power domains going off and on, and the resets of the module (spec/17: R500 to R502, R506, R510). The delays before a
reset and until a domain is usable are timing, which the model leaves out: a reset is made at once.
-/
namespace Sys2Proof.Machine

def Op.pwr (f : Power → Power) : Op := Op.blk fun b => { b with pwr := f b.pwr }

/-! ### Events of SYS (R514) -/

def sysEvt : EvtCfg := ⟨F.SYS_EVT_RILL, some F.SYS_EVT_EN, A.SYS_EVT_LOST, some 8⟩

/-- Posts an event of `SYS` while it runs: kind, and domain or core. -/
def Op.sysEvent (kind who : Nat) : Op := Op.get fun s =>
  Op.when (s.running .sys) (Op.postEvent .sys sysEvt (BitVec.ofNat 64 (kind + who * 2 ^ 8)))

/-! ### A domain goes off (R502) -/

/-- The blocks of a power domain. -/
def domBlocks (d : Nat) : List Block := allBlocks.filter fun b => b.domain == d

/-- What no register shows of a block, as its reset leaves it. -/
def Blocks.dropBlock (k : Blocks) : Block → Blocks
  | .sys => { k with pwr := { k.pwr with kick := k.clk.pulses, expired := none } }
  | .weir => { k with weir := Weir.reset }
  | .rill => { k with weir := Weir.reset }
  | .lamp => { k with lamp := Lamp.reset }
  | .corr => { k with corr := Corr.reset }
  | .pmap => { k with shows := { k.shows with ins := Show.reset.ins, walk := none, walked := none, disc := 0 } }
  | .pxp => { k with shows := { k.shows with ports := Show.reset.ports } }
  | .flk => { k with shows := { k.shows with flk := Flk.reset } }
  | .rad => { k with rad := Rad.reset, upd := { k.upd with code := Vector.replicate 3 none } }
  | .etha => { k with net := { Net.reset with tsu := k.net.tsu } }
  | .ethb => { k with net := { Net.reset with tsu := k.net.tsu } }
  | .tsu => { k with net := { k.net with tsu := Tsu.reset } }
  | .can => { k with can := Can.reset }
  | .met => { k with met := Met.reset }
  | .oxb => { k with oxb := Oxb.reset }
  | .upd => { k with upd := { Upd.reset with state := k.upd.state, recover := k.upd.recover, boot := k.upd.boot, code := k.upd.code } }
  | .gnt => { k with gnt := Gnt.reset }
  | .lcs => k
  | .mem => { k with memu := MemUnit.reset }
  | .bon => k
  | .recd => { k with rcd := { Recorder.reset with latched := k.rcd.latched } }
  | .sto => { k with memu := { k.memu with nor := none, norq := [] } }
  | .gpio => { k with pwr := { k.pwr with stamps := Vector.replicate 4 0, accepted := 0 } }
  | .svc => k
  | .drc => k

/-- A block's registers take their reset values, its events are lost, a stop in progress is over, and a packet it had open is cancelled
(R152). -/
def Op.dropBlock (b : Block) : Op :=
  Op.all
    [ Op.abandonBlockPackets b,
      Op.dropRegs b.base (b.base + 0x10000),
      Op.dropEvq b,
      Op.blk fun k => { (k.dropBlock b) with
        stopping := k.stopping &&& ~~~ BitVec.twoPow 25 b.num
        told := k.told.filter (· / 64 != b.num) } ]

/-- The cores of a cluster. -/
def clusterCores (k : Nat) : List CoreId := (List.finRange 24).filter fun c => clusterOf c == k

/-- A core loses its power: it leaves every waiting queue (R502), and its local memories are lost (R454). A refused store whose response
was on its way is logged all the same (R87). -/
def Op.dropCore (c : CoreId) : Op := Op.get fun s =>
  Op.all
    [ Op.each (s.core c).stores (Op.logStoreFault c),
      Op.core c fun _ => { Core.reset with run := .off },
      Op.weir fun w => { w with
        waiting := w.waiting.filter (·.1 != c),
        rills := w.rills.map fun r => { r with waiters := r.waiters.filter (· != c) } },
      Op.dropMem (localKey c.val 0) (localKey c.val 0x10000) ]

/-- The memories of a domain are lost. -/
def Op.dropMemory : Nat → Op
  | 9 => (Op.dropMem 0x10000000 0x10400000).andThen (Op.dropMem 0x20000000 0x20100000)
  | 10 => Op.dropMem (lampKey 0) (pxpKey 0)
  | 11 => Op.dropMem (pxpKey 0) (canKey 0)
  | 13 => Op.dropMem (nbrKey 0 0) (csKey 0)
  | 14 => Op.dropMem 0x80000000 0xF0000000
  | 15 => Op.dropMem (canKey 0) (nbrKey 0 0)
  | d => if 5 ≤ d ∧ d ≤ 8 then Op.each (clusterCores (d - 5)) Op.dropCore else Op.skip

/-- A domain goes off: its registers and memories are lost. A holder of the maintenance grant that loses its power releases it
(R466). -/
def Op.domDown (d : Nat) : Op :=
  Op.all
    [ Op.each (domBlocks d) Op.dropBlock,
      Op.dropMemory d,
      Op.pwr fun p => { p with dom := p.dom &&& ~~~ BitVec.twoPow 16 d },
      Op.set ⟨A.SYS_PWR_STAT, d, 1⟩ 0,
      Op.when (d == 13) (Op.releaseGrant 4),
      Op.when (d == 14) (Op.get fun s =>
        Op.when (s.fld F.MEM_MAINT_STAT_GRANT == 2) ((Op.set F.MEM_STAT_RETRAIN 0).andThen (Op.releaseGrant 2))) ]

/-! ### A domain comes on (R502) -/

/-- A domain becomes usable; its registers hold their reset values. The cores of a cluster start in the boot ROM. -/
def Op.domUp (d : Nat) : Op :=
  Op.all
    [ Op.pwr fun p => { p with dom := p.dom ||| BitVec.twoPow 16 d },
      Op.set ⟨A.SYS_PWR_STAT, d, 1⟩ 1,
      Op.when (5 ≤ d && d ≤ 8) (Op.each (clusterCores (d - 5)) fun c => Op.core c fun _ => Core.reset),
      Op.when (d == 12) (Op.get fun s =>
        Op.all [ Op.corrStep (-(s.now : Int)), Op.holdStep (-(s.now : Int)), Op.clk fun c => { c with tb := 0 }, Op.metFree ]),
      Op.when (d == 13) (Op.get fun s => Op.set F.RAD_PHY_BAND ((s.factory 0x14 1).headD 0)) ]

/-- A core waits in the dispatch TAKE at its pc (R98); it stands in the waiting queue of its group while it is enabled (R137). -/
def Op.waitTake (c : CoreId) : Op := Op.get fun s =>
  (Op.core c fun k => { k with run := .takeWait, takepc := k.pc }).andThen
    (Op.weir fun w => { w with
      waiting := w.waiting.filter (·.1 != c) ++ [(c, if s.coreEn c then some (s.groupOf c) else none)] })

/-! ### Resets of the module (R506, R510) -/

/-- The recorder's registers show what it holds. -/
def Op.recShow : Op := Op.get fun s =>
  Op.all
    [ Op.setReg A.REC_NEXT s.blk.rcd.next,
      Op.set F.REC_STAT_FIRSTFULL (bit01 (256 ≤ s.blk.rcd.next)),
      Op.set F.REC_STAT_WRAPPED (bit01 (256 + 4096 < s.blk.rcd.next)) ]

/-- D4 is reset while it keeps its power: the records and the sequence counter stay. -/
def Op.resetD4 : Op :=
  Op.all
    [ Op.each ((domBlocks 4).filter (· != .recd)) Op.dropBlock,
      Op.get fun s => (Op.dropBlock .recd).andThen (Op.rcd fun _ => { s.blk.rcd with dropped := 0 }),
      Op.recShow ]

/-- The domains that a reset of a kind powers off and on, D4 first. -/
def State.resetDomains (s : State) (kind : Nat) : List Nat :=
  match kind with
  | 1 => 4 :: [1, 2, 3] ++ (List.range 11).map (· + 5)
  | 2 => 4 :: (if s.domOn 1 then [2, 3] else [1, 2, 3]) ++ (List.range 11).map (· + 5)
  | 3 => 4 :: 3 :: (List.range 11).map (· + 5)
  | 7 => 4 :: 3 :: (List.range 11).map (· + 5)
  | _ => 3 :: (List.range 11).map (· + 5)

/-- Records latched in D0 are logged as soon as D4 is powered, before the start record (R488). -/
def Op.logLatched : Op :=
  Op.rcd fun q => { q with latched := [], queue := q.queue ++ q.latched }

/-- The start record, after the records that D0 has latched. -/
def Op.logStart : Op := Op.get fun s => Op.logLatched.andThen (Op.log 0x0001 0 0 (s.fld F.SYS_RST_CAUSE_KIND))

/-- A reset of the module of kind 1 to 7: domains off and on, D4 reset, then every domain is powered, also one that was off (R510), and `SYS_PERF.MV` is 800. The
supply flags of `SYS_STAT` follow the monitors; `ALIVE` is clear. The vault starts, the high-water marks return, the latched records
and the start record are logged, and the boot ROM has a slot to choose. While a commit runs the start record waits for its end, so
that the record of the commit stands before it (R475, R488). -/
def Op.moduleReset (kind : Nat) : Op := Op.get fun s =>
  let ds := s.resetDomains kind
  let off := (List.range 16).filter fun d => !(s.domOn d || ds.contains d)
  Op.all
    [ Op.when (kind == 1) (Op.bonReset.andThen (Op.set F.BON_STAT_TIME_LOST 1)),
      Op.when (!(ds.contains 4)) Op.resetD4,
      Op.each ds Op.domDown,
      Op.each (off ++ ds) Op.domUp,
      Op.putReg A.SYS_STAT (BitVec.ofNat 32 (bit01 s.blk.pwr.vinWarn + s.blk.pwr.bank.toNat * 4 + 0x80)),
      Op.set F.SYS_RST_CAUSE_KIND kind,
      Op.pwr fun p => { p with standby := false, wakeMask := 0, wake := false, expired := none, kick := s.pulses },
      Op.blk fun b => { b with upd := { b.upd with boot := true, recovery := none, running := none } },
      Op.vaultStart,
      Op.oxbRestore,
      Op.rcd fun q => { q with closed := false },
      Op.get fun s => Op.when (!(s.bit F.BON_STAT_COMMIT_BUSY)) Op.logStart ]

end Sys2Proof.Machine
end

