-- ==== Sys2Proof/Machine/Upd.lean ====
section
/-!
DEFINITION. Firmware slots (spec/13): what makes an image valid, the durable boot state, the choice of a slot, trials, commands of UPD,
compatibility, NOR protection, ROM recovery.
-/
namespace Sys2Proof.Machine

/-! ### Images (R401 to R404) -/

/-- The manifest of a slot. -/
def State.manifest (s : State) (n : Nat) : List Byte := s.store.bytes (imageBase n) 2048

/-- `n` bytes of a slot's body. -/
def State.body (s : State) (slot o n : Nat) : List Byte := s.store.bytes (imageBase slot + 2048 + o) n

/-- A segment entry: source, destination, length, kind. -/
structure Segment where
  src : Nat
  dest : Nat
  len : Nat
  kind : Nat
  deriving DecidableEq, Repr

def segments (m : List Byte) : List Segment :=
  (List.range (mf m 6 1)).map fun i =>
    let o := 0x60 + 16 * i
    ⟨mf m o 4, mf m (o + 4) 4, mf m (o + 8) 4, mf m (o + 12) 1⟩

/-- Whether a segment entry is as R402 and R404 state. -/
def segmentOk (bodyLen : Nat) (g : Segment) : Bool :=
  let r := regionOf g.dest
  let inside := regionOf (g.dest + g.len - 1) == r
  g.dest % 8 == 0 && g.len % 8 == 0 &&
    (match g.kind with
      | 0 => g.src % 8 == 0 && g.src + g.len ≤ bodyLen
          && (g.len == 0 || (inside && (r == .basin || r == .dram || r == .localI || r == .localD)))
      | 1 => g.src % 8 == 0 && g.src + g.len ≤ bodyLen && (g.len == 0 || (inside && r == .localI))
      | 2 => g.src == 0
      | _ => false)

/-- A component entry. -/
structure Component where
  policy : Nat
  target : Nat
  off : Nat
  len : Nat
  hash : List Byte
  deriving DecidableEq, Repr

def components (m : List Byte) : List Component :=
  (List.range (mf m 7 1)).map fun i =>
    let o := 0x160 + 64 * i
    ⟨mf m (o + 2) 1, mf m (o + 3) 1, mf m (o + 8) 4, mf m (o + 12) 4, (m.drop (o + 32)).take 32⟩

/-- Whether a component entry is as R403 and R404 state. -/
def componentOk (bodyLen id : Nat) (c : Component) : Bool :=
  id != 0 && c.off % 8 == 0 && c.off + c.len ≤ bodyLen &&
    (match c.policy with
      | 1 => c.target < 3 || c.target == 0x10 || c.target == 0x20 || c.target == 0x30
      | 2 => c.target == 0x10 || c.target == 0x20 || c.target == 0x30
      | _ => false)

/-- Conditions 1 and 2 of R404. -/
def manifestOk (m : List Byte) : Bool :=
  let nseg := mf m 6 1
  let ncomp := mf m 7 1
  let len := mf m 0x10 4
  mf m 0 4 == 0x7C1A5E3B && mf m 4 2 == 1 && 1 ≤ nseg && nseg ≤ 16 && ncomp ≤ 16 && len % 8 == 0 && len ≤ 25163776
    && mf m 0x14 4 < 0x4000 && isZero m (0x60 + 16 * nseg) (256 - 16 * nseg) && isZero m (0x160 + 64 * ncomp) (1024 - 64 * ncomp)
    && isZero m 0x580 512 && mf m 0x7C0 4 ≤ 1 && isZero m 0x7C4 60
    && (List.range nseg).all (fun i => isZero m (0x60 + 16 * i + 13) 3)
    && (segments m).all (segmentOk len)
    && ((List.range ncomp).zip (components m)).all fun p => componentOk len (mf m (0x160 + 64 * p.1) 2) p.2

/-- The result of checking the image of a slot without its components, as `UPD_VSTAT` codes it: 1 for a valid one. -/
def State.checkImage (s : State) (n : Nat) : Nat :=
  let m := s.manifest n
  let key := s.factory (if mf m 0x7C0 4 = 0 then 0x40 else 0x80) 64
  if !(manifestOk m) then 2
  else if !(ecdsaVerify key (sha256 (nums (m.take 0x780))) (nums ((m.drop 0x780).take 64))) then 3
  else if octets (sha256 (nums (s.body n 0 (mf m 0x10 4)))) != (m.drop 0x560).take 32 then 4
  else if mf m 0x0C 4 < s.upd.state.floor then 5
  else 1

/-- The first component of a slot whose hash does not match. -/
def State.badComponent (s : State) (n : Nat) : Option Nat :=
  (components (s.manifest n)).findIdx? fun c => octets (sha256 (nums (s.body n c.off c.len))) != c.hash

/-- The result of a verification: code, and the failing component for code 7. -/
def State.verifyImage (s : State) (n : Nat) : Nat × Nat :=
  match s.checkImage n with
  | 1 => match s.badComponent n with
    | some i => (7, i)
    | none => (1, 0)
  | r => (r, 0)

def State.slotValid (s : State) (n : Nat) : Bool := s.checkImage n == 1

def State.version (s : State) (n : Nat) : Nat := mf (s.manifest n) 8 4

/-! ### Events (R418) -/

def updEvt : EvtCfg := ⟨F.UPD_EVT_RILL, some F.UPD_EVT_EN, A.UPD_EVT_LOST, some 8⟩

/-- Posts an event; it waits until the rill is enabled. -/
def Op.updEvent (kind who detail : Nat) : Op := Op.get fun s =>
  let v : DWord := BitVec.ofNat 64 (kind + who * 2 ^ 8 + detail % 2 ^ 31 * 2 ^ 32)
  if s.bit F.UPD_EVT_EN then Op.postEvent .upd updEvt v else Op.enqueueEvent .upd updEvt v

/-! ### The boot state (R405, R419) -/

/-- A copy of the boot state. The spec gives the contents and not the order (log entry 15). -/
def bootCopy (b : BootState) (seq : Nat) : List Byte :=
  let opt (o : Option Nat) (lo : Nat) : Nat := match o with
    | some n => (1 + 2 * (n % 2)) * 2 ^ lo
    | none => 0
  let body := leBytes 1 (opt b.confirmed 0 + opt b.trial 2 + b.tries % 4 * 16 + b.failed.toNat * 64)
    ++ leBytes 1 (bit01 b.recovered) ++ leBytes 1 b.window ++ leBytes 1 0 ++ leBytes 4 b.floor ++ leBytes 4 seq ++ leBytes 48 0
  body ++ leBytes 4 (crc32 (nums body))

/-- The boot state that a copy spells, with its sequence number, where the copy is valid. -/
def bootState : Option (List Byte) → Option (Nat × BootState)
  | none => none
  | some m =>
    let f := mf m 0 1
    let opt (lo : Nat) : Option Nat := if natBits f lo 1 = 1 then some (natBits f (lo + 1) 1) else none
    if mf m 60 4 = crc32 (nums (m.take 60)) then
      some (mf m 8 4,
        { confirmed := opt 0, trial := opt 2, tries := natBits f 4 2, failed := BitVec.ofNat 2 (natBits f 6 2),
          floor := mf m 4 4, window := mf m 2 1, recovered := mf m 1 1 == 1 })
    else none

/-- The registers show the boot state. -/
def Op.updShow : Op := Op.get fun s =>
  let b := s.upd.state
  Op.all
    [ Op.set F.UPD_STAT_ACTIVE (b.confirmed.getD 0),
      Op.set F.UPD_STAT_ACTVALID (bit01 b.confirmed.isSome),
      Op.set F.UPD_STAT_TRIES b.tries,
      Op.set F.UPD_STAT_FAILA (bit01 (b.failed.getLsbD 0)),
      Op.set F.UPD_STAT_FAILB (bit01 (b.failed.getLsbD 1)),
      Op.set F.UPD_STAT_RECOVERED (bit01 b.recovered),
      Op.set F.UPD_STAT_ARMED (bit01 (b.trial.isSome && !(s.bit F.UPD_STAT_TRIAL))),
      Op.setReg A.UPD_SECFLOOR b.floor ]

/-- A change of the boot state, written to the older copy. -/
def Op.bootKeep (b : BootState) : Op := Op.get fun s =>
  let write := match bootState (s.csBytes 0x400 64), bootState (s.csBytes 0x440 64) with
    | some (i, _), some (j, _) => if i < j then Op.csWriteBytes 0x400 (bootCopy b (j + 1)) else Op.csWriteBytes 0x440 (bootCopy b (i + 1))
    | some (i, _), none => Op.csWriteBytes 0x440 (bootCopy b (i + 1))
    | none, some (j, _) => Op.csWriteBytes 0x400 (bootCopy b (j + 1))
    | none, none => Op.csWriteBytes 0x400 (bootCopy b 1)
  Op.all [ Op.upd fun u => { u with state := b }, write, Op.updShow ]

/-- The boot state is read at a start; a copy that is invalid is rewritten, with event 8. -/
def Op.bootLoad : Op :=
  Op.csOwner 0x400 64 fun a => Op.csOwner 0x440 64 fun b =>
    let bad (x : BootState) : Op := Op.all [ Op.set F.UPD_ERR_STATEBAD 1, Op.bootKeep x, Op.updEvent 8 0 0 ]
    match bootState a, bootState b with
    | some (i, x), some (j, y) => (Op.upd fun u => { u with state := if i < j then y else x }).andThen Op.updShow
    | some (_, x), none => bad x
    | none, some (_, y) => bad y
    | none, none => bad BootState.reset

/-! ### The choice of a slot (R405, R406) -/

/-- What the ROM does after the choice. -/
inductive BootAct where
  | boot (slot : Nat) (reason : Nat) (trial : Bool)
  | recovery
  deriving DecidableEq, Repr

/-- The last lines of the choice: the confirmed slot, else another that is valid and has not failed. -/
def chooseConfirmed (valid : Nat → Bool) (b : BootState) : BootState × BootAct :=
  let rest := match b.confirmed with
    | some n => [1 - n]
    | none => [0, 1]
  match b.confirmed.filter valid with
  | some n => (b, .boot n 0 false)
  | none =>
    match rest.find? fun n => valid n && !(b.failed.getLsbD n) with
    | some n => ({ b with confirmed := some n, recovered := false }, .boot n 5 false)
    | none => (b, .recovery)

/-- The trial of a slot is over as failed. -/
def failTrial (b : BootState) (t : Nat) : BootState :=
  { b with trial := none, failed := b.failed ||| BitVec.twoPow 2 t, recovered := false }

/-- The choice of R405: `counts` says that the last reset fails a trial. The last component is the event of a failed trial: 3 where
the confirmed slot boots, 4 where the trial is retried, 0 for none. A trial slot that is not valid has failed. -/
def chooseSlot (counts : Bool) (valid : Nat → Bool) (b : BootState) : BootState × BootAct × Nat :=
  let fallen (b : BootState) : BootState × BootAct × Nat :=
    match chooseConfirmed valid b with
    | (b', .boot n 0 t) => (b', .boot n 0 t, 3)
    | (b', a) => (b', a, 0)
  match b.trial with
  | none => let r := chooseConfirmed valid b; (r.1, r.2, 0)
  | some t =>
    let first := if b.recovered then 4 else 1
    if b.tries = 3 || !(valid t) then fallen (failTrial b t)
    else if counts || b.tries = 0 then
      let b := { b with tries := b.tries + 1 }
      if 1 < b.tries && b.confirmed.any valid then
        (failTrial b t, .boot (b.confirmed.getD 0) 2 false, 3)
      else if b.tries = 1 then (b, .boot t first true, 0)
      else (b, .boot t 3 true, 4)
    else (b, .boot t first true, 0)

/-! ### Placing an image (R402, R408, R411) -/

/-- Bytes placed at an address: local memory of the given cores, Basin or DRAM; elsewhere nothing is written. -/
def Op.place (cores : List CoreId) (dest : Nat) (bs : List Byte) : Op :=
  match regionOf dest with
  | .localI => Op.each cores fun c => Op.each (List.range (bs.length / 4)) fun i =>
      Op.writeLocal c (dest + 4 * i) (BitVec.ofNat 32 (leNat ((bs.drop (4 * i)).take 4)))
  | .localD => Op.each cores fun c => Op.each (List.range (bs.length / 4)) fun i =>
      Op.writeLocal c (dest + 4 * i) (BitVec.ofNat 32 (leNat ((bs.drop (4 * i)).take 4)))
  | .basin => Op.hwWrite dest bs
  | .dram => Op.hwWrite dest bs
  | _ => Op.skip

def Op.placeSegment (slot : Nat) (g : Segment) : Op := Op.get fun s =>
  match g.kind with
  | 0 => Op.place [0] g.dest (s.body slot g.src g.len)
  | 1 => Op.place (List.finRange 24) g.dest (s.body slot g.src g.len)
  | _ => Op.place [0] g.dest (List.replicate g.len 0)

/-- A policy 1 component is loaded into the baseband of its radio, or fails. -/
def Op.loadComponent (slot i : Nat) (c : Component) : Op := Op.get fun s =>
  let r : Fin 3 := Fin.ofNat 3 c.target
  let good := c.target < 3 && c.len ≤ Config.basebandSize r && octets (sha256 (nums (s.body slot c.off c.len))) == c.hash
  if good then Op.upd fun u => { u with code := u.code.set r (some (s.body slot c.off c.len)) }
  else
    Op.all
      [ Op.set ⟨A.UPD_COMPFAIL, i, 1⟩ 1,
        Op.upd fun u => { u with code := if c.target < 3 then u.code.set r none else u.code },
        Op.updEvent 6 i 0 ]

/-- Every policy 1 component of a slot is loaded. -/
def Op.loadComponents (slot : Nat) : Op := Op.get fun s =>
  let cs := components (s.manifest slot)
  Op.each (((List.range cs.length).zip cs).filter fun p => p.2.policy == 1) fun p => Op.loadComponent slot p.1 p.2

/-- The basebands are loaded again when D13 powers up while the module runs. -/
def Op.reloadComponents : Op := Op.get fun s =>
  match s.upd.running with
  | none => Op.skip
  | some n =>
    (Op.loadComponents n).andThen
      (Op.count A.UPD_COMP_RELOADS ((components (s.manifest n)).countP fun c => c.policy == 1))

/-- The image of a slot starts: segments, components, registers; core 0 at `ENTRY`, the other cores in dispatch TAKE (R408). -/
def Op.bootSlot (slot reason : Nat) (trial : Bool) : Op := Op.get fun s =>
  let m := s.manifest slot
  Op.all
    [ Op.each (segments m) (Op.placeSegment slot),
      Op.loadComponents slot,
      Op.set F.UPD_STAT_SLOT slot,
      Op.set F.UPD_STAT_TRIAL (bit01 trial),
      Op.set F.UPD_STAT_REASON reason,
      Op.setReg A.UPD_VERSION (mf m 8 4),
      Op.setReg A.UPD_SECVER (mf m 0x0C 4),
      Op.upd fun u => { u with running := some slot, trialAt := s.pulses, recovery := none },
      Op.updShow,
      Op.when (reason == 4) (Op.updEvent 5 slot (mf m 8 4)),
      Op.core 0 fun _ =>
        { (Core.reset.wr 4 (BitVec.ofNat 32 (slot + bit01 trial * 2 + reason * 2 ^ 8))).wr 5 (BitVec.ofNat 32 (imageBase slot)) with
          pc := BitVec.ofNat 32 (mf m 0x14 4) },
      Op.each (List.finRange 24) fun c =>
        Op.when (c != 0) ((Op.core c fun _ => { Core.reset with pc := Config.romTake }).andThen (Op.waitTake c)) ]

/-- The MAC address of port `x` in the factory data (R400). -/
def State.mac (s : State) (x : Fin 2) : List Byte := octets (s.factory (8 + 6 * x.val) 6)

/-- The interface of port A in recovery: `RIF`, which names one with 1 to 3, and otherwise disables recovery on Ethernet (R400; log entry
16). -/
def State.romIface (s : State) : Nat :=
  let n := (s.factory 0x15 1).headD 0
  if n < 4 then n else 0

def State.romEthernet (s : State) : Bool := s.romIface != 0

/-- In recovery port A runs interface `RIF`, and the ports have the addresses of the factory data (R400, R416; log entry 16). -/
def Op.romPorts : Op := Op.get fun s =>
  let own (x : Fin 2) : Op := (Op.setReg (A.ETH_MAC_LO x) (beAt 2 4 (s.mac x))).andThen (Op.setReg (A.ETH_MAC_HI x) (beAt 0 2 (s.mac x)))
  Op.all
    [ Op.on .etha (Op.when s.romEthernet
        ((own 0).andThen (Op.writeEthCfg 0 (BitVec.ofNat 32 s.romIface) (Op.set (F.ETH_CFG_IF 0) s.romIface)))),
      Op.on .ethb (own 1) ]

/-- The ROM enters recovery; in SCRAP it halts instead, and the recorder takes the refusal, for which R488 names no kind (log entry
4). -/
def Op.enterRecovery : Op := Op.get fun s =>
  if s.life = 4 then
    (Op.core 0 fun k => { k with run := .halted }).andThen
      (Op.draw fun n => Op.log ((Config.freeDword n).toNat % 2 ^ 16) Block.upd.num 0 0)
  else (Op.upd fun u => { u with recovery := some { path := none, slot := none, seq := none, hello := none } }).andThen Op.romPorts

/-- The start of the ROM after a reset of the module, once `COMMIT_BUSY` reads 0 (R405, R475). -/
def Op.bootChoice : Op :=
  Op.all
    [ Op.upd fun u => { u with boot := false },
      Op.bootLoad,
      Op.get fun s =>
        let kind := s.fld F.SYS_RST_CAUSE_KIND
        if s.upd.recover then (Op.upd fun u => { u with recover := false }).andThen Op.enterRecovery
        else
          let b := s.upd.state
          let r := chooseSlot (3 ≤ kind && kind ≤ 6) s.slotValid b
          let t := b.trial.getD 0
          Op.all
            [ Op.when (r.1 != b) (Op.bootKeep r.1),
              Op.when (r.2.2 != 0) (Op.updEvent r.2.2 t 0),
              Op.when (r.2.2 == 3) (Op.setReg A.UPD_ROLLBACKS 1),
              match r.2.1 with
              | .boot n reason trial => Op.bootSlot n reason trial
              | .recovery => Op.enterRecovery ] ]

/-- BOOT_SLOT_CHOICE. -/
def execBootSlotChoice (s : State) : Host.Outcome State Fault Refusal :=
  ((Op.on .upd (Op.get fun s => Op.when (s.upd.boot && !(s.bit F.BON_STAT_COMMIT_BUSY)) Op.bootChoice))).go s

/-! ### Commands (R407 to R409) -/

/-- A command refused with a cause of R409. -/
def Op.cmdRefuse (cause : Nat) : Op := (Op.set F.UPD_ERR_CMDREF 1).andThen (Op.set F.UPD_ERR_CMD_CAUSE cause)

/-- `VERIFY`. -/
def Op.verifyCmd (n : Nat) : Op := Op.get fun s =>
  if s.bit F.UPD_STAT_VBUSY then Op.cmdRefuse 4
  else if !(s.bit F.UPD_CTRL_RUN) then Op.cmdRefuse 5
  else (Op.set F.UPD_STAT_VBUSY 1).andThen (Op.upd fun u => { u with checking := some n, overtaken := false })

def execUpdVerify (slot : Fin 2) (s : State) : Host.Outcome State Fault Refusal := (Op.on .upd (Op.verifyCmd slot.val)).go s

/-- A verification ends with a result. -/
def Op.verifyEnd (n result comp : Nat) : Op :=
  Op.all
    [ Op.set F.UPD_STAT_VBUSY 0,
      Op.set F.UPD_VSTAT_RESULT result,
      Op.set F.UPD_VSTAT_SLOT n,
      Op.set F.UPD_VSTAT_COMP comp,
      Op.upd fun u => { u with checking := none },
      Op.setVerified n (result == 1),
      Op.updEvent 7 n result ]

/-- UPD_VERIFY_DONE. -/
def execUpdVerifyDone (s : State) : Host.Outcome State Fault Refusal :=
  ((Op.on .upd (Op.get fun s =>
    match s.upd.checking with
    | none => Op.skip
    | some n =>
      if s.upd.overtaken then Op.verifyEnd n 6 0
      else Op.verifyEnd n (s.verifyImage n).1 (s.verifyImage n).2))).go s

/-- `UPD_CTRL.RUN` is written with 0: a verification ends with result 0 (R419). -/
def Op.updStopped : Op := Op.get fun s =>
  match s.upd.checking with
  | none => Op.skip
  | some n => Op.verifyEnd n 0 0

/-- `ARM`. -/
def Op.armCmd (n : Nat) : Op := Op.get fun s =>
  let b := s.upd.state
  if !(s.upd.verified.getLsbD n) || b.confirmed == some n || s.upd.running == some n then Op.cmdRefuse 1
  else if s.bit F.UPD_STAT_TRIAL then Op.cmdRefuse 2
  else
    (Op.bootKeep { b with trial := some n, tries := 0, window := max 1 (s.fld F.UPD_TRIAL_MINUTES), recovered := false }).andThen
      (Op.updEvent 1 n (s.version n))

def execArm (slot : Fin 2) (s : State) : Host.Outcome State Fault Refusal := (Op.on .upd (Op.armCmd slot.val)).go s

/-- `CANCEL`. -/
def Op.cancelCmd : Op := Op.get fun s =>
  if !(s.bit F.UPD_STAT_ARMED) then Op.cmdRefuse 3 else Op.bootKeep { s.upd.state with trial := none, tries := 0 }

def execCancel (s : State) : Host.Outcome State Fault Refusal := (Op.on .upd Op.cancelCmd).go s

/-- `CONFIRM`. -/
def Op.confirmCmd : Op := Op.get fun s =>
  let b := s.upd.state
  let n := s.fld F.UPD_STAT_SLOT
  if !(s.bit F.UPD_STAT_TRIAL) then Op.cmdRefuse 3
  else
    Op.all
      [ Op.set F.UPD_STAT_TRIAL 0,
        Op.bootKeep
          { b with
            confirmed := some n, trial := none, tries := 0, failed := b.failed &&& ~~~ BitVec.twoPow 2 n,
            floor := max b.floor (mf (s.manifest n) 0x0C 4) },
        Op.updEvent 2 n (s.version n) ]

def execConfirm (s : State) : Host.Outcome State Fault Refusal := (Op.on .upd Op.confirmCmd).go s

/-- An update reset. -/
def Op.updateReset : Op := Op.moduleReset 5

/-- `REJECT`. -/
def Op.rejectCmd : Op := Op.get fun s => if !(s.bit F.UPD_STAT_TRIAL) then Op.cmdRefuse 3 else Op.updateReset

def execReject (s : State) : Host.Outcome State Fault Refusal := (Op.on .upd Op.rejectCmd).go s

/-- `RECOVER`. -/
def Op.recoverCmd : Op := Op.upd fun u => { u with recover := true }

def execUpdRecover (s : State) : Host.Outcome State Fault Refusal := (Op.on .upd Op.recoverCmd).go s

def execUpdReset (s : State) : Host.Outcome State Fault Refusal := (Op.on .upd Op.updateReset).go s

/-- A write of `UPD_CMD`: its commands in order, a reset last. -/
def Op.updCmd (v : Word) : Op := Op.get fun s =>
  let n := bit01 (v.getLsbD 8)
  Op.all
    [ Op.when (v.getLsbD 0) (Op.armCmd n),
      Op.when (v.getLsbD 1) Op.cancelCmd,
      Op.when (v.getLsbD 2) Op.confirmCmd,
      Op.when (v.getLsbD 4) Op.recoverCmd,
      Op.when (v.getLsbD 6) (Op.verifyCmd n),
      if v.getLsbD 3 && s.bit F.UPD_STAT_TRIAL && !(v.getLsbD 2) then Op.rejectCmd
      else (Op.when (v.getLsbD 3) Op.rejectCmd).andThen (Op.when (v.getLsbD 5) Op.updateReset) ]

/-- The instant at which the trial window ends, in pulses (R408). -/
def State.trialEnd (s : State) : Nat := s.upd.trialAt + s.upd.state.window * 60 * 32768

/-- What `UPD_LEFT` reads. -/
def State.trialLeft (s : State) : Nat := if s.bit F.UPD_STAT_TRIAL then (s.trialEnd - s.pulses) / 32768 else 0

/-- TRIAL_WINDOW_EXPIRE: the reset follows at the end of the real-time clock period in which the window expires, up to which a
`CONFIRM` is honoured (R407). -/
def execTrialWindowExpire (s : State) : Host.Outcome State Fault Refusal :=
  ((Op.on .upd (Op.get fun s => Op.when (s.bit F.UPD_STAT_TRIAL && s.trialEnd < s.pulses) Op.updateReset))).go s

/-! ### Compatibility (R412, R413) -/

/-- Whether requirement `r` is met by an offer of the vector. -/
def met (r : Nat) (v : List Nat) : Bool :=
  v.any fun o => natBits o 0 8 == natBits r 0 8 && natBits o 24 1 == 0 && natBits o 8 8 == natBits r 8 8 && natBits r 16 8 ≤ natBits o 16 8

/-- The lowest entry of `v` that is a requirement the vector `w` does not meet. -/
def unmet (v w : List Nat) : Option Nat :=
  v.findIdx? fun e => natBits e 0 8 != 0 && natBits e 24 1 == 1 && !(met e w)

/-- A write of `UPD_CC_CTL.GO`. Where requirements of both vectors fail, X is named. -/
def Op.compatCheck : Op := Op.get fun s =>
  let a := (s.reg A.UPD_CC_ADDR).toNat
  let r := regionOf a
  let put (result side entry : Nat) : Op :=
    Op.all [ Op.set F.UPD_CC_STAT_RESULT result, Op.set F.UPD_CC_STAT_SIDE side, Op.set F.UPD_CC_STAT_ENTRY entry ]
  Op.when (s.bit F.UPD_CTRL_RUN && !(s.bit F.UPD_STAT_CCBUSY))
    (if a % 64 ≠ 0 || (r != .basin && r != .dram) || regionOf (a + 127) != r then put 3 0 0
     else Op.readBytes Block.upd.num a 128 fun
      | none => put 3 0 0
      | some bs =>
        let v := (List.range 32).map fun i => mf bs (4 * i) 4
        let x := v.take 16
        let y := v.drop 16
        if v.any fun e => natBits e 25 7 != 0 then put 3 0 0
        else
          match unmet x y, unmet y x with
          | some i, _ => put 2 0 i
          | none, some j => put 2 1 j
          | none, none => put 1 0 0)

def execCompatCheck (s : State) : Host.Outcome State Fault Refusal := (Op.on .upd Op.compatCheck).go s

/-! ### Erasing and programming NOR (R410, R464) -/

/-- The operation is accepted, and asks for the grant. -/
def Op.norAccept (o : NorOp) : Op :=
  Op.all [ Op.norMark o, Op.memu fun m => { m with nor := some o }, Op.maintRequest 1 true fun _ => Op.skip ]

/-- An erase or program operation of STO on a span inside NOR (R410). One that comes while another is in hand follows it. -/
def Op.norOp (o : NorOp) : Op := Op.get fun s =>
  if o.len = 0 || 0x4000000 < o.off + o.len then Op.skip
  else if s.norProtected o.off o.len then Op.norRefuse o
  else if s.blk.memu.nor.isSome then (Op.norMark o).andThen (Op.memu fun m => { m with norq := m.norq ++ [o] })
  else Op.norAccept o

/-- NOR_ERASE_PROGRAM: `data` are the bytes to program; an erase has none. -/
def execNorEraseProgram (erase : Bool) (off len : BitVec 27) (data : List Byte) (s : State) : Host.Outcome State Fault Refusal :=
  ((Op.on .sto (Op.on .mem (Op.norOp
    (if erase then ⟨off.toNat, len.toNat, none⟩ else ⟨off.toNat, data.length, some data⟩))))).go s

/-! ### ROM recovery (R416, R417) -/

/-- The ROM's IPv4 address, most significant byte first: `RIP`, or 169.254 with the last two bytes of `MAC_A` (R400). -/
def State.romAddress (s : State) : List Byte :=
  let rip := octets (s.factory 0x18 4).reverse
  if rip.all (· == 0) then [169, 254] ++ (s.mac 0).drop 4 else rip

/-- A frame of the ROM on Ethernet (`eth`) as a datagram from port 6961, and on USB (`usb`) behind its two bytes; the spec does not say
how the ROM numbers its frames (log entry 16). -/
def Op.romSend (eth usb : Bool) (type : Nat) (payload : List Byte) : Op := Op.get fun s => Op.draw fun n =>
  let f := linkBytes type ((Config.freeDword n).toNat % 256) payload
  Op.upd fun u => { u with
    udp := if eth && s.romEthernet then some ⟨s.romIface, s.mac 0, s.romAddress, octets (s.factory 0x1C 4).reverse, 6961, f⟩ else u.udp
    usb := if usb then [0xA5, 0x5A] ++ f else u.usb }

/-- HELLO, once a second until BEGIN, on both paths. Entry reason and ROM version are free values (log entry 16). -/
def execHello (s : State) : Host.Outcome State Fault Refusal :=
  ((Op.on .upd (Op.get fun s =>
    match s.upd.recovery with
    | none => Op.skip
    | some r => Op.when (r.path.isNone && r.hello.all fun t => t + 32768 ≤ s.pulses)
        (Op.draw fun n =>
          (Op.upd fun u => { u with recovery := some { r with hello := some s.pulses } }).andThen
            (Op.romSend true true 0x11 (octets s.serial ++ leBytes 1 s.life ++ leBytes 3 (Config.freeDword n).toNat
              ++ leBytes 4 s.upd.state.floor)))))).go s

/-- The answer to a host frame on its path: its sequence number and a code. -/
def Op.romStatus (eth : Bool) (seq code : Nat) : Op := Op.romSend eth (!eth) 0x15 (leBytes 1 seq ++ leBytes 1 code)

/-- A host frame on a path (true: Ethernet, which `RIF` may have disabled): each gets one STATUS. The path that is not served has no
frame taken; in SCRAP every frame is refused; DATA and END before a BEGIN, and a frame out of order, are answered with code 1. -/
def Op.hostFrame (eth : Bool) (seq : Nat) (start : Bool) (k : Recovery → Op) : Op := Op.get fun s =>
  match s.upd.recovery with
  | none => Op.skip
  | some r =>
    Op.when (r.path.all (· == eth) && (!eth || s.romEthernet))
      (if s.life = 4 then Op.romStatus eth seq 6
       else if (r.path.isNone && !start) || (r.seq.any fun p => seq != (p + 1) % 256) then Op.romStatus eth seq 1
       else
        let r := { r with path := some eth, seq := some seq }
        (Op.upd fun u => { u with recovery := some r }).andThen (k r))

/-- An operation of the ROM on NOR, under a grant of its own, and the STATUS for it. Where NOR reports an error, the spec does not say
what the span then holds: free values (log entry 16). -/
def Op.romNor (eth : Bool) (seq : Nat) (o : NorOp) (fails : Bool) : Op :=
  Op.all
    [ Op.norAccept o, Op.releaseGrant 1,
      Op.when fails (Op.drawMany o.len fun f => Op.putBytes (0x0C000000 + o.off) (f.map fun v => BitVec.ofNat 8 v.toNat)),
      Op.romStatus eth seq (if fails then 5 else 0) ]

/-- The slot that recovery writes, once an invalid slot is no longer confirmed. -/
def State.recoverySlot (s : State) : Nat :=
  let b := s.upd.state
  match b.confirmed with
  | some n => 1 - n
  | none =>
    let good (n : Nat) : Bool := s.slotValid n && !(b.failed.getLsbD n)
    if good 0 && !(good 1) then 1 else 0

/-- BEGIN of an image of a length; with `fails`, NOR reports an error on the erase. -/
def execUpdBegin (eth : Bool) (seq : BitVec 8) (len : Word) (fails : Bool) (s : State) : Host.Outcome State Fault Refusal :=
  ((Op.on .upd (Op.hostFrame eth seq.toNat true fun r => Op.get fun s =>
    if 25165824 < len.toNat then Op.romStatus eth seq.toNat 2
    else
      Op.all
        [ Op.when (s.upd.state.confirmed.any fun n => !(s.slotValid n)) (Op.bootKeep { s.upd.state with confirmed := none }),
          Op.get fun s =>
            Op.all
              [ Op.upd fun u => { u with
                  recovery := some (if fails then { r with path := none, slot := none } else { r with slot := some (s.recoverySlot, len.toNat) }) },
                Op.romNor eth seq.toNat ⟨imageOff s.recoverySlot, imageSize, none⟩ fails ] ]))).go s

/-- DATA for an offset of the slot; with `fails`, NOR reports an error on the programming. -/
def execUpdData (eth : Bool) (seq : BitVec 8) (off : Word) (bytes : List Byte) (fails : Bool) (s : State) : Host.Outcome State Fault Refusal :=
  ((Op.on .upd (Op.hostFrame eth seq.toNat false fun r =>
    match r.slot with
    | none => Op.romStatus eth seq.toNat 1
    | some (n, len) =>
      if off.toNat % 8 ≠ 0 || bytes.length < 8 || 1016 < bytes.length || len < off.toNat + bytes.length then Op.romStatus eth seq.toNat 2
      else Op.romNor eth seq.toNat ⟨imageOff n + off.toNat, bytes.length, some bytes⟩ fails))).go s

/-- END: a valid image is armed, and the module resets once its STATUS has been sent: that is the last frame on its path. -/
def execUpdEnd (eth : Bool) (seq : BitVec 8) (s : State) : Host.Outcome State Fault Refusal :=
  ((Op.on .upd (Op.hostFrame eth seq.toNat false fun r => Op.get fun s =>
    match r.slot with
    | none => Op.romStatus eth seq.toNat 1
    | some (n, _) =>
      match (s.verifyImage n).1 with
      | 1 =>
        Op.all
          [ Op.bootKeep { s.upd.state with trial := some n, tries := 0, window := max 1 (s.fld F.UPD_TRIAL_MINUTES), recovered := true },
            Op.romStatus eth seq.toNat 0,
            Op.get fun s => Op.updateReset.andThen (Op.upd fun u => { u with udp := s.upd.udp, usb := s.upd.usb }) ]
      | c =>
        (Op.upd fun u => { u with recovery := some { r with path := none, slot := none } }).andThen
          (Op.romStatus eth seq.toNat (if c = 5 then 4 else 3))))).go s

/-- The cause for which `UPD_CTRL.RUN` is refused (R419). -/
def State.updCause (s : State) : Nat := if !(s.bit F.UPD_EVT_EN) || s.rillUsable (s.fld F.UPD_EVT_RILL) then 0 else 1

end Sys2Proof.Machine
end

