-- ==== Sys2Proof/Machine/Gnt.lean ====
section
/-!
DEFINITION. Gauntlet calls (spec/14, R125 to R128): acceptance, the checks of R427, the services of R428, answers and completions.
-/
namespace Sys2Proof.Machine

/-! ### Checks (R424 to R429) -/

/-- The bytes of a key of a type. -/
def keyBytes (type : Nat) : Nat := if type = 1 then 16 else 32

/-- An address that a call may name; the address of no bytes is not looked at. -/
def inMem (a : Nat) : Bool := regionOf a == .basin || regionOf a == .dram

/-- The fields of a block with their offsets, in order, and whether each is as its service wants it (R426 to R429): a field that the service
does not name is zero. -/
def Call.fieldChecks (c : Call) (life : Nat) : List (Nat × Bool) :=
  let v := c.svc
  let cipher := v == 0x10 || v == 0x11
  let tagOk := if c.mode = 1 then c.tag == 16
    else if c.mode = 3 || c.mode = 6 then c.tag == 0 || c.tag == 4 || c.tag == 8 || c.tag == 16
    else c.tag == 4 || c.tag == 8 || c.tag == 16
  let ivUsed := if cipher then (match c.mode with | 1 => 12 | 2 => 13 | 3 => 16 | _ => 0) else 0
  let tail := if v = 0x11 && (c.mode = 1 || c.mode = 2 || c.mode = 4 || c.mode = 5) then c.tag else 0
  let out := c.dst % 8 == 0 && inMem c.dst
  let token := life == 2 && v == 0x40
  [ (0x08, svcA v || c.slotA == 0),
    (0x09, svcB v || v == 0x22 || c.slotB == 0),
    (0x0A, if v = 0x10 then 1 ≤ c.mode && c.mode ≤ 6 else if v = 0x11 then 1 ≤ c.mode && c.mode ≤ 5 else c.mode == 0),
    (0x0B, if cipher then tagOk else c.tag == 0),
    (0x0C, if svcAttr v then attrOk c.attr else c.attr == 0),
    (0x0E, match v with
      | 0x33 => c.session ≤ 7
      | 0x34 => c.session ≤ 7
      | 0x31 => c.session ≤ 7 || (c.session == 0xFF && life != 2)
      | _ => c.session == 0),
    (0x0F, match v with
      | 3 => c.index ≤ 2
      | 0x30 => c.index ≤ 15
      | 0x32 => c.index ≤ 15
      | 0x40 => true
      | _ => c.index == 0),
    (0x10, if v = 2 || cipher || v = 0x24 then c.len == 0 || inMem c.src
      else if [3, 0x21, 0x23, 0x25, 0x30, 0x31, 0x33].contains v then inMem c.src
      else if v = 0x40 then !token || inMem c.src
      else c.src == 0),
    (0x14, match v with
      | 1 => 1 ≤ c.len && c.len ≤ 4096
      | 2 => true
      | 0x10 => if c.mode = 1 || c.mode = 2 then c.len ≤ 65536 else c.mode != 6 || c.len == 32
      | 0x11 => tail ≤ c.len && (c.mode > 2 || c.len ≤ 65536)
      | 0x21 => c.len == keyBytes (attrType c.attr)
      | 0x24 => c.len ≤ 256
      | _ => c.len == 0),
    (0x18, match v with
      | 3 => if c.index = 2 then inMem c.dst else c.dst == 0
      | 0x11 => 3 < c.mode || out
      | _ => if [1, 2, 0x10, 0x22, 0x26, 0x31, 0x32, 0x33].contains v then out else c.dst == 0),
    (0x20, if v = 3 then inMem c.aux else if cipher || v = 0x25 then c.auxLen == 0 || inMem c.aux else c.aux == 0),
    (0x24, cipher || v == 0x25 || c.auxLen == 0),
    (0x28, isZero (c.fields.getD []) (0x28 + ivUsed) (16 - ivUsed)),
    (0x38, if v = 0x32 then c.fld 0x38 1 ≤ 1 else c.fld 0x38 1 == 0),
    (0x39, isZero (c.fields.getD []) 0x39 7) ]

/-- Whether a key's usage and type serve the service (R424). -/
def Call.usageOk (c : Call) (attr : Nat) : Bool :=
  let t := attrType attr
  let u := attrUsage attr
  let fits := match c.mode with
    | 5 => t == 3
    | 6 => t == 4
    | _ => t == 1 || t == 2
  match c.svc with
  | 0x10 => u == 0 && fits
  | 0x11 => u == 1 && fits
  | 0x22 => u == 2
  | 0x23 => u == 2
  | 0x24 => u == 3 && t == 3
  | 0x25 => u == 3 && t == 4
  | 0x26 => t == 4
  | _ => true

/-- The first failure of steps 2 to 6 of R427, with its detail; 0 where there is none. -/
def State.callCheck (s : State) (c : Call) : Nat × Nat :=
  let life := s.life
  let a := s.slot c.slotA
  let b := s.slot c.slotB
  let taskOk (k : Option KeySlot) : Bool := k.all fun k => attrTask k.attr
  if c.fields.isNone then (8, 0xFFFF)
  else
    match (c.fieldChecks life).find? fun f => !f.2 with
    | some f => (8, f.1)
    | none =>
      if s.bit F.GNT_STAT_TRANSIT then (6, 8)
      else if !(svcState c.svc life) then (6, life)
      else if !c.sys && (svcSys c.svc || (svcA c.svc && !(taskOk a)) || ((svcB c.svc || c.svc == 0x22) && !(taskOk b))
          || (svcAttr c.svc && !(attrTask c.attr))) then (5, 0)
      else if svcA c.svc && a.isNone then (3, c.slotA)
      else if svcA c.svc && !(a.any fun k => c.usageOk k.attr) then (4, c.slotA)
      else if (svcB c.svc && (c.slotB < 4 || 240 ≤ c.slotB)) || (c.svc == 0x22 && !(b.any fun k => attrExport k.attr)) then (4, c.slotB)
      else (0, 0)

/-! ### Answers (R126 to R128) -/

/-- The status word. -/
def statusWord (result detail : Nat) : Word := BitVec.ofNat 32 (result + detail % 2 ^ 16 * 2 ^ 16)

/-- A bus fault of the Gauntlet's own access is reported with the address that faulted (R427). -/
def Op.blockBus (a : Nat) : Op := (Op.set F.GNT_ERR_BLOCKBUS 1).andThen (Op.log 0x000A Block.gnt.num a 0)

/-- The status doubleword goes to the call block, last of all output; a fault there makes the status that of a bus fault. -/
def Op.writeStatus (c : Call) (st : Word) (k : Word → Op) : Op :=
  Op.putDws c.blk [st.zeroExtend 64] fun
    | none => k st
    | some a => (Op.blockBus a).andThen (k (statusWord 8 0xFFFF))

/-- Replaces the call at a place. -/
def Op.setCall (i : Nat) (c : Call) : Op := Op.gnt fun g => { g with calls := g.calls.set i c }

/-- The call at a place leaves the Gauntlet. -/
def Op.leave (i : Nat) : Op :=
  (Op.gnt fun g =>
    { g with calls := g.calls.eraseIdx i, due := g.due.map fun p => (p.1, if i < p.2 then p.2 - 1 else p.2) }).andThen Op.gntShow

/-- A call ends with a status: the waiting core goes on with it, or the answer of a posted call is kept for its completion. -/
def Op.endCall (i result detail : Nat) : Op := Op.get fun s =>
  match s.gnt.calls[i]? with
  | none => Op.skip
  | some c =>
    let st := statusWord result detail
    let counted (st : Word) : Op := (Op.inc A.GNT_CALLS).andThen (Op.when (st &&& 0xFF != 0) (Op.inc A.GNT_REFUSED))
    if c.rill.isSome then (counted st).andThen (Op.setCall i { c with answer := some (st.zeroExtend 64) })
    else Op.writeStatus c st fun st =>
      Op.all
        [ counted st,
          Op.leave i,
          Op.core c.who fun k =>
            match k.run with
            | .callWait wd => (k.wr wd st).retire k.budgeted (k.pc + 4)
            | _ => k ]

/-- Whether the Gauntlet takes no more calls: it is stopped or asked to stop (R449). -/
def State.gntClosed (s : State) : Bool := !(s.running .gnt) || s.blk.stopping.getLsbD Block.gnt.num

/-- The Gauntlet takes a call: one for no service, or any while `RUN` reads 0, is answered as it comes. -/
def Op.acceptCall (c : Call) : Op := Op.get fun s =>
  let i := s.gnt.calls.length
  Op.all
    [ Op.gnt fun g => { g with calls := g.calls ++ [c] },
      Op.gntShow,
      if s.gntClosed then Op.endCall i 1 3 else Op.when (!(svcDefined c.svc)) (Op.endCall i 2 0) ]

/-- The Gauntlet receives a call of core `c` and reads its block, unless it refuses the call without; a fault there is reported (R427). -/
def Op.sendCall (c : CoreId) (service blk : Nat) (rill : Option RillNo) : Op := Op.get fun s =>
  let accept (fields : Option (List Byte)) : Op :=
    Op.acceptCall
      { svc := service, blk := blk, fields := fields, sys := (s.core c).sys, who := c, rill := rill, answer := none, tried := false, told := false }
  if s.gntClosed || !(svcDefined service) then accept none
  else Op.fetchBytes Block.gnt.num blk 64 fun
    | .ok bs => accept (some bs)
    | .error a => (Op.blockBus a).andThen (accept none)

/-- Cores that wait for room send their calls, the lowest-numbered core first (R126; log entry 37). -/
def Op.sendQueued : Op := Op.each (List.finRange 24) fun c => Op.get fun s =>
  match (s.core c).run with
  | .callQueue wd service blk =>
    Op.when (s.gnt.calls.length < 16)
      ((Op.core c fun k => { k with run := .callWait wd }).andThen (Op.sendCall c service blk none))
  | _ => Op.skip

/-- A call ends; what waited for it goes on. -/
def Op.answer (i result detail : Nat) : Op := Op.all [ Op.endCall i result detail, Op.vaultDue, Op.sendQueued ]

/-- GPOST_COMPLETION: the status of posted call `n` is written, and its item is pushed once the rill has room (R127).
A model choice (log entry 37): a packet-mode rill takes no such item, so a call that names one stays in flight until the rill changes. -/
def execGpostCompletion (n : Fin 16) (s : State) : Host.Outcome State Fault Refusal :=
  ((Op.on .gnt (Op.get fun s =>
    match s.gnt.calls[n.val]? with
    | some c =>
      match c.answer, c.rill with
      | some st, some r =>
        let v : DWord := BitVec.ofNat 64 c.blk
        Op.all
          [ Op.when (!c.tried) (Op.writeStatus c (loWord st) fun _ => Op.skip),
            match s.room r false 1 with
            | .ok => Op.all [ Op.rillPush r v, Op.leave n.val, Op.vaultDue, Op.sendQueued ]
            | .full =>
              (Op.when (!c.told) (Op.inc (A.RILL_FULLCNT r))).andThen (Op.setCall n.val { c with tried := true, told := true })
            | _ => Op.setCall n.val { c with tried := true } ]
      | _, _ => Op.skip
    | none => Op.skip))).go s

/-! ### Running a service (R427, R430) -/

/-- Whether call `i` may be performed: no earlier call that is not answered and no earlier act shares a slot with it; a change of the
life cycle waits until every earlier call has left, holds back every later call, and lets every later call be answered once it runs. -/
def State.callTurn (s : State) (i : Nat) (c : Call) : Bool :=
  s.bit F.GNT_STAT_TRANSIT
    || ((s.gnt.calls.take i).all (fun d => (d.answer.isSome || (d.svc != 0x40 && !(d.slots.any c.slots.contains))) && c.svc != 0x40)
      && s.gnt.due.all fun p => i < p.2 || !(p.1.uses c))

/-- An open session that a call names or whose slots it uses is no longer idle (R446). -/
def Op.touchSession (c : Call) : Op :=
  let is := (if c.svc == 0x31 || c.svc == 0x33 || c.svc == 0x34 then [c.session] else [])
    ++ ((c.slots.filter (240 ≤ ·)).map fun n => (n - 240) / 2)
  Op.each is fun i => Op.get fun s =>
    match s.session i with
    | some q => Op.when (!q.waiting) (Op.setSession i (some { q with since := s.pulses }))
    | none => Op.skip

/-- Performs service `v` of call `n`: the checks, then the body, which ends by a result and its detail. -/
def Op.service (n : Fin 16) (v : Nat) (body : Call → (Nat → Nat → Op) → Op) : Op := Op.on .gnt (Op.get fun s =>
  match s.gnt.calls[n.val]? with
  | none => Op.skip
  | some c =>
    Op.when (c.svc == v && c.answer.isNone && s.callTurn n.val c)
      (let r := s.callCheck c
       if r.1 ≠ 0 then Op.answer n.val r.1 r.2 else (Op.touchSession c).andThen (body c (Op.answer n.val))))

/-- A bus fault ends the call (R427). -/
def Op.callFault (a : Nat) (k : Nat → Nat → Op) : Op := (Op.blockBus a).andThen (k 8 0xFFFF)

/-- Reads input. -/
def Op.input (a n : Nat) (k : Nat → Nat → Op) (f : List Nat → Op) : Op :=
  if n = 0 then f []
  else Op.fetchBytes Block.gnt.num a n fun
    | .ok bs => f (nums bs)
    | .error a => Op.callFault a k

/-- The call succeeds: `DLEN` takes the length of its output, which is 0 for a service without output (R426). -/
def Op.succeed (c : Call) (n : Nat) (k : Nat → Nat → Op) : Op :=
  Op.putDws (c.blk + 0x18) [BitVec.ofNat 64 (c.dst + n * 2 ^ 32)] fun
    | none => k 0 0
    | some a => Op.callFault a k

/-- Writes output to `DST`, its length to `DLEN`, and ends the call. -/
def Op.output (c : Call) (bs : List Nat) (k : Nat → Nat → Op) : Op :=
  Op.putDws c.dst (dwordsOf (bs.length / 8 + 1) (octets bs)) fun
    | none => Op.succeed c bs.length k
    | some a => Op.callFault a k

/-- Authentication fails; the spec gives no detail (log entry 17). -/
def Op.authFail (k : Nat → Nat → Op) : Op := Op.draw fun i => k 7 ((Config.freeDword i).toNat % 2 ^ 16)

/-- A service that draws random bytes answers `BUSY` while the noise source fails its tests (R433). -/
def Op.needRandom (k : Nat → Nat → Op) (o : Op) : Op := Op.get fun s => if s.bit F.GNT_STAT_DRBG_OK then o else k 1 4

/-- The key in a slot, as numbers. -/
def State.keyOf (s : State) (n : Nat) : List Nat := ((s.slot n).map fun k => nums k.key).getD []

/-- RANDOM. -/
def execRandom (n : Fin 16) (s : State) : Host.Outcome State Fault Refusal :=
  (Op.service n 1 fun c k => Op.needRandom k (Op.random c.len fun l => Op.output c l k)).go s

/-- HASH. -/
def execHash (n : Fin 16) (s : State) : Host.Outcome State Fault Refusal :=
  (Op.service n 2 fun c k => Op.input c.src c.len k fun m => Op.output c (sha256 m) k).go s

/-- GNT_VERIFY. -/
def execGntVerify (n : Fin 16) (s : State) : Host.Outcome State Fault Refusal :=
  (Op.service n 3 fun c k =>
    Op.input c.src 32 k fun digest => Op.input c.aux 64 k fun sig => Op.input c.dst (if c.index = 2 then 64 else 0) k fun key =>
      Op.get fun s =>
        let pub := match c.index with
          | 0 => s.factory 0x40 64
          | 1 => s.factory 0x80 64
          | _ => key
        if ecdsaVerify pub digest sig then Op.succeed c 0 k else Op.authFail k).go s

/-- The IV of a call. -/
def Call.iv (c : Call) (n : Nat) : List Nat := nums (((c.fields.getD []).drop 0x28).take n)

/-- ENCRYPT. -/
def execEncrypt (n : Fin 16) (s : State) : Host.Outcome State Fault Refusal :=
  (Op.service n 0x10 fun c k =>
    Op.input c.src c.len k fun m => Op.input c.aux (if c.mode ≤ 2 then c.auxLen else 0) k fun aad => Op.get fun s =>
      let key := s.keyOf c.slotA
      Op.output c
        (match c.mode with
          | 1 => gcmSeal key (c.iv 12) aad m
          | 2 => ccmSeal key (c.iv 13) aad m c.tag
          | 3 => aesCtr key (c.iv 16) m
          | 4 => (cmac key m).take c.tag
          | 5 => (hmac key m).take c.tag
          | _ => ecdsaSign (cNat key) m) k).go s

/-- DECRYPT. -/
def execDecrypt (n : Fin 16) (s : State) : Host.Outcome State Fault Refusal :=
  (Op.service n 0x11 fun c k =>
    Op.input c.src c.len k fun m => Op.input c.aux (if c.mode ≤ 2 then c.auxLen else 0) k fun aad => Op.get fun s =>
      let key := s.keyOf c.slotA
      let plain := m.take (m.length - c.tag)
      let check (tag : List Nat) : Op := if tag.take c.tag = m.drop plain.length then Op.succeed c 0 k else Op.authFail k
      match c.mode with
      | 1 => match gcmOpen key (c.iv 12) aad m with
        | some p => Op.output c p k
        | none => Op.authFail k
      | 2 => match ccmOpen key (c.iv 13) aad m c.tag with
        | some p => Op.output c p k
        | none => Op.authFail k
      | 3 => Op.output c (aesCtr key (c.iv 16) m) k
      | 4 => check (cmac key plain)
      | _ => check (hmac key plain)).go s

/-! ### Keys -/

/-- A key of a type from an HKDF output or random bytes: `f` gives `n` bytes of it. -/
def keyFrom (type : Nat) (f : Nat → List Nat) : List Nat :=
  if type = 4 then cBytes 32 (scalarOf (f 40)) else f (keyBytes type)

/-- KEY_GEN. -/
def execKeyGen (n : Fin 16) (s : State) : Host.Outcome State Fault Refusal :=
  (Op.service n 0x20 fun c k =>
    Op.needRandom k (Op.random 40 fun l => (Op.fillSlot c.slotB c.attr (keyFrom (attrType c.attr) l.take)).andThen (Op.succeed c 0 k))).go s

/-- KEY_LOAD. -/
def execKeyLoad (n : Fin 16) (s : State) : Host.Outcome State Fault Refusal :=
  (Op.service n 0x21 fun c k => Op.input c.src c.len k fun m => (Op.fillSlot c.slotB c.attr m).andThen (Op.succeed c 0 k)).go s

/-- WRAP: the key, filled up to 32 bytes, the attributes and six zero bytes are wrapped. -/
def execWrap (n : Fin 16) (s : State) : Host.Outcome State Fault Refusal :=
  (Op.service n 0x22 fun c k => Op.get fun s =>
    let attr := ((s.slot c.slotB).map (·.attr)).getD 0
    let m := cPad 32 (s.keyOf c.slotB) ++ [attr % 256, attr / 256 % 256] ++ List.replicate 6 0
    Op.output c (keyWrap (s.keyOf c.slotA) m) k).go s

/-- UNWRAP: a blob that does not open, or whose attributes are none, fails authentication. -/
def execUnwrap (n : Fin 16) (s : State) : Host.Outcome State Fault Refusal :=
  (Op.service n 0x23 fun c k => Op.input c.src 48 k fun m => Op.get fun s =>
    match keyUnwrap (s.keyOf c.slotA) m with
    | none => Op.authFail k
    | some p =>
      let attr := p.getD 32 0 + 256 * p.getD 33 0
      if p.length ≠ 40 || !(attrOk attr) || (p.drop 34).any (· != 0) then Op.authFail k
      else if !c.sys && !(attrTask attr) then k 5 0
      else (Op.fillSlot c.slotB attr (p.take (keyBytes (attrType attr)))).andThen (Op.succeed c 0 k)).go s

/-- DERIVE. -/
def execDerive (n : Fin 16) (s : State) : Host.Outcome State Fault Refusal :=
  (Op.service n 0x24 fun c k => Op.input c.src c.len k fun info => Op.get fun s =>
    (Op.fillSlot c.slotB c.attr (keyFrom (attrType c.attr) (hkdf (s.keyOf c.slotA) [] info))).andThen (Op.succeed c 0 k)).go s

/-- ECDH: a peer key that is no point of the curve is a bad value. -/
def execEcdh (n : Fin 16) (s : State) : Host.Outcome State Fault Refusal :=
  (Op.service n 0x25 fun c k => Op.input c.src 64 k fun pub => Op.input c.aux c.auxLen k fun info => Op.get fun s =>
    match ecdhX (cNat (s.keyOf c.slotA)) pub with
    | some x => (Op.fillSlot c.slotB c.attr (keyFrom (attrType c.attr) (hkdf x [] info))).andThen (Op.succeed c 0 k)
    | none => k 8 0x10).go s

/-- PUBKEY. -/
def execPubkey (n : Fin 16) (s : State) : Host.Outcome State Fault Refusal :=
  (Op.service n 0x26 fun c k => Op.get fun s => Op.output c (publicKey (cNat (s.keyOf c.slotA))) k).go s

/-- DESTROY. -/
def execDestroy (n : Fin 16) (s : State) : Host.Outcome State Fault Refusal :=
  (Op.service n 0x27 fun c k => (Op.emptySlot c.slotB).andThen (Op.succeed c 0 k)).go s

/-! ### Credentials and sessions (R442 to R446) -/

/-- A password credential that names Ethernet is refused. -/
def credBad (m : List Nat) : Bool := m.getD 0 0 == 2 && m.getD 1 0 % 2 == 1

/-- CRED_LOAD. -/
def execCredLoad (n : Fin 16) (s : State) : Host.Outcome State Fault Refusal :=
  (Op.service n 0x30 fun c k => Op.input c.src 160 k fun m => Op.get fun s =>
    match gcmOpen (s.keyOf 0) (m.take 12) [] ((m.drop 12).take 144) with
    | none => Op.authFail k
    | some p =>
      if credBad p then k 8 0x10
      else Op.all [ Op.setCred c.index (some ⟨octets p, 0, none⟩), Op.gntShow, Op.succeed c 0 k ]).go s

/-- Whether a session is open with the role `ADMIN`. -/
def State.isAdmin (s : State) (i : Nat) : Bool :=
  match s.session i with
  | some q => !q.waiting && natBits q.roles 15 1 == 1
  | none => false

/-- CRED_SEAL. -/
def execCredSeal (n : Fin 16) (s : State) : Host.Outcome State Fault Refusal :=
  (Op.service n 0x31 fun c k => Op.get fun s =>
    if s.life = 2 && !(s.isAdmin c.session) then Op.authFail k
    else Op.input c.src 128 k fun m =>
      if credBad m then k 8 0x10
      else Op.random 12 fun iv => Op.output c (iv ++ gcmSeal (s.keyOf 0) iv [] m ++ List.replicate 4 0) k).go s

/-- SESS_CHALLENGE. -/
def execSessChallenge (n : Fin 16) (s : State) : Host.Outcome State Fault Refusal :=
  (Op.service n 0x32 fun c k => Op.needRandom k (Op.get fun s =>
    let transport := c.fld 0x38 1
    match (List.range 8).find? fun i => (s.session i).isNone with
    | none => k 1 5
    | some i =>
      match s.cred c.index with
      | none => k 7 1
      | some q =>
        if q.locked.isSome then k 7 2
        else if natBits (mf q.bytes 1 1) transport 1 = 0 then k 7 3
        else Op.random 32 fun nonce => Op.random 40 fun l =>
          let d := scalarOf l
          let t0 := nonce ++ publicKey d ++ s.serial ++ [transport, c.index]
          let sig := ecdsaSign (cNat (s.keyOf 2)) (sha256 t0)
          Op.all
            [ Op.setSession i (some { cred := c.index, since := s.pulses, waiting := true, t0 := octets t0, priv := octets (cBytes 32 d), roles := 0 }),
              Op.gntShow,
              Op.output c ([i] ++ List.replicate 7 0 ++ t0 ++ List.replicate 6 0 ++ sig) k ])).go s

/-- The proof of a response over its host key. -/
def proofOk (q : Credential) (h proof : List Nat) : Bool :=
  let cred := nums ((q.bytes.drop 0x18).take 64)
  if mf q.bytes 0 1 = 1 then ecdsaVerify cred h proof
  else mf q.bytes 0 1 == 2 && proof == hmac (cred.take 32) h ++ List.replicate 32 0

/-- A proof has failed: the session is free, and the fifth failure on end locks the credential. -/
def Op.sessFail (i : Nat) (q : Session) : Op := Op.get fun s =>
  let fails := ((s.cred q.cred).map (·.fails)).getD 0 + 1
  Op.all
    [ Op.setSession i none,
      Op.inc A.GNT_AUTH_FAIL,
      Op.gntEvent 3 i q.cred 0,
      match s.cred q.cred with
      | some r => Op.setCred q.cred (some { r with fails := fails, locked := if 5 ≤ fails then some s.pulses else r.locked })
      | none => Op.skip,
      Op.when ((s.cred q.cred).isSome && fails == 5) (Op.gntEvent 4 i q.cred 0),
      Op.gntShow ]

/-- SESS_OPEN. -/
def execSessOpen (n : Fin 16) (s : State) : Host.Outcome State Fault Refusal :=
  (Op.service n 0x33 fun c k => Op.get fun s =>
    match s.session c.session with
    | none => k 8 0x0E
    | some q =>
      if !q.waiting then k 8 0x0E
      else Op.input c.src 128 k fun m =>
        let t0 := nums q.t0
        let h := sha256 (t0 ++ m.take 64)
        let z := ecdhX (cNat (nums q.priv)) (m.take 64)
        match s.cred q.cred, z with
        | some r, some z =>
          if q.since + 30 * 32768 ≤ s.pulses || !(proofOk r h (m.drop 64)) then (Op.sessFail c.session q).andThen (Op.authFail k)
          else
            let nonce := t0.take 32
            let roles := mf r.bytes 2 2
            Op.all
              [ Op.setCred q.cred (some { r with fails := 0 }),
                Op.setSession c.session (some { q with waiting := false, since := s.pulses, priv := [], roles := roles }),
                Op.fillSlot (240 + 2 * c.session) 0x01 (hkdf z nonce [0x6D, 0x32, 0x68] 16),
                Op.fillSlot (241 + 2 * c.session) 0x11 (hkdf z nonce [0x68, 0x32, 0x6D] 16),
                Op.gntShow,
                Op.gntEvent 1 c.session q.cred 0,
                Op.output c [roles % 256, roles / 256, c.session, 0] k ]
        | _, _ => (Op.sessFail c.session q).andThen (Op.authFail k)).go s

/-- SESS_CLOSE. -/
def execSessClose (n : Fin 16) (s : State) : Host.Outcome State Fault Refusal :=
  (Op.service n 0x34 fun c k => (Op.closeSession c.session 0).andThen (Op.succeed c 0 k)).go s

/-! ### The life cycle (R436 to R439) -/

/-- Whether the transition is one of R437. -/
def lifeStep (old new : Nat) : Bool :=
  match old with
  | 0 => new == 1 || new == 4
  | 1 => new == 2 || new == 4
  | 2 => new == 3 || new == 4
  | 3 => new == 4
  | _ => false

/-- An accepted transition (R438): sessions, credentials and keys go, the device root secret is made on the way to PROVISION, and the fuse
row of the target is burned. `TRANSIT` reads 1 until the reset. -/
def Op.lifeAdvance (target : Nat) : Op := Op.get fun s =>
  Op.all
    [ Op.set F.LCS_STAT_PENDING 1,
      Op.set F.GNT_STAT_TRANSIT 1,
      Op.closeSessions 2,
      Op.gnt fun g => { g with sessions := Vector.replicate 8 none, creds := Vector.replicate 16 none },
      Op.emptySlots,
      Op.gntShow,
      Op.when (target == 1 && !(s.store.fuses.contains drsFuse))
        (Op.random 32 fun l =>
          (Op.each (List.range 256) fun i => Op.when (natBits (l.getD (i / 8) 0) (i % 8) 1 == 1) (Op.burn (drsBit i))).andThen
            (Op.burn drsFuse)),
      Op.each (List.range 3) fun b => Op.burn (3 * (target - 1) + b),
      Op.log 0x0031 Block.lcs.num 0 (s.life + target * 2 ^ 8) ]

/-- The transition ends: calls accepted meanwhile are answered, the last first, then the transition's own; posted calls get their status,
and a full reset follows. -/
def Op.lifeEnd : Op := Op.get fun s =>
  Op.all
    [ Op.each (List.range s.gnt.calls.length).reverse fun i =>
        match s.gnt.calls[i]? with
        | some c =>
          if i = 0 then Op.succeed c 0 (Op.endCall 0)
          else Op.when c.answer.isNone (Op.endCall i (s.callCheck c).1 (s.callCheck c).2)
        | none => Op.skip,
      Op.get fun s => Op.each s.gnt.calls fun c =>
        match c.answer with
        | some st => Op.when (!c.tried) (Op.writeStatus c (loWord st) fun _ => Op.skip)
        | none => Op.skip,
      Op.moduleReset 4 ]

/-- LC_ADVANCE: an accepted transition runs; given again while it runs, it ends. -/
def execLcAdvance (n : Fin 16) (s : State) : Host.Outcome State Fault Refusal :=
  (Op.on .gnt (Op.get fun s =>
    if s.bit F.GNT_STAT_TRANSIT && n.val == 0 then Op.lifeEnd
    else Op.service n 0x40 fun c k => Op.get fun s =>
      let t := c.index
      if !(lifeStep s.life t) then k 6 9
      else if s.life = 1 && t = 2 && (s.factory 0xC0 64).all (· == 0) then k 6 10
      else if s.life = 2 then
        Op.input c.src 64 k fun sig => Op.get fun s =>
          let good := ecdsaVerify (s.factory 0xC0 64) (sha256 (s.challenge ++ s.serial ++ [t])) sig
          Op.newChallenge.andThen
            (if good then Op.lifeAdvance t else (Op.inc A.GNT_AUTH_FAIL).andThen (Op.authFail k))
      else Op.lifeAdvance t)).go s

end Sys2Proof.Machine
end

