-- ==== Sys2Proof/Machine/Power.lean ====
section
/-!
DEFINITION. Supplies, power loss and the commit, tamper inputs (spec/16), power-on and the other resets, domain switches, the watchdog and
`LIGHT_FAILSAFE` (spec/17), trigger pads (spec/18).
-/
namespace Sys2Proof.Machine

/-! ### Supplies (R473, R497, R503) -/

/-- SUPPLY_SWITCH: the Bonnet switch changes its source. -/
def execSupplySwitch (s : State) : Host.Outcome State Fault Refusal :=
  ((Op.on .bon (Op.get fun s =>
    Op.all
      [ Op.set F.BON_STAT_SUPPLY (1 - s.fld F.BON_STAT_SUPPLY), Op.inc A.BON_SWITCHES, Op.bonEvent 5 0 false ]))).go s

/-- VIN_WARNING: VIN crosses the warning level, downwards if `below`. The monitor is in D2: a crossing while `SYS` is off shows in
`VIN_WARN` after the next reset. -/
def execVinWarning (below : Bool) (s : State) : Host.Outcome State Fault Refusal :=
  ((Op.get fun s =>
    Op.when (s.blk.pwr.vinWarn != below)
      ((Op.pwr fun p => { p with vinWarn := below }).andThen (Op.on .sys (Op.all
        [ Op.set F.SYS_STAT_VIN_WARN (bit01 below),
          Op.when below (Op.inc A.SYS_VIN_WARN_CNT),
          Op.sysEvent (if below then 1 else 2) 0 ]))))).go s

/-- Whether a bank's supply is within its range, after it was (`ok`) or was not (R503): a 3.3 V bank from 3.06 V down to 2.97 V, a 1.8 V
bank from 1.68 V down to 1.62 V. -/
def bankOk (is33 ok : Bool) (mv : Nat) : Bool :=
  (if is33 then (if ok then 2970 else 3060) else (if ok then 1620 else 1680)) ≤ mv

/-- The two flags of a bank as a rise of `VIN_GOOD` finds it: in range, 3.3 V (R498). -/
def bankFound (mv : Nat) : Nat := bit01 (bankOk (2500 < mv) false mv) + 2 * bit01 (2500 < mv)

/-- BANK_NOT_OK: the supply of pad bank A, or of bank B, moves to `mv` mV. Its flag follows with the hysteresis of R503, out of the range
and back; which kind of bank it is stays until `VIN_GOOD` rises (R519, log entry 39). -/
def execBankNotOk (bankB : Bool) (mv : BitVec 12) (s : State) : Host.Outcome State Fault Refusal :=
  ((Op.get fun s =>
    let i : Fin 2 := if bankB then 1 else 0
    let ok := bankOk (s.blk.pwr.bank.getLsbD (2 * i.val + 1)) (s.blk.pwr.bank.getLsbD (2 * i.val)) mv.toNat
    let m : BitVec 4 := BitVec.twoPow 4 (2 * i.val)
    (Op.pwr fun p => { p with vio := p.vio.set i mv.toNat, bank := if ok then p.bank ||| m else p.bank &&& ~~~ m }).andThen
      (Op.on .sys (Op.get fun s => Op.set ⟨A.SYS_STAT, 2, 4⟩ s.blk.pwr.bank.toNat)))).go s

/-- The banks as a rise of `VIN_GOOD` takes them: 1.8 V or 3.3 V, in range or not (R498). -/
def Op.vinRise : Op := Op.pwr fun p => { p with
  vinGood := true, railLost := false, bank := BitVec.ofNat 4 (bankFound p.vio[0] + 4 * bankFound p.vio[1]) }

/-! ### VHOLD (R497, R505) -/

/-- What a commit leaves on VHOLD, of what it found there: above 3.6 V from 4.0 V or more, else nothing that R497 states. -/
def afterCommit (mv : Nat) : Nat := if 4000 ≤ mv then 3601 else 0

/-- VIN charges VHOLD to 5.0 V; the spec gives the time only a bound, 200 ms, which is 6,553 whole pulses (log entry 18). -/
def Op.charge : Op := Op.draw fun n => Op.get fun s => Op.pwr fun p => { p with
  vhold := if s.bit F.BON_STAT_COMMIT_BUSY then afterCommit p.vhold else p.vhold
  charge := some (s.pulses + (Config.freeDword n).toNat % 6554) }

/-- `VIN_GOOD` has fallen: VBAT keeps VHOLD at 4.0 V or more unless it is below `VBAT_CRIT`. -/
def Op.topUp : Op := Op.get fun s => Op.pwr fun p => { p with
  vhold := if s.bit F.BON_STAT_VBATLOW then s.vhold else max 4000 s.vhold, charge := none }

/-! ### The commit (R474, R485, R505) -/

/-- A commit starts when VIN is not good and VBAT is below `VBAT_CRIT`, once per loss of VIN; MET's image is captured. -/
def Op.commitCheck : Op := Op.get fun s =>
  let seq := s.met.seq + 1
  Op.when (!s.blk.pwr.vinGood && s.bit F.BON_STAT_VBATLOW && s.blk.bon.armed && !(s.bit F.BON_STAT_COMMIT_BUSY))
    (Op.all
      [ Op.set F.BON_STAT_COMMIT_BUSY 1,
        Op.bon fun b => { b with armed := false, image := if s.domOn 1 then s.metImage seq else [] },
        Op.when (s.domOn 1) (Op.met fun m => { m with seq := seq }) ])

/-- The area that the next image goes to: the one with the lower sequence number, or one without a valid image. -/
def State.commitArea (s : State) : Nat :=
  match metSeq (s.csBytes 0 512), metSeq (s.csBytes 0x200 512) with
  | some i, some j => if i < j then 0 else 0x200
  | some _, none => 0x200
  | none, _ => 0

/-- The commit completes: the image is in its area, and the writes that waited follow in the order of their arrival. Its record is
latched in D0, since D4 was off; where D4 has come on meanwhile the record is logged now, and the start record after it. Where VIN has not returned since the commit began, D1
goes off (R505); where it has returned and is lost again, the next commit may start (R474). -/
def Op.commitEnd : Op := Op.get fun s =>
  Op.all
    [ Op.set F.BON_STAT_COMMIT_BUSY 0,
      Op.csWriteBytes s.commitArea s.blk.bon.image,
      Op.inc A.BON_COMMITS,
      Op.bonEvent 3 0 false,
      Op.latch 0x0041 0 (leNat ((s.blk.bon.image.drop 460).take 4)),
      Op.each s.blk.bon.waits fun w => Op.csPut w.1 w.2,
      Op.bon fun b => { b with waits := [], image := [] },
      Op.oxbDurable,
      Op.when (!s.blk.pwr.vinGood)
        ((Op.pwr fun p => { p with vhold := afterCommit p.vhold }).andThen (Op.when (!s.blk.bon.armed) (Op.domDown 1))),
      Op.when (s.powered .recd) Op.logStart,
      Op.commitCheck ]

/-- COMMIT_END. -/
def execCommitEnd (s : State) : Host.Outcome State Fault Refusal :=
  ((Op.on .bon (Op.get fun s => Op.when (s.bit F.BON_STAT_COMMIT_BUSY) Op.commitEnd))).go s

/-- VBAT_CRIT_FALL: while VIN is absent the top-up of VHOLD stops, and what a commit does not find there is lost (R497). -/
def execVbatCritFall (s : State) : Host.Outcome State Fault Refusal :=
  (Op.on .bon (Op.all
    [ Op.set F.BON_STAT_VBATLOW 1, Op.commitCheck,
      Op.get fun s => Op.when (!s.blk.pwr.vinGood && !(s.bit F.BON_STAT_COMMIT_BUSY)) (Op.pwr fun p => { p with vhold := 0 }) ])).go s

/-- VBAT_RECOVER: while VIN is absent the top-up of VHOLD resumes (R505). -/
def execVbatRecover (s : State) : Host.Outcome State Fault Refusal :=
  (Op.on .bon ((Op.set F.BON_STAT_VBATLOW 0).andThen (Op.get fun s =>
    Op.when (!s.blk.pwr.vinGood) (Op.pwr fun p => { p with vhold := max 4000 p.vhold })))).go s

/-! ### Loss and return of VIN (R476, R500, R504, R506) -/

/-- The domains that VCORE feeds go off, D4 first. -/
def Op.coreOff : Op := Op.each (4 :: 3 :: (List.range 11).map (· + 5)) Op.domDown

/-- VIN_GOOD_FALL. -/
def execVinGoodFall (s : State) : Host.Outcome State Fault Refusal :=
  ((Op.get fun s =>
    Op.when s.blk.pwr.vinGood
      (Op.all
        [ Op.coreOff,
          Op.topUp,
          Op.pwr fun p => { p with vinGood := false, standby := false, wake := false, wakeMask := 0, expired := none },
          Op.commitCheck ]))).go s

/-- POWER_MANAGER_LOSS: VIN falls below 3.0 V, after `VIN_GOOD` has fallen. -/
def execPowerManagerLoss (s : State) : Host.Outcome State Fault Refusal :=
  ((Op.get fun s =>
    Op.when (!s.blk.pwr.vinGood) (Op.pwr fun p => { p with
      dom := p.dom &&& ~~~ BitVec.twoPow 16 2, standby := false, wake := false, wakeMask := 0 }))).go s

/-- RETENTION_LOSS: the Bonnet rail falls below 1.80 V while VIN is not good. The registers of D0 and D1, the RTC and the records latched
in D0 are lost; a commit in progress runs to completion from its holdup capacitor (R474). -/
def execRetentionLoss (s : State) : Host.Outcome State Fault Refusal :=
  ((Op.get fun s =>
    Op.when (!s.blk.pwr.vinGood)
      (Op.all
        [ Op.when (s.bit F.BON_STAT_COMMIT_BUSY) Op.commitEnd,
          Op.bonReset, Op.domDown 1,
          Op.pwr fun p => { p with railLost := true, dom := p.dom &&& ~~~ 1, vhold := 0 },
          Op.rcd fun q => { q with latched := [] } ]))).go s

/-- POWER_ON_RESET: `VIN_GOOD` rises with the Bonnet rail kept. `GPIO23` low asks for recovery (R416). -/
def execPowerOnReset (gpio23Low : Bool) (s : State) : Host.Outcome State Fault Refusal :=
  ((Op.get fun s =>
    Op.when (!s.blk.pwr.vinGood && !s.blk.pwr.railLost)
      (Op.all
        [ Op.vinRise, Op.bon fun b => { b with armed := true }, Op.moduleReset 2, Op.charge, Op.when gpio23Low Op.recoverCmd ]))).go s

/-- COLD_RESET: the Bonnet rail returns from below retention; time is lost (R476). -/
def execColdReset (gpio23Low : Bool) (s : State) : Host.Outcome State Fault Refusal :=
  ((Op.get fun s =>
    Op.when s.blk.pwr.railLost
      (Op.all
        [ Op.vinRise,
          Op.rcd fun q => { q with latched := [⟨0x42, 0x80, 1, 0, 0, 0⟩] },
          Op.moduleReset 1,
          Op.bonEvent 4 0 false,
          Op.charge,
          Op.when gpio23Low Op.recoverCmd ]))).go s

/-- BROWNOUT_RESET. -/
def execBrownoutReset (s : State) : Host.Outcome State Fault Refusal :=
  ((Op.get fun s => Op.when (s.powered .sys) ((Op.moduleReset 3).andThen (Op.inc A.SYS_BROWNOUTS)))).go s

/-- JTAG_RESET_INSTRUCTION: acts while debug is open and the pads of the port are usable (R519). -/
def execJtagResetInstruction (s : State) : Host.Outcome State Fault Refusal :=
  (Op.on .lcs (Op.get fun s => Op.when (s.bankA && s.bit F.LCS_STAT_DEBUG) (Op.moduleReset 4))).go s

/-! ### `SYS_RST_CMD` (R507, R508) -/

/-- Acts where the key is right. -/
def Op.keyed (key : Nat) (o : Op) : Op := if key = 0xA5 then o else Op.set F.SYS_ERR_RSTKEY 1

/-- D3 to D15 go off, and D2 watches for a wake. -/
def Op.standby : Op := Op.get fun s =>
  Op.coreOff.andThen
    (Op.pwr fun p => { p with
      standby := true, wake := false, wakeMask := BitVec.ofNat 4 (s.fld F.SYS_WAKE_TRIG), expired := none })

/-- A system reset by `SYS_RST_CMD`: the recorder takes no further record from the write onward, until the reset has been made. -/
def Op.systemReset : Op := (Op.rcd fun q => { q with closed := true }).andThen (Op.moduleReset 4)

/-- SYSTEM_RESET. -/
def execSystemReset (key : BitVec 8) (s : State) : Host.Outcome State Fault Refusal :=
  (Op.on .sys (Op.keyed key.toNat Op.systemReset)).go s

/-- STANDBY. -/
def execStandby (key : BitVec 8) (s : State) : Host.Outcome State Fault Refusal := (Op.on .sys (Op.keyed key.toNat Op.standby)).go s

/-- A write of `SYS_RST_CMD`; a system reset comes before a standby of the same write. -/
def Op.rstCmd (v : Word) : Op :=
  Op.keyed (fieldOf v 0 8)
    (if v.getLsbD 8 then Op.systemReset else Op.when (v.getLsbD 9) Op.standby)

/-- WAKE: a wake source has acted in standby. -/
def execWake (s : State) : Host.Outcome State Fault Refusal :=
  ((Op.get fun s => Op.when (s.blk.pwr.standby && s.blk.pwr.wake) (Op.moduleReset 7))).go s

/-! ### Restart of a core (R509) -/

/-- Whether a core may be restarted. -/
def State.mayRestart (s : State) (c : CoreId) : Bool :=
  s.domOn (coreDomain c) && ((s.reg A.WEIR_HALTED).getLsbD c.val || !(s.coreEn c))

/-- A core restarts; its local memories stay. A refused store whose response was on its way is logged all the same (R87). -/
def Op.restartCore (c : CoreId) : Op := Op.get fun s =>
  Op.all
    [ Op.abandonPacket c,
      Op.each (s.core c).stores (Op.logStoreFault c),
      Op.core c fun _ => { Core.reset with run := .restarting },
      Op.weir fun w => { w with
        waiting := w.waiting.filter (·.1 != c),
        rills := w.rills.map fun r => { r with waiters := r.waiters.filter (· != c) } },
      Op.set ⟨A.WEIR_HALTED, c.val, 1⟩ 0,
      Op.set ⟨A.SYS_CORE_RST, c.val, 1⟩ 1,
      Op.sysEvent 6 c.val,
      Op.log 0x0001 (coreSource c) 0 8 ]

/-- A write of `SYS_CORE_RST`; the cores that may not be restarted are refused. -/
def Op.coreRst (v : Word) : Op :=
  Op.each ((List.finRange 24).filter fun c => v.getLsbD c.val) fun c => Op.get fun s =>
    if s.mayRestart c then Op.restartCore c else Op.set F.SYS_ERR_CORERST 1

/-- CORE_RESTART. -/
def execCoreRestart (v : Word) (s : State) : Host.Outcome State Fault Refusal := (Op.on .sys (Op.coreRst v)).go s

/-- CORE_RESTART_DONE: the core waits in the dispatch TAKE of the boot ROM. -/
def execCoreRestartDone (c : CoreId) (s : State) : Host.Outcome State Fault Refusal :=
  ((Op.get fun s =>
    Op.when ((s.core c).run == .restarting)
      (Op.all
        [ Op.core c fun k => { k with pc := Config.romTake }, Op.waitTake c, Op.set ⟨A.SYS_CORE_RST, c.val, 1⟩ 0 ]))).go s

/-! ### Domain switches (R501, R502) -/

/-- The domains that firmware may switch (R500). -/
def switchable (d : Nat) : Bool := [1, 6, 7, 8, 10, 11, 12, 13, 14].contains d

/-- Whether switching domain `d` off is refused whatever happens to D11; `c` is the core that wrote. -/
def State.holdsDomain (s : State) (c : CoreId) (d : Nat) : Bool :=
  !(switchable d)
    || (domBlocks d).any (fun b => s.bit b.run)
    || (6 ≤ d && d ≤ 8 && (clusterCores (d - 5)).any fun k => s.coreEn k || (s.core k).item.getLsbD 0 || k == c)
    || (d == 1 && s.bit F.BON_STAT_COMMIT_BUSY)

/-- A domain that has been switched on becomes usable: event 4, and D13 reloads its components. -/
def Op.domOnEnd (d : Nat) : Op := Op.get fun s =>
  Op.when ((s.reg A.SYS_PWR_EN).getLsbD d && !(s.domOn d))
    (Op.all [ Op.domUp d, Op.sysEvent 4 d, Op.when (d == 13) Op.reloadComponents ])

/-- A write of `SYS_PWR_EN` by a core. The domains that it switches on become usable by DOMAIN_ON; where it also switches one off they are
usable before that, at once, which R502 allows (log entry 39). -/
def Op.pwrEn (c : CoreId) (v : Word) : Op := Op.get fun s =>
  let old := s.reg A.SYS_PWR_EN
  let ds := List.range 16
  let offs := ds.filter fun d => old.getLsbD d && !(v.getLsbD d)
  let d11 := v.getLsbD 11 || (offs.contains 11 && s.holdsDomain c 11)
  let refused := offs.filter fun d => s.holdsDomain c d || (d11 && (d == 10 || d == 12 || d == 14))
  let done := offs.filter fun d => !(refused.contains d)
  let ons := ds.filter fun d => v.getLsbD d && !(old.getLsbD d)
  Op.all
    [ Op.each ons fun d => Op.set ⟨A.SYS_PWR_EN, d, 1⟩ 1,
      Op.when (!done.isEmpty) (Op.each ons Op.domOnEnd),
      Op.each done fun d =>
        Op.all
          [ Op.set ⟨A.SYS_PWR_EN, d, 1⟩ 0,
            Op.when (6 ≤ d && d ≤ 8) (Op.each (clusterCores (d - 5)) Op.abandonPacket),
            Op.domDown d,
            Op.sysEvent 5 d ],
      Op.when (!refused.isEmpty)
        (Op.all
          [ Op.set F.SYS_ERR_PWRREF 1, Op.set F.SYS_ERR_PWR_DOM (refused.headD 0), Op.inc A.SYS_PWR_REFUSED ]) ]

/-- DOMAIN_SWITCH: a core writes `SYS_PWR_EN`. -/
def execDomainSwitch (c : CoreId) (v : Word) (s : State) : Host.Outcome State Fault Refusal := (Op.on .sys (Op.pwrEn c v)).go s

/-- DOMAIN_ON: a domain that has been switched on becomes usable. -/
def execDomainOn (d : Fin 16) (s : State) : Host.Outcome State Fault Refusal :=
  (Op.on .sys (Op.domOnEnd d.val)).go s

/-! ### `SYS_PERF` (R499) -/

/-- The setting that a written value gives: clamped, and rounded down to 10 mV. -/
def perfMv (v : Nat) : Nat := (min 900 (max 600 v)) / 10 * 10

/-- A write of `SYS_PERF`. -/
def Op.perfWrite (v : Word) : Op :=
  let mv := perfMv (fieldOf v 0 10)
  Op.all
    [ Op.set F.SYS_PERF_MV mv, Op.set F.SYS_STAT_BELOWSLOW (bit01 (mv < 720)), Op.when (mv < 720) (Op.sysEvent 7 0) ]

def execPerfWrite (v : Word) (s : State) : Host.Outcome State Fault Refusal := (Op.on .sys (Op.perfWrite v)).go s

/-! ### The watchdog and `ALIVE` (R512, R513) -/

/-- `SYS_ALIVE.ALIVE` and the level of `LIGHT_FAILSAFE`. -/
def Op.setAlive (v : Bool) : Op := (Op.set F.SYS_ALIVE_ALIVE (bit01 v)).andThen (Op.set F.SYS_STAT_FAILSAFE (bit01 !v))

/-- The count of the watchdog starts again. -/
def Op.kick : Op := Op.get fun s => Op.pwr fun p => { p with kick := s.pulses }

/-- SYS_KICK. -/
def execSysKick (s : State) : Host.Outcome State Fault Refusal := (Op.on .sys Op.kick).go s

/-- `MS` in whole pulses, rounded up. -/
def State.wdogPulses (s : State) : Nat := (s.fld F.SYS_WDOG_MS * 32768 + 999) / 1000

/-- SYS_WATCHDOG_EXPIRE. -/
def execSysWatchdogExpire (s : State) : Host.Outcome State Fault Refusal :=
  ((Op.on .sys (Op.get fun s =>
    Op.when (s.bit F.SYS_ALIVE_ALIVE && s.blk.pwr.kick + s.wdogPulses ≤ s.pulses)
      (Op.all
        [ Op.setAlive false, Op.sysEvent 3 0, Op.inc A.SYS_WDOG_EXP,
          Op.when (s.bit F.SYS_WDOG_RST) (Op.pwr fun p => { p with expired := some s.pulses }) ])))).go s

/-- WATCHDOG_RESET: 1 ms, 33 pulses, after an expiry. -/
def execWatchdogReset (s : State) : Host.Outcome State Fault Refusal :=
  ((Op.on .sys (Op.get fun s => Op.when (s.blk.pwr.expired.any fun t => t + 33 ≤ s.pulses) (Op.moduleReset 6)))).go s

/-- A write of `SYS_ALIVE`. -/
def Op.aliveWrite (v : Word) : Op := Op.get fun s =>
  if v.getLsbD 0 then
    Op.when (s.fld F.SYS_WDOG_MS != 0 && !(s.bit F.SYS_ALIVE_ALIVE)) ((Op.setAlive true).andThen Op.kick)
  else Op.setAlive false

def execAliveWrite (v : Word) (s : State) : Host.Outcome State Fault Refusal := (Op.on .sys (Op.aliveWrite v)).go s

/-- A write of `SYS_WDOG`. -/
def Op.wdogWrite (v : Word) : Op :=
  Op.all [ Op.putReg A.SYS_WDOG (v &&& 0x103FF), Op.kick, Op.when (fieldOf v 0 10 == 0) (Op.setAlive false) ]

def execWdogWrite (v : Word) (s : State) : Host.Outcome State Fault Refusal := (Op.on .sys (Op.wdogWrite v)).go s

/-! ### Tamper inputs (R483) -/

/-- The field of `BON_TAMPER_CFG` for input `t`. -/
def tamperFld (t : Fin 2) (lo w : Nat) : Fld := ⟨A.BON_TAMPER_CFG, lo + 8 * t.val, w⟩

/-- The Gauntlet empties slots 4 to 255, closes every session and empties the credential table (R432). The spec names no reason for
these closings (log entry 17). -/
def Op.tamperKeys : Op := Op.on .gnt (Op.draw fun n =>
  Op.all
    [ Op.closeSessions ((Config.freeDword n).toNat % 2 ^ 31), Op.emptySlots,
      Op.gnt fun g => { g with creds := Vector.replicate 16 none }, Op.gntShow ])

/-- An input is detected. -/
def Op.tamperHit (t : Fin 2) : Op := Op.get fun s =>
  let on (lo : Nat) : Bool := s.bit (tamperFld t lo 1)
  Op.all
    [ Op.set ⟨A.BON_TAMPER, t.val, 1⟩ 1,
      Op.setReg (A.BON_TAMPER_TIME t.val) (s.rtc / 32768 % 2 ^ 32),
      Op.when (on 4) (Op.dropRegs (A.BON_BSRAM 0) (A.BON_BSRAM 128)),
      Op.when (on 5) Op.tamperKeys,
      Op.when (on 6) Op.wakeUp,
      Op.bonEvent 2 t.val false,
      Op.log 0x0040 Block.bon.num 0 (t.val + s.rtc / 32768 % 2 ^ 32 * 2 ^ 32) ]

/-- TAMPER_DETECT: a sample of input `t`, every 1/16 s. The run of active samples counts whatever `EN` holds, which only detection
needs. -/
def execTamperDetect (t : Fin 2) (high : Bool) (s : State) : Host.Outcome State Fault Refusal :=
  ((Op.on .bon (Op.get fun s =>
    let active := s.bit (tamperFld t 1 1) == high
    let n := if active then min 4 (s.blk.bon.active[t] + 1) else 0
    Op.all
      [ Op.set ⟨A.BON_TAMPER, 2 + t.val, 1⟩ (bit01 active),
        Op.bon fun b => { b with active := b.active.set t n },
        Op.when (s.bit (tamperFld t 0 1) && s.fld (tamperFld t 2 2) + 1 ≤ n && !(s.bit ⟨A.BON_TAMPER, t.val, 1⟩)) (Op.tamperHit t) ]))).go s

/-! ### Pads (R519, R520, R523 to R525) -/

/-- The submission of a trigger binding (R134, R524). Weir takes the descriptor or refuses it at once; until its answer `PENDING` reads 1. -/
def Op.trigSubmit (n : Fin 4) : Op := Op.get fun s =>
  let t := s.now % 2 ^ 64
  let w0 : DWord := joinWords (s.reg (A.GPIO_TRIG_W0HI n.val)) (s.reg (A.GPIO_TRIG_W0LO n.val))
  let w1 : DWord := if s.bit (F.GPIO_TRIG_CFG_STAMPARG n.val) then BitVec.ofNat 64 t
    else joinWords (s.reg (A.GPIO_TRIG_ARGHI n.val)) (s.reg (A.GPIO_TRIG_ARGLO n.val))
  let m : BitVec 4 := BitVec.twoPow 4 n.val
  Op.all
    [ Op.pwr fun p => { p with stamps := p.stamps.set n t, accepted := p.accepted &&& ~~~ m },
      Op.set ⟨A.GPIO_STAT, n.val, 1⟩ 1,
      Op.submit w0 w1 ((t + (s.reg (A.GPIO_TRIG_DL n.val)).toNat) % 2 ^ 64) false fun
        | 0 => Op.pwr fun p => { p with accepted := p.accepted ||| m }
        | 1 => (Op.inc A.WEIR_TRIG_LOST).andThen
            (Op.draw fun i => Op.log 0x0009 Block.weir.num (Config.freeDword i).toNat (A.WEIR_TRIG_LOST - Block.weir.base))
        | 2 => Op.inc A.WEIR_INVALID
        | _ => Op.inc A.WEIR_TRIG_LOST ]

/-- Weir answers the bindings that await it: at the tick after their edges (log entry 39). -/
def Op.trigAnswers : Op := Op.each (List.finRange 4) fun n => Op.get fun s =>
  Op.when (s.bit ⟨A.GPIO_STAT, n.val, 1⟩)
    ((Op.set ⟨A.GPIO_STAT, n.val, 1⟩ 0).andThen (Op.when (s.blk.pwr.accepted.getLsbD n.val) (Op.inc (A.GPIO_TRIG_SUB n.val))))

/-- Whether an edge of a trigger pad reaches its binding. -/
def State.trigActs (s : State) (n : Fin 4) (rising : Bool) : Bool :=
  s.running .gpio && s.bankA
    && (s.fld (F.GPIO_TRIG_CFG_EDGE n.val)).testBit (if rising then 0 else 1)

/-- TRIGGER_EDGE: an edge of pad `TRIGn`; nothing comes of it while bank A is not usable (R519). An edge while the last one still awaits
Weir's answer is merged. -/
def execTriggerEdge (n : Fin 4) (rising : Bool) (s : State) : Host.Outcome State Fault Refusal :=
  ((Op.get fun s =>
    Op.all
      [ Op.pwr fun p => { p with
          trig := if rising then p.trig ||| BitVec.twoPow 4 n.val else p.trig &&& ~~~ BitVec.twoPow 4 n.val
          wake := p.wake || (s.bankA && p.standby && p.wakeMask.getLsbD n.val) },
        Op.when (s.trigActs n rising)
          (if s.bit ⟨A.GPIO_STAT, n.val, 1⟩ then Op.inc (A.GPIO_TRIG_OVR n.val) else Op.trigSubmit n) ])).go s

/-- USB_VBUS_CHANGE: `USB_DP` takes its pull-up while `USB_VBUS` is above 4.0 V. -/
def execUsbVbusChange (above : Bool) (s : State) : Host.Outcome State Fault Refusal := (Op.pwr fun p => { p with vbus := above }).go s

/-- The level of `LIGHT_FAILSAFE` (R512): nothing while the pad is high impedance. -/
def State.lightFailsafe (s : State) : Option Bool :=
  if s.domOn 2 then some !(s.powered .sys && s.bit F.SYS_ALIVE_ALIVE) else none

/-- Whether `USB_DP` has its pull-up (R520). -/
def State.usbPull (s : State) : Bool := s.blk.pwr.vbus && s.blk.pwr.svc && s.powered .svc && s.blk.pwr.vinGood

/-- What pad `GPIOn` is driven to by the module: nothing while it is high impedance (R523). -/
def State.gpioDrive (s : State) (n : Nat) : Option Bool :=
  if s.powered .gpio && s.bankA && (s.reg A.GPIO_DIR).getLsbD n then
    let v := (s.reg A.GPIO_OUT).getLsbD n
    if v && (s.reg A.GPIO_OD).getLsbD n then none else some v
  else none

end Sys2Proof.Machine
end

