-- ==== Sys2Proof/Machine/RadRx.lean ====
section
/-!
DEFINITION. Frames that RAD receives (R278 to R280, R288, R290, R291).
-/
namespace Sys2Proof.Machine

/-- A frame as it comes from a baseband: radio, PSDU without FCS, delimiter instant, signal, expected delimiter by the time parent's
slots and by the module's own (none during a scan). -/
structure Heard where
  r : Fin 3
  psdu : List Byte
  sof : Nat
  rssi : Nat
  lqi : Nat
  expect : Option (Int × Int)
  deriving DecidableEq, Repr

/-- Whether a frame is for this module (R280 step 2). A frame without a destination address passes. -/
def State.forUs (s : State) (m : Mhr) : Bool :=
  (match m.dpan with
    | some p => p == s.fld F.RAD_PAN_PANID || p == 0xFFFF
    | none => true)
  && (match m.dst with
    | some d => if m.dshort then d == 0xFFFF || d == s.fld F.RAD_PAN_SHORT else d == s.ownExt
    | none => true)

/-- The neighbour a frame comes from (step 3). -/
def State.sender (s : State) (m : Mhr) : Option Nat :=
  match m.src with
  | none => none
  | some a => s.findNbr fun i => if m.sshort then s.nbr i 0x08 2 == a else s.nbr i 0x00 8 == a

/-- The valid key entry that a secured frame names. -/
def State.keyFor (s : State) (m : Mhr) : Option Nat :=
  (List.range 8).find? fun k =>
    s.bit (F.RAD_KEY_CFG_VALID k) && s.fld (F.RAD_KEY_CFG_IDMODE k) == m.kmode && s.fld (F.RAD_KEY_CFG_INDEX k) == m.kidx
      && (m.kmode == 1 || (s.reg (A.RAD_KEY_SRC k)).toNat == m.ksrc)

/-- The counter slot of neighbour `n` for key entry `k` (R283): 0 or 1, and whether it already holds `k`. -/
def State.counterSlot (s : State) (n k : Nat) : Option (Nat × Bool) :=
  if s.nbr n 0x12 1 = k then some (0, true)
  else if s.nbr n 0x13 1 = k then some (1, true)
  else if s.nbr n 0x12 1 = 0xFF then some (0, false)
  else if s.nbr n 0x13 1 = 0xFF then some (1, false)
  else none

/-- The last accepted counter of a slot. -/
def State.lastFc (s : State) (n slot : Nat) : Nat := s.nbr n (0x14 + 4 * slot) 4

/-- What security tells of a frame: key entry, counter slot, whether the slot held the key. -/
abbrev Proof := Option (Nat × Nat × Bool)

/-- Step 4: the continuation gets the payload in the clear. -/
def Op.unseal (m : Mhr) (psdu : List Byte) (who : Option Nat) (k : Proof → List Byte → Op) : Op := Op.get fun s =>
  if !m.sec then k none (psdu.drop m.len)
  else if m.level < 5 || m.oddSec || (m.kmode != 1 && m.kmode != 2) then Op.inc A.RAD_RX_FMT
  else match s.keyFor m, who with
    | none, _ => Op.inc A.RAD_RX_SECERR
    | some _, none => Op.inc A.RAD_RX_UNKNOWN
    | some e, some n =>
      match s.counterSlot n e with
      | none => Op.inc A.RAD_RX_SECERR
      | some (slot, held) =>
        if held && m.fc < s.lastFc n slot then Op.inc A.RAD_RX_REPLAY
        else
          let open' := (s.openKey e).bind fun key =>
            ccmOpen key (nums (ccmNonce (s.nbr n 0 8) m.fc m.level)) (nums (psdu.take m.len)) (nums (psdu.drop m.len))
              (micLen m.level)
          match open' with
          | none => Op.inc A.RAD_RX_SECERR
          | some p => k (some (e, slot, held)) (octets p)

/-- The counter slot takes the frame counter (step 8). -/
def Op.takeFc (n : Nat) (pf : Proof) (fc : Nat) : Op :=
  match pf with
  | some (k, slot, _) => (Op.setNbr n (0x12 + slot) 1 k).andThen (Op.setNbr n (0x14 + 4 * slot) 4 fc)
  | none => Op.skip

/-! ### Acknowledgements -/

/-- The acknowledgement of a frame (step 9), secured as the frame was; none while the key entry is exhausted (R281). Frame
Pending tells a sleepy neighbour that its queue holds a frame (R290). -/
def Op.sendAck (h : Heard) (m : Mhr) (who : Option Nat) (pf : Proof) : Op := Op.get fun s =>
  let pend := match who with
    | some n => s.nbrFlag n 2 && s.blk.rad.queue.any (·.nbr == n)
    | none => false
  let tc := match h.expect with
    | some (_, own) => (-((h.sof : Int) - own)).tdiv 1000
    | none => 0
  let start := s.ackAt h.r h.sof (h.psdu.length + s.fcsLen h.r.val)
  let chan := match s.blk.rad.acts[h.r] with
    | .listens _ c _ _ _ _ _ _ _ => c
    | _ => 0
  let send (psdu : List Byte) : Op :=
    Op.all
      [ Op.onAir h.r psdu chan start,
        match who with
        | some n => Op.when pend (Op.hold n (s.blk.rad.asn.getD 0 % 2 ^ 40))
        | none => Op.skip ]
  if s.blk.rad.mute then Op.skip else match pf with
  | none => send (ackHeader m.seq pend [] tc)
  | some (e, _) =>
    match s.sealKey e with
    | none => Op.skip
    | some key => Op.takeCounter e fun
      | none => Op.skip
      | some fc => Op.get fun s =>
        let aux := auxHeader m.level m.kmode fc (s.reg (A.RAD_KEY_SRC e)).toNat (s.fld (F.RAD_KEY_CFG_INDEX e))
        let hdr := ackHeader m.seq pend aux tc
        send (hdr ++ octets (ccmSeal key (nums (ccmNonce s.ownExt fc m.level)) (nums hdr) [] (micLen m.level)))

/-- An acknowledgement has come for the frame in flight. -/
def Op.acked (n desc : Nat) : Op := Op.get fun s =>
  match s.blk.rad.queue.find? fun f => f.nbr == n && f.desc == desc && f.tries != 0 with
  | none => Op.skip
  | some f => (Op.setBackoff n (s.fld F.RAD_BACKOFF_MINBE) 0).andThen (Op.complete f 0)

/-- How far the module's own slots have moved from the time parent's as last observed, for an observation of neighbour `n` that was
made against the own slots (R286). -/
def State.moved (s : State) (n : Nat) (t : Int) : Int := if s.relay && n == s.parent then s.pred n t else 0

/-- An enhanced acknowledgement: steps 1 to 4, then the drift it reports (R285). Its counter must lie above the last one. -/
def Op.ackReceived (h : Heard) (m : Mhr) (n desc : Nat) : Op := Op.get fun s =>
  let seqOk := match m.seq, (s.blk.rad.queue.find? fun f => f.nbr == n && f.desc == desc) with
    | some a, some f => natBits (leAt 0 2 f.hdr) 8 1 == 1 || f.seq.getD (leAt 2 1 f.hdr) == a
    | _, _ => true
  Op.when (s.forUs m && seqOk)
    (Op.unseal m h.psdu (if n < 512 then some n else none) fun pf _ => Op.get fun s =>
      let fresh := match pf with
        | some (_, slot, true) => s.lastFc n slot < m.fc
        | _ => true
      Op.when fresh
        (Op.all
          [ Op.when (n < 512) (Op.takeFc n pf m.fc),
            match m.tcorr with
            | some z => Op.when (n < 512) (Op.get fun s => Op.observe n (z * 1000 + s.moved n h.sof) h.sof)
            | none => Op.skip,
            Op.acked n desc ]))

/-! ### Classes, delivery, fault reports -/

/-- The class of a frame (R279): the first enabled one that its first payload byte and its type match. -/
def State.classOf (s : State) (ftype : Nat) (payload : List Byte) : Option Nat :=
  match payload with
  | [] => none
  | b :: _ => (List.range 8).find? fun c =>
    let mask := s.fld (F.RAD_CLASS_MASK c)
    s.bit (F.RAD_CLASS_EN c) && (b.toNat &&& mask) == (s.fld (F.RAD_CLASS_VALUE c) &&& mask)
      && (s.fld (F.RAD_CLASS_FTYPE c) == 0 || (s.fld (F.RAD_CLASS_FTYPE c) == 1 && ftype == 1)
        || (s.fld (F.RAD_CLASS_FTYPE c) == 2 && ftype == 3))

/-- The reports of a fault frame as packets of R215: nothing where the length is not 1 + 13 × (1 to 8) (R291). -/
def faultReports (payload : List Byte) : Option (List (List DWord)) :=
  let n := (payload.length - 1) / 13
  if payload.length ≠ 1 + 13 * n ∨ n = 0 ∨ 8 < n then none
  else some ((List.range n).map fun i =>
    let o := 1 + 13 * i
    let place := leAt (o + 5) 8 payload
    [ BitVec.ofNat 64 (leAt o 2 payload + leAt (o + 2) 1 payload % 16 * 2 ^ 16 + leAt (o + 3) 2 payload % 2 ^ 14 * 2 ^ 20
        + place / 2 ^ 63 * 2 ^ 34),
      BitVec.ofNat 64 (place % 2 ^ 63) ])

def Arrival.rill : Arrival → Nat
  | .frame n _ _ => n
  | .report n _ => n

def Arrival.slots : Arrival → Nat
  | .frame _ _ _ => 1
  | .report _ body => body.length + 1

/-- Whether a rill has `need` free slots beside those that RAD's waiting pushes will take (R280 step 7). -/
def State.radRoom (s : State) (rill : Nat) (packet : Bool) (need : Nat) : Bool :=
  s.hasRoom (rillNo rill) packet (((s.blk.rad.arrived.filter (·.rill == rill)).map (·.slots)).sum + need)

/-- Pushes what a frame has brought, behind what waits for the same rill; a push that finds no room is lost and counts, and the buffer
of a lost frame comes back in hand (R280). -/
def Op.radPush (x : Arrival) : Op := Op.get fun s =>
  let wait := Op.rad fun r => { r with arrived := r.arrived ++ [x] }
  if s.blk.rad.arrived.any (·.rill == x.rill) then wait
  else match x with
    | .frame n v i => Op.hwPush (rillNo n) v fun
      | .ok => Op.inc A.RAD_RX_OK
      | .stopped => wait
      | .busy => wait
      | _ => (Op.rad fun r => { r with bufs := i :: r.bufs }).andThen (Op.inc A.RAD_RX_RILLFULL)
    | .report n body => Op.hwPacket .rad 2 (rillNo n) 0 body fun
      | .ok => Op.skip
      | .stopped => wait
      | .busy => wait
      | _ => (Op.setTold (Block.rad.place 2) false).andThen (Op.inc A.RAD_FLT_LOST)

/-- What waits is tried again, in its order. -/
def Op.radRetry : Op := Op.get fun s =>
  (Op.rad fun r => { r with arrived := [] }).andThen (Op.each s.blk.rad.arrived Op.radPush)

/-- The 64-byte record of a delivered frame (R278). -/
def State.rxRecord (s : State) (h : Heard) (m : Mhr) (who : Option Nat) (pf : Proof) (plen : Nat) (scan : Bool) (ext : Nat) :
    List Byte :=
  let chan := match s.blk.rad.acts[h.r] with
    | .listens _ c _ _ _ _ _ _ _ => c
    | _ => ((s.blk.rad.bank.map fun b => b.sub.getD s.blk.rad.scanCh 0).getD 0)
  let asn := s.blk.rad.asn.getD 0 % 2 ^ 40
  leBytes 8 h.sof ++ leBytes 8 asn ++ leBytes 8 ext ++ leBytes 2 (who.getD 0x3FF) ++ leBytes 2 m.len ++ leBytes 2 plen
    ++ leBytes 1 (h.r.val + m.ftype * 4) ++ leBytes 1 chan ++ leBytes 2 h.rssi ++ leBytes 1 h.lqi
    ++ leBytes 1 ((pf.map (·.1)).getD 0xFF) ++ leBytes 4 (if m.sec then m.fc else 0) ++ leBytes 1 (bit01 scan)
    ++ List.replicate 23 0

/-- Step 11: the frame goes into the oldest buffer in hand and its item into the class rill (R278). The source address of a
frame from no neighbour that carries no extended address is a value the spec does not state (log entry 11). -/
def Op.radDeliver (h : Heard) (m : Mhr) (who : Option Nat) (pf : Proof) (payload : List Byte) (cls rill : Nat) (scan : Bool) :
    Op := Op.get fun s =>
  match s.blk.rad.bufs with
  | [] => Op.inc A.RAD_RX_NOBUF
  | i :: rest => Op.draw fun fr =>
    let ext := match m.src, who with
      | some a, some n => if m.sshort then s.nbr n 0 8 else a
      | some a, none => if m.sshort then (Config.freeDword fr).toNat else a
      | none, _ => (Config.freeDword fr).toNat
    let a := (s.reg A.RAD_RXBUF_BASE).toNat + 2112 * i
    let bs := s.rxRecord h m who pf payload.length scan ext ++ h.psdu.take m.len ++ payload
    let item := i + (m.len + payload.length) % 2 ^ 12 * 2 ^ 16 + cls * 2 ^ 28 + who.getD 0x3FF * 2 ^ 32
    if !(s.reaches a && s.reaches (a + bs.length - 1)) then Op.set F.RAD_ERR_RXBUS 1
    else
      Op.all
        [ Op.hwWrite a bs, Op.rad fun r => { r with bufs := rest }, Op.radPush (.frame rill (BitVec.ofNat 64 item) i) ]

/-- The fault path (R291). -/
def Op.deliverFaults (reports : List (List DWord)) : Op := Op.get fun s =>
  (Op.inc A.RAD_RX_OK).andThen
    (Op.each reports fun body => Op.radPush (.report (s.fld F.RAD_RX_CFG_FLT_RILL) body))

/-! ### Beacons -/

/-- A beacon ends the scan (R288): its sender becomes time parent, its ASN is taken. -/
def Op.adoptBeacon (h : Heard) (n asn : Nat) : Op := Op.get fun s =>
  Op.all
    [ Op.adopt n,
      Op.rad fun r => { r with
        base := (h.sof : Int) - s.fld F.RAD_TMPL_A_TXOFF * 1000 - (asn : Int) * s.slotNs
        asn := none, scanFor := none, timed := true },
      Op.setNbr n 0x28 4 0,
      Op.setNbr n 0x20 8 h.sof,
      Op.setNbr n 0x1E 2 (max 1 (s.nbr n 0x1E 2)),
      Op.set F.RAD_SYNC_MISS 0,
      Op.set F.RAD_STAT_SCANNING 0,
      Op.set F.RAD_STAT_SYNCED 1,
      Op.radEvent 6 n 0 ]

/-- What an accepted beacon does for the module's own timing. -/
def Op.beaconHeard (h : Heard) (m : Mhr) (who : Option Nat) (payload : List Byte) (scan : Bool) : Op := Op.get fun s =>
  match who with
  | none => Op.skip
  | some n =>
    if m.ftype ≠ 0 then Op.skip
    else if scan then
      let wanted := match s.blk.rad.scanFor with
        | some p => p == n
        | none => s.nbrFlag n 1
      match syncAt (payload.length + 1) 0 payload with
      | some o => Op.when wanted (Op.adoptBeacon h n (leAt o 5 payload))
      | none => Op.skip
    else Op.when (s.relay && n == s.parent)
      ((Op.set F.RAD_SYNC_MISS 0).andThen (Op.rad fun r => { r with
        acts := r.acts.set h.r (match r.acts[h.r] with
          | .listens a b c d e o f _ g => .listens a b c d e o f true g
          | x => x) }))

/-! ### A received frame -/

/-- Steps 8 to 11 of an accepted frame. -/
def Op.acceptFrame (h : Heard) (m : Mhr) (who : Option Nat) (pf : Proof) (payload : List Byte) (scan : Bool) (last : Op) : Op :=
  Op.all
    [ match who with
      | some n =>
        Op.all
          [ Op.takeFc n pf m.fc,
            match m.seq with
            | some q => (Op.setNbr n 0x1C 1 q).andThen (Op.setNbr n 0x1D 1 1)
            | none => Op.skip ]
      | none => Op.skip,
      Op.when m.ackReq (Op.sendAck h m who pf),
      match who with
      | some n =>
        Op.all
          [ match h.expect with
            | some (expect, own) => Op.get fun s =>
              Op.observe n ((h.sof : Int) - (if s.relay && n == s.parent then expect else own)) h.sof
            | none => Op.skip,
            Op.setNbr n 0x38 8 h.sof,
            Op.get fun s => Op.when (s.nbrFlag n 3) ((Op.setNbrFlag n 3 false).andThen (Op.radEvent 2 n 0)) ]
      | none => Op.skip,
      last,
      Op.beaconHeard h m who payload scan ]

/-- Whether a frame repeats the last one accepted (step 6). -/
def State.duplicate (s : State) (m : Mhr) (who : Option Nat) (pf : Proof) : Bool :=
  match who with
  | none => false
  | some n =>
    (match pf with
      | some (_, slot, true) => m.fc == s.lastFc n slot
      | _ => false)
    || ((m.ftype == 3 || !m.sec) && s.nbr n 0x1D 1 % 2 == 1
      && (match m.seq with | some q => s.nbr n 0x1C 1 == q | none => false))

/-- Steps 2 to 11 for a frame that is no acknowledgement. -/
def Op.radReceived (h : Heard) (m : Mhr) (scan : Bool) : Op := Op.get fun s =>
  Op.when (s.forUs m)
    (let who := s.sender m
     Op.unseal m h.psdu who fun pf payload => Op.get fun s =>
      let cls := s.classOf m.ftype payload
      let has (f : Nat → Fld) : Bool := match cls with | some c => s.bit (f c) | none => false
      let rill := match cls with | some c => s.fld (F.RAD_CLASS_RILL c) | none => s.fld F.RAD_RX_CFG_DEFRILL
      if !m.sec && has F.RAD_CLASS_SECREQ then Op.inc A.RAD_RX_SECERR
      else if s.duplicate m who pf then
        (Op.inc A.RAD_STAT_DUPS).andThen (Op.when m.ackReq (Op.sendAck h m who pf))
      else if has F.RAD_CLASS_FAULT then
        match faultReports payload with
        | none => Op.inc A.RAD_RX_FMT
        | some reports =>
          if !(s.radRoom (s.fld F.RAD_RX_CFG_FLT_RILL) true (3 * reports.length)) then Op.inc A.RAD_RX_RILLFULL
          else Op.acceptFrame h m who pf payload scan (Op.deliverFaults reports)
      else if s.blk.rad.bufs.isEmpty then Op.inc A.RAD_RX_NOBUF
      else if !(s.radRoom rill false 1) then Op.inc A.RAD_RX_RILLFULL
      else Op.acceptFrame h m who pf payload scan (Op.radDeliver h m who pf payload (cls.getD 15) rill scan))

/-- Steps 1 and the form of R265, then the frame's own path. -/
def Op.radioFrame (h : Heard) (fcsGood scan : Bool) (ack : Option (Nat × Nat)) : Op := Op.get fun s =>
  if !fcsGood then Op.inc A.RAD_RX_FCS
  else if s.frameLimit h.r.val < h.psdu.length + s.fcsLen h.r.val then Op.inc A.RAD_RX_FMT
  else match parseMhr none h.psdu with
    | none => Op.inc A.RAD_RX_FMT
    | some m =>
      if m.version ≠ 2 ∨ 3 < m.ftype then Op.inc A.RAD_RX_FMT
      else match ack with
        | some (n, desc) => Op.when (m.ftype == 2) (Op.ackReceived h m n desc)
        | none => Op.when (m.ftype != 2 && (!scan || m.ftype == 0)) (Op.radReceived h m scan)

/-- A frame reaches RAD from a baseband: in the receive window of the radio's cell, as the acknowledgement it awaits, for `ACKWAIT`
around its expected start (R273), or while radio 0 scans. -/
def Op.radReceive (r : Fin 3) (psdu : List Byte) (fcsGood : Bool) (sof rssi lqi : Nat) : Op := Op.get fun s =>
  let h (e : Option (Int × Int)) : Heard := ⟨r, psdu, sof, rssi, lqi, e⟩
  Op.when (s.running .rad && sof ≤ s.now)
    (if s.bit F.RAD_STAT_SCANNING && r.val == 0 then Op.radioFrame (h none) fcsGood true none
     else match s.blk.rad.acts[r] with
      | .listens n c centre half expect own beacon heard false =>
        Op.when (decide (((sof : Int) - centre).natAbs ≤ half))
          ((Op.setAct r (.listens n c centre half expect own beacon heard true)).andThen
            (Op.radioFrame (h (some (expect, own))) fcsGood false none))
      | .awaits n desc _ ack =>
        Op.when (decide (((sof : Int) - ack).natAbs ≤ s.fld F.RAD_TMPL_C_ACKWAIT * 500))
          (Op.radioFrame (h none) fcsGood false (some (n, desc)))
      | _ => Op.skip)

/-- RAD receives a frame: radio, PSDU without FCS, whether its FCS is good, time base of the delimiter, RSSI, LQI. -/
def execRadioFrameReceive (r : Fin 3) (psdu : List Byte) (fcsGood : Bool) (sof : BitVec 64) (rssi : BitVec 16) (lqi : BitVec 8)
    (s : State) : Host.Outcome State Fault Refusal :=
  (Op.radReceive r psdu fcsGood sof.toNat rssi.toNat lqi.toNat).go s

end Sys2Proof.Machine
end

