-- ==== Sys2Proof/Machine/BusRead.lean ====
section
/-!
DEFINITION. What a read of a register returns and does (R7): fields that show the state of a block, fields that a read clears,
pairs that a read latches, windows.
-/
namespace Sys2Proof.Machine

/-- Which of an array's registers stands at an address: base, distance, number. -/
def regIndex (base stride count a : Nat) : Option Nat :=
  if base ≤ a ∧ (a - base) % stride = 0 ∧ (a - base) / stride < count then some ((a - base) / stride) else none

/-- How many cores satisfy `p`. -/
def countCores (p : CoreId → Bool) : Nat := (List.finRange 24).countP p

/-- Whether a core waits in dispatch TAKE. -/
def State.takeWaits (s : State) (c : CoreId) : Bool := s.blk.weir.waiting.any (·.1 == c)

/-! ### What registers show -/

/-- The counts that Weir shows (R158). A model choice (log entry 27): a core re-mapped while it runs an item counts as running for its new
group. -/
def State.peekWeir (s : State) (a : Nat) : Word :=
  if a = A.WEIR_STAT then
    BitVec.ofNat 32 (s.blk.weir.ready.length + countCores (fun c => s.coreEn c && s.takeWaits c) * 2 ^ 16)
  else
    match regIndex (A.WEIR_GSTAT 0) 0x10 4 a with
    | none => s.reg a
    | some g =>
      BitVec.ofNat 32
        (s.blk.weir.ready.countP (·.group == g)
          + countCores (fun c => s.coreEn c && s.groupOf c == g && s.takeWaits c) * 2 ^ 16
          + countCores (fun c => s.groupOf c == g && (s.core c).work.isSome) * 2 ^ 24)

/-- The positions and flags of the rills (R147, R159). -/
def State.peekRill (s : State) (a : Nat) : Word :=
  let pos (n p : Nat) : Nat := p % s.rillSize (rillNo n) % 2 ^ 16
  match regIndex (A.RILL_RD 0) 0x40 64 a, regIndex (A.RILL_WR 0) 0x40 64 a, regIndex (A.RILL_STATE 0) 0x40 64 a with
  | some n, _, _ => BitVec.ofNat 32 (pos n (s.rill (rillNo n)).rd + pos n (s.rill (rillNo n)).rl * 2 ^ 16)
  | _, some n, _ => BitVec.ofNat 32 (pos n (s.rill (rillNo n)).wr + pos n (s.rill (rillNo n)).vis * 2 ^ 16)
  | _, _, some n =>
    let r := s.rill (rillNo n)
    BitVec.ofNat 32
      (pos n r.mark + bit01 r.markOff.isSome * 2 ^ 16 + bit01 r.pkt.isSome * 2 ^ 17 + bit01 r.armed * 2 ^ 18
        + bit01 (r.occ == s.rillSize (rillNo n)) * 2 ^ 19)
  | _, _, _ => s.reg a

/-- The lamp engine's batches and its curve window (R166, R173). -/
def State.peekLamp (s : State) (a : Nat) : Word :=
  if a = A.LAMP_STAT then
    BitVec.ofNat 32 (s.blk.lamp.held.length + bit01 s.blk.lamp.cur.isSome + bit01 s.blk.lamp.cur.isSome * 2 ^ 8)
  else if a = A.LAMP_CURVE_DATA then BitVec.ofNat 32 s.curveData
  else s.reg a

/-- CORR's time flag, its waiting packet and its fault table (R198, R214, R216). -/
def State.peekCorr (s : State) (a : Nat) : Word :=
  if a = A.CORR_STAT then withField (withField (s.reg a) 0 1 (bit01 !s.timeSet)) 2 1 (bit01 s.outWait)
  else if a = A.CORR_FLT_OCC then BitVec.ofNat 32 s.blk.corr.faults.length
  else s.reg a

/-- FLK's lock and the period it measures (R225). -/
def State.peekFlk (s : State) (a : Nat) : Word :=
  if a = A.FLK_STAT then withField (s.reg a) 0 1 (bit01 s.flkLocked)
  else if a = A.FLK_PERIOD then BitVec.ofNat 32 s.flkPeriod
  else s.reg a

/-- An Ethernet port's group table window (R301). -/
def State.peekEth (s : State) (x : Fin 2) (a : Nat) : Word := if a = A.ETH_MC_DATA x then s.groupData x else s.reg a

/-- CAN's pending requests and its entries (R334, R338). -/
def State.peekCan (s : State) (a : Nat) : Word :=
  if a = A.CAN_TX_REQ then s.reg A.CAN_TX_PEND
  else if isTxEntry a || isRxEntry a then s.canEntryRead a
  else s.reg a

/-- The pads whose level the module itself fixes: the level, or nothing where it comes from outside (R519, R523). -/
def State.padLevel (s : State) (n : Nat) : Option Bool :=
  if !s.bankA then some (n < 24)
  else if n < 24 then s.gpioDrive n
  else some (s.blk.pwr.trig.getLsbD (n - 24))

/-- What a read of a register shows, apart from what the read itself does. -/
def State.peek (s : State) (a : Nat) : Word :=
  match blockAt a with
  | some .weir => s.peekWeir a
  | some .rill => s.peekRill a
  | some .lamp => s.peekLamp a
  | some .corr => s.peekCorr a
  | some .flk => s.peekFlk a
  | some .etha => s.peekEth 0 a
  | some .ethb => s.peekEth 1 a
  | some .can => s.peekCan a
  | some .met => if a = A.MET_STAT then withField (s.reg a) 2 1 (bit01 !s.timeSet) else s.reg a
  | some .oxb => if a = A.OXB_PEER then withField (s.reg a) 16 16 s.peerAge else s.reg a
  | some .upd => if a = A.UPD_LEFT then BitVec.ofNat 32 s.trialLeft else s.reg a
  | some .gnt => if a = A.GNT_SLOT_INFO then s.slotInfo else s.reg a
  | some .lcs =>
    if a = A.LCS_STAT then withField (s.reg a) 7 1 (bit01 ((List.finRange 24).any fun c => (s.core c).attached)) else s.reg a
  | some .sys => if a = A.SYS_STAT then withField (s.reg a) 6 1 (bit01 (3800 ≤ s.vhold)) else s.reg a
  | some .recd => if a = A.REC_STAT then withField (s.reg a) 2 5 s.blk.rcd.queue.length else s.reg a
  | some .gpio => if a = A.GPIO_OUT_SET ∨ a = A.GPIO_OUT_CLR then s.reg A.GPIO_OUT else s.reg a
  | _ => s.reg a

/-! ### Values from outside -/

/-- Fills the bits of `mask` from a value that the module measures or that a pad brings (log entry 18). -/
def Op.measured32 (v mask : Word) (k : Word → Op) : Op :=
  Op.draw fun n => k ((v &&& ~~~ mask) ||| (loWord (Config.freeDword n) &&& mask))

/-- The bits of `GPIO_IN` that come from outside, and the others. -/
def State.padBits (s : State) : Nat × Nat :=
  (List.range 28).foldl
    (fun p n => match s.padLevel n with
      | some b => (p.1, p.2 + bit01 b * 2 ^ n)
      | none => (p.1 + 2 ^ n, p.2)) (0, 0)

/-! ### What a read does -/

/-- Sets the upper half of a pair and returns the lower half (R7, type RL). -/
def Op.latchPair (hi v : Nat) (k : Word → Op) : Op := (Op.setReg hi (v / 2 ^ 32 % 2 ^ 32)).andThen (k (BitVec.ofNat 32 v))

/-- Clears the fields that a read clears (R7, type RC). -/
def Op.clearRc (a : Nat) : Op := Op.get fun s =>
  match regAt a with
  | none => Op.skip
  | some r =>
    Op.when (r.fields.any (·.ty == .rc))
      (Op.putReg a ((r.fields.filter (·.ty == .rc)).foldl (fun v f => withField v f.lo f.w 0) (s.reg a)))

/-- Reads what the register shows, then clears what the read clears. -/
def Op.readPlain (a : Nat) (k : Word → Op) : Op := Op.get fun s => (Op.clearRc a).andThen (k (s.peek a &&& readMask a))

def Op.readSys (a : Nat) (k : Word → Op) : Op :=
  if a = A.SYS_MON then Op.get fun s => Op.measured32 (s.reg a) (fieldMask 16 10) k
  else if a = A.SYS_TEMP then Op.measured32 0 (regMask a) k
  else Op.readPlain a k

def Op.readCorr (a : Nat) (k : Word → Op) : Op := Op.get fun s =>
  if a = A.CORR_CAL_DATE then Op.latchCalendar.andThen (Op.readPlain a k)
  else if a = A.CORR_SOL_QEL then (Op.putReg A.CORR_SOL_QAZ s.blk.corr.queryAz).andThen (Op.readPlain a k)
  else
    match regIndex (A.CORR_SITE_EL 0) 0x20 4 a with
    | some n => (Op.putReg (A.CORR_SITE_AZ n) (s.blk.corr.azimuth.toList.getD n 0)).andThen (Op.readPlain a k)
    | none => Op.readPlain a k

def Op.readFlk (a : Nat) (k : Word → Op) : Op := Op.get fun s =>
  let f := s.blk.shows.flk
  if a = A.FLK_FRAME_LO then Op.latchPair A.FLK_FRAME_HI f.frame k
  else if a = A.FLK_NEXT_LO then Op.latchPair A.FLK_NEXT_HI (((f.next.map (·.1)).getD 0) % 2 ^ 64) k
  else if a = A.FLK_LTC_COUNT then
    Op.all
      [ Op.setReg A.FLK_LTC_STAMP_LO (f.ltcStamp % 2 ^ 32), Op.setReg A.FLK_LTC_STAMP_HI (f.ltcStamp / 2 ^ 32 % 2 ^ 32),
        Op.readPlain a k ]
  else Op.readPlain a k

def Op.readBon (a : Nat) (k : Word → Op) : Op := Op.get fun s =>
  if a = A.BON_RTC_SEC_LO ∨ a = A.BON_RTC_SEC_HI ∨ a = A.BON_RTC_SUB then Op.freeze.andThen (Op.readPlain a k)
  else if a = A.BON_RTC_RELEASE then Op.unfreeze.andThen (k (BitVec.ofNat 32 s.sinceFreeze))
  else
    match regIndex (A.BON_CS 0) 4 1024 a with
    | some w => Op.csRead (4 * w) fun
      | some v => k v
      | none => k 0xFFFFFFFF
    | none => Op.readPlain a k

def Op.readGpio (a : Nat) (k : Word → Op) : Op := Op.get fun s =>
  if a = A.GPIO_IN then Op.measured32 (BitVec.ofNat 32 s.padBits.2) (BitVec.ofNat 32 s.padBits.1) k
  else
    match regIndex (A.GPIO_TRIG_STAMP_LO 0) 0x20 4 a with
    | some n => Op.latchPair (A.GPIO_TRIG_STAMP_HI n) (s.blk.pwr.stamps.toList.getD n 0) k
    | none => Op.readPlain a k

/-- A read of a register in a block that has power (R7); an offset without a register reads zero (R35). -/
def Op.readReg (a : Nat) (k : Word → Op) : Op := Op.get fun s =>
  match blockAt a with
  | some .sys => Op.readSys a k
  | some .lamp => if a = A.LAMP_CURVE_DATA then Op.readCurve k else Op.readPlain a k
  | some .corr => Op.readCorr a k
  | some .flk => Op.readFlk a k
  | some .rad => if a = A.RAD_ASN_LO then Op.latchPair A.RAD_ASN_HI ((s.asnNow).getD 0 % 2 ^ 40) k else Op.readPlain a k
  | some .tsu => if a = A.TSU_TIME_LO then Op.latchPair A.TSU_TIME_HI s.now k else Op.readPlain a k
  | some .can => if isTxEntry a || isRxEntry a then k (s.peek a) else Op.readPlain a k
  | some .met => if a = A.MET_EVAL_LO then Op.evalRead.andThen (Op.readPlain a k) else Op.readPlain a k
  | some .bon => Op.readBon a k
  | some .recd =>
    if a = A.REC_WIN 7 then Op.get fun s => Op.nextWindow.andThen (k (s.reg a)) else Op.readPlain a k
  | some .gpio => Op.readGpio a k
  | _ => Op.readPlain a k

end Sys2Proof.Machine
end

