-- ==== Sys2Proof/Machine/BusWrite.lean ====
section
/-!
DEFINITION. What a write of a register does (R7, R8, R10 to R13): the stop-only check, the fields, and the effect of the registers
that act.
-/
namespace Sys2Proof.Machine

/-! ### Fields (R7, R8, R11) -/

/-- Whether stop-only fields hold: `RUN` reads 1, or CORR loads its image (R11, R195). -/
def State.stopHeld (s : State) (b : Block) : Bool := s.bit b.run || (b == .corr && s.bit F.CORR_STAT_LOADING)

/-- The value a stop-only field holds, for the comparison of R11; 0 for a field that only acts. -/
def State.heldField (s : State) (a : Nat) (f : FieldD) : Nat := if f.ty = .wo then 0 else fieldOf (s.peek a) f.lo f.w

/-- Whether a write carries another value than the held one in some stop-only field. -/
def State.stopDiffers (s : State) (r : RegD) (a : Nat) (v : Word) : Bool :=
  r.fields.any fun f => f.stop && fieldOf v f.lo f.w != s.heldField a f

/-- What a write leaves in a register, field by field; with `keep`, stop-only fields stay. -/
def writtenWord (r : RegD) (keep : Bool) (old v : Word) : Word :=
  r.fields.foldl
    (fun x f =>
      if f.stop && keep then x
      else
        match f.ty with
        | .rw => withField x f.lo f.w (fieldOf v f.lo f.w)
        | .w1c => x &&& ~~~ (v &&& fieldMask f.lo f.w)
        | .w1s => x ||| (v &&& fieldMask f.lo f.w)
        | _ => x)
    old

/-- The plain effect of a write, after the check of R11: the fields of the register take what they take. -/
def Op.plainWrite (b : Block) (r : RegD) (a : Nat) (v : Word) : Op := Op.get fun s =>
  Op.putReg a (writtenWord r (s.stopHeld b) (s.reg a) v)

/-! ### Weir and the rills (R144, R149) -/

/-- Removes the ready items of the flagged groups (R144). -/
def Op.flushGroups (groups : Nat) : Op := Op.get fun s =>
  let gone (i : Item) : Bool := natBits groups i.group 1 == 1
  (Op.weir fun w => { w with ready := w.ready.filter fun i => !(gone i) }).andThen
    (Op.count A.WEIR_FLUSHED (s.blk.weir.ready.countP gone))

/-- The open packet of a core on a rill becomes broken: `cx.popen` says so (R112, R149). A block's packet is never open between
two commands. -/
def Op.breakPacket (n : RillNo) : Op := Op.get fun s =>
  match (s.rill n).pkt with
  | some (.core c) => Op.core c fun k => { k with popen := popenWord true n k.popenCount }
  | _ => Op.skip

/-- Every core that waits in TAKE on a rill raises RILL_OFF (R149). -/
def Op.failTakes (n : RillNo) : Op := Op.get fun s =>
  Op.each (s.rill n).waiters fun c =>
    Op.all
      [ Op.rill n fun r => { r with waiters := r.waiters.filter (· != c) },
        Op.raiseWaiting c 0x23 (BitVec.ofNat 32 n.val) ]

/-- Enables a rill whose enable bit reads 0 (R149). -/
def Op.enableRill (n : RillNo) : Op := Op.rill n fun _ => Rill.reset

/-- Disables a rill whose enable bit reads 1 (R149). A model choice (log entry 26): its positions stand at 0 from then on, not only from the
next enable. -/
def Op.disableRill (n : RillNo) : Op := Op.get fun s =>
  Op.all
    [ Op.count A.RILL_DISCARDED (s.rill n).occ,
      Op.breakPacket n,
      Op.failTakes n,
      Op.rill n fun r => { r with rl := 0, nread := 0, unread := 0, npkt := 0, markOff := none, pkt := none },
      Op.brim n ]

/-- The enable register that holds a rill's bit. -/
def enableFld (n : RillNo) : Fld := ⟨if n.val < 32 then A.RILL_EN_LO else A.RILL_EN_HI, n.val % 32, 1⟩

/-- Writes a rill's enable bit. -/
def Op.writeEnable (n : RillNo) (on : Bool) : Op := Op.get fun s =>
  Op.when (s.rillEn n != on)
    ((Op.set (enableFld n) (bit01 on)).andThen (if on then Op.enableRill n else Op.disableRill n))

/-- A write of `RILL_EN_LO` (`hi` false) or `RILL_EN_HI`. -/
def Op.writeEnables (hi : Bool) (v : Word) : Op :=
  Op.each (List.range 32) fun i => Op.writeEnable (rillNo (i + 32 * bit01 hi)) (v.getLsbD i)

/-! ### Registers that act, block by block -/

/-- Firmware sets a field to what the written value becomes. -/
def Op.clampFld (f : Fld) (g : Nat → Nat) : Op := Op.get fun s => Op.set f (g (s.fld f))

def Op.writeSys (c : CoreId) (a : Nat) (v : Word) (plain : Op) : Op :=
  if a = A.SYS_RST_CMD then Op.rstCmd v
  else if a = A.SYS_PERF then Op.perfWrite v
  else if a = A.SYS_PWR_EN then Op.pwrEn c v
  else if a = A.SYS_CORE_RST then Op.coreRst v
  else if a = A.SYS_WDOG then Op.wdogWrite v
  else if a = A.SYS_KICK then Op.kick
  else if a = A.SYS_ALIVE then Op.aliveWrite v
  else plain

/-- `LAMP_RECCNT` holds at most 65,536, `LAMP_CURVE_ADDR` an index up to 256 and a curve from 1 (R160, R166). -/
def Op.writeLamp (a : Nat) (v : Word) (held differs : Bool) (plain : Op) : Op :=
  if a = A.LAMP_RECCNT then plain.andThen (Op.clampFld F.LAMP_RECCNT_COUNT (min 65536))
  else if a = A.LAMP_CURVE_ADDR then
    plain.andThen ((Op.clampFld F.LAMP_CURVE_ADDR_INDEX (min 256)).andThen (Op.clampFld F.LAMP_CURVE_ADDR_CURVE (max 1)))
  else if a = A.LAMP_CURVE_DATA then
    if differs then Op.skip else if held then Op.curveNext else Op.writeCurve v.toNat
  else plain

def Op.writeCorr (a : Nat) (v : Word) (plain : Op) : Op :=
  if a = A.CORR_FLT_FLUSH then Op.when (v.getLsbD 0) Op.flushFaults
  else if a = A.CORR_SOL_QT_HI then Op.solarQuery v
  else if a = A.CORR_TAI_UTC then Op.writeTai plain
  else plain

/-- Whether a bank's registers are held while the block runs: the bank in use, and the bank named for the next switch. -/
def State.bankHeld (s : State) (b : Block) (used next n : Nat) : Bool := s.bit b.run && (n == used || n == next)

/-- A write of a register of a bank: refused as R11 states while the bank is held. -/
def Op.writeBank (b : Block) (used next : Fld) (n a : Nat) (v : Word) (plain : Op) : Op := Op.get fun s =>
  if s.bankHeld b (s.fld used) (s.fld next) n then Op.when (v &&& regMask a != s.reg a) (Op.refuseStopOnly b a v) else plain

def Op.writePmap (a : Nat) (v : Word) (plain : Op) : Op :=
  if A.PMAP_PLIST 0 ≤ a ∧ a < A.PMAP_PLIST 2 then
    Op.writeBank .pmap F.PMAP_STAT_BANK F.PMAP_BANK_NEXT ((a - A.PMAP_PLIST 0) / 0x10) a v plain
  else plain

def Op.writePxp (a : Nat) (v : Word) (plain : Op) : Op :=
  match regIndex (A.PXP_RDM_CTL 0) 0x20 16 a with
  | some p => Op.rdmRequest (Fin.ofNat 16 p) v
  | none => plain

def Op.writeRad (a : Nat) (v : Word) (plain : Op) : Op :=
  if a = A.RAD_SCHED_BASE0 then Op.writeBank .rad F.RAD_STAT_BANK F.RAD_SCHED_BANK_NEXT 0 a v plain
  else if a = A.RAD_SCHED_BASE1 then Op.writeBank .rad F.RAD_STAT_BANK F.RAD_SCHED_BANK_NEXT 1 a v plain
  else if a = A.RAD_SCHED_BANK then Op.bankRequest (v.getLsbD 0)
  else if a = A.RAD_SYNC then Op.parentWrite (fieldOf v 0 10)
  else if a = A.RAD_CAL then Op.calWrite v
  else if a = A.RAD_KEY_CMD then Op.when (v.getLsbD 3) (Op.newKey (fieldOf v 0 3))
  else if a = A.RAD_NBR_CMD then Op.nbrCommand v
  else
    match regIndex (A.RAD_KEY_NEXT_CEIL 0) 0x20 8 a with
    | some k => Op.armBlock k v
    | none =>
      match (regIndex (A.RAD_KEY_FC 0) 0x20 8 a).or (regIndex (A.RAD_KEY_CEIL 0) 0x20 8 a) with
      | some k => Op.get fun s => plain.andThen (Op.when (!(s.stopHeld .rad)) (Op.keyRange k))
      | none => plain

def Op.writeEth (x : Fin 2) (a : Nat) (v : Word) (held : Bool) (plain : Op) : Op :=
  if a = A.ETH_CFG x then if held then plain else Op.writeEthCfg x v plain
  else if a = A.ETH_MC_DATA x then Op.when (!held) (Op.writeGroup x v)
  else if a = A.ETHA_MDIO_CMD then Op.mdioWrite v
  else plain

def Op.writeTsu (a : Nat) (v : Word) (plain : Op) : Op :=
  if a = A.TSU_CMD then
    match fieldOf v 0 2 with
    | 1 => Op.timeSet
    | 2 => Op.stepCmd
    | 3 => Op.acquireCmd
    | _ => Op.skip
  else if a = A.TSU_SRC then plain.andThen (Op.selWrite (fieldOf v 0 2))
  else if a = A.TSU_PPSO then Op.ppsoWrite plain
  else if a = A.TSU_PPSI then Op.ppsiWrite plain
  else if a = A.TSU_T_MT_LO 2 ∨ a = A.TSU_T_MT_HI 2 ∨ a = A.TSU_T_MO_LO 2 ∨ a = A.TSU_T_MO_HI 2 then Op.skip
  else
    match regIndex (A.TSU_T_MO_HI 0) 0x20 3 a with
    | some k => plain.andThen (Op.submit3 (Fin.ofNat 3 k) v)
    | none => plain

def Op.writeCan (a : Nat) (v : Word) (plain : Op) : Op :=
  if a = A.CAN_CMD then
    (Op.when (v.getLsbD 0) Op.canRecover).andThen (Op.when (v.getLsbD 1) (Op.each (List.range 32) Op.txCancel))
  else if a = A.CAN_TX_REQ then Op.each (onesOf v) Op.txRequest
  else if a = A.CAN_TX_CANCEL then Op.each (onesOf v) Op.txCancel
  else plain

def Op.writeMet (a : Nat) (v : Word) (held : Bool) (plain : Op) : Op :=
  if a = A.MET_TAI_UTC then Op.taiWrite v
  else if a = A.MET_CMD then (Op.when (v.getLsbD 0) Op.metSnap).andThen (Op.when (v.getLsbD 1 && !held) Op.metPreset)
  else if a = A.MET_ESEL then Op.eselWrite v
  else plain

def Op.writeOxb (a : Nat) (v : Word) (plain : Op) : Op :=
  if a = A.OXB_KICK then Op.oxbKick
  else if a = A.OXB_CMD then (Op.when (v.getLsbD 0) Op.yieldCmd).andThen (Op.when (v.getLsbD 1) Op.safePoint)
  else if a = A.OXB_READY then Op.readyWrite v
  else if a = A.OXB_RES then Op.resWrite v
  else if a = A.OXB_TX_CTL then Op.txWrite v
  else if a = A.OXB_RX_FULL then Op.rxReturn v
  else if a = A.OXB_ST then plain.andThen (Op.when (v.getLsbD 0) Op.selfTestRequest)
  else plain

/-- `UPD_TRIAL.MINUTES` holds at least 1 (R408). -/
def Op.writeUpd (a : Nat) (v : Word) (plain : Op) : Op :=
  if a = A.UPD_CMD then Op.updCmd v
  else if a = A.UPD_CC_CTL then Op.when (v.getLsbD 0) Op.compatCheck
  else if a = A.UPD_TRIAL then plain.andThen (Op.clampFld F.UPD_TRIAL_MINUTES (max 1))
  else plain

def Op.writeMem (a : Nat) (v : Word) (plain : Op) : Op :=
  if a = A.MEM_MAINT_REQ then Op.maintWrite v
  else if a = A.MEM_INIT_CTL then Op.initWrite v
  else if a = A.MEM_FLIP_CFG then Op.flipWrite v
  else if a = A.MEM_EVT then plain.andThen (Op.get fun s => Op.when (!(s.bit F.MEM_EVT_EN)) (Op.dropEvq .mem))
  else
    match regIndex (A.MEM_BREMAP 0) 4 8 a, regIndex (A.MEM_DREMAP 0) 4 16 a with
    | some e, _ => Op.remapWrite false e v
    | _, some e => Op.remapWrite true e v
    | _, _ => plain

/-- A write of `BON_TAMPER_CFG`: an input whose active level changes has no sample at the new one yet (R483). -/
def Op.tamperWrite (v : Word) (plain : Op) : Op := Op.get fun s =>
  plain.andThen (Op.each [(0 : Fin 2), 1] fun t =>
    Op.when (v.getLsbD (1 + 8 * t.val) != (s.reg A.BON_TAMPER_CFG).getLsbD (1 + 8 * t.val))
      (Op.bon fun b => { b with active := b.active.set t 0 }))

def Op.writeBon (a : Nat) (v : Word) (plain : Op) : Op :=
  if a = A.BON_CMD then (Op.when (v.getLsbD 0) Op.rtcSet).andThen (Op.when (v.getLsbD 1) Op.rtcSync)
  else if a = A.BON_TRIM then Op.trimWrite v
  else if a = A.BON_TAMPER_CFG then Op.tamperWrite v plain
  else if A.BON_ALARM_SEC_LO 0 ≤ a ∧ a < A.BON_ALARM_SEC_LO 4 then
    Op.alarmWrite ((a - A.BON_ALARM_SEC_LO 0) / 0x10) ((a - A.BON_ALARM_SEC_LO 0) % 0x10 / 4) v
  else
    match regIndex (A.BON_CS 0) 4 1024 a with
    | some w => Op.csWindow w v
    | none => plain

def Op.writeRec (a : Nat) (v : Word) (plain : Op) : Op :=
  if a = A.REC_SNAP then Op.when (v.getLsbD 0) Op.recSnap
  else if a = A.REC_CURSOR then Op.loadWindow v.toNat
  else if a = A.REC_LOG_KIND then Op.firmwareRecord (fieldOf v 0 16)
  else plain

/-- A pull of 3 is written as 0 (R521). -/
def Op.clampPulls (a : Nat) : Op := Op.get fun s =>
  Op.putReg a ((List.range 16).foldl (fun v i => if fieldOf v (2 * i) 2 = 3 then withField v (2 * i) 2 0 else v) (s.reg a))

def Op.writeGpio (a : Nat) (v : Word) (plain : Op) : Op := Op.get fun s =>
  if a = A.GPIO_OUT_SET then Op.putReg A.GPIO_OUT (s.reg A.GPIO_OUT ||| v)
  else if a = A.GPIO_OUT_CLR then Op.putReg A.GPIO_OUT (s.reg A.GPIO_OUT &&& ~~~ v)
  else if a = A.GPIO_PULL_LO ∨ a = A.GPIO_PULL_HI then plain.andThen (Op.clampPulls a)
  else plain

/-- The effect of a write after the check of R11; `held` says that stop-only fields hold, `differs` that the write was refused for
them. -/
def Op.actWrite (b : Block) (c : CoreId) (a : Nat) (v : Word) (held differs : Bool) (plain : Op) : Op :=
  match b with
  | .sys => Op.writeSys c a v plain
  | .weir => if a = A.WEIR_FLUSH then Op.when (!held) (Op.flushGroups (fieldOf v 0 4)) else plain
  | .rill => if a = A.RILL_EN_LO then Op.writeEnables false v else if a = A.RILL_EN_HI then Op.writeEnables true v else plain
  | .lamp => Op.writeLamp a v held differs plain
  | .corr => Op.writeCorr a v plain
  | .pmap => Op.writePmap a v plain
  | .pxp => Op.writePxp a v plain
  | .flk => if a = A.FLK_SRC then Op.get fun s =>
      (Op.putReg a (withField (writtenWord ((regAt a).getD (reg "" 0 0 0 [])) held (s.reg a) v) 0 2 (s.fld F.FLK_SRC_REQ))).andThen
        (Op.sourceRequest (fieldOf v 0 2)) else plain
  | .rad => Op.writeRad a v plain
  | .etha => Op.writeEth 0 a v held plain
  | .ethb => Op.writeEth 1 a v held plain
  | .tsu => Op.writeTsu a v plain
  | .can => Op.writeCan a v plain
  | .met => Op.writeMet a v held plain
  | .oxb => Op.writeOxb a v plain
  | .upd => Op.writeUpd a v plain
  | .gnt => plain
  | .lcs => if a = A.LCS_CMD then Op.get fun s => Op.when (v.getLsbD 0) (Op.debugOn (s.core c).sys) else plain
  | .mem => Op.writeMem a v plain
  | .bon => Op.writeBon a v plain
  | .recd => Op.writeRec a v plain
  | .gpio => Op.writeGpio a v plain
  | .sto => plain
  | .svc => plain
  | .drc => plain

end Sys2Proof.Machine
end

