-- ==== Sys2Proof/Machine/Bus.lean ====
section
/-!
DEFINITION. Run control of the blocks (R10, R12, R13), a whole register write, and the loads and stores of the cores on the address
map (R25 to R36, R66 to R74, R455).
-/
namespace Sys2Proof.Machine

/-! ### Setting RUN from 0 -/

/-- `ERR.CONFIG` of a block: bit 1 of its third register. -/
def Block.config (b : Block) : Fld := ⟨b.base + 8, 1, 1⟩

/-- A block refuses `RUN`: `CONFIG`, the field that names the cause, and the record. -/
def Op.refuseRun (b : Block) (causeFld : Fld) (cause : Nat) : Op :=
  Op.all [ Op.set b.config 1, Op.set causeFld cause, Op.logRefused b cause 0 ]

/-- Runs the block's start where its check passes with 0. -/
def Op.checkedRun (b : Block) (causeFld : Fld) (cause : State → Nat) (started : Op) : Op := Op.get fun s =>
  if cause s = 0 then (Op.set b.run 1).andThen started else Op.refuseRun b causeFld (cause s)

/-- Whether an enabled group's cores and order are legal (R135). -/
def State.groupLegal (s : State) (g : Nat) : Bool :=
  let n := countCores fun c => s.coreEn c && s.groupOf c == g
  !(s.bit (F.WEIR_GCFG_EN g))
    || (n != 0 && (if s.bit (F.WEIR_GCFG_ORDER g) then g == 0 && 12 ≤ n else n ≤ 8))

/-- The miss report rill fails R142. -/
def State.missRillBad (s : State) : Bool := s.bit F.WEIR_MISS_CFG_EN && !(s.rillUsable (s.fld F.WEIR_MISS_CFG_RILL))

/-- Setting `WEIR_CTRL.RUN` (R136); a successful one puts every waiting core into the queue of its group (R137). -/
def Op.runWeir : Op := Op.get fun s =>
  let bad := (List.range 4).filter fun g => !(s.groupLegal g)
  if bad.isEmpty && !s.missRillBad then
    Op.all
      [ Op.set F.WEIR_CTRL_RUN 1,
        Op.weir fun w => { w with waiting := w.waiting.map fun e => (e.1, if s.coreEn e.1 then some (s.groupOf e.1) else none) } ]
  else
    Op.all
      [ Op.set F.WEIR_ERR_CONFIG 1, Op.set F.WEIR_ERR_CFG_GROUP (bad.headD 0), Op.set F.WEIR_ERR_MISSRILL (bit01 s.missRillBad),
        Op.log 0x0008 Block.weir.num Block.weir.base (bit01 s.missRillBad * 2 ^ 8 + bad.headD 0 * 2 ^ 16) ]

/-- Whether an enabled rill's configuration is legal (R146, R153). -/
def State.rillLegal (s : State) (n : RillNo) : Bool :=
  let base (m : RillNo) := s.fld (F.RILL_CFG_BASE m)
  let high := s.fld (F.RILL_BRIM_HIGH n)
  s.fld (F.RILL_CFG_SIZE n) ≤ 12 && base n % s.rillSize n == 0 && base n + s.rillSize n ≤ 131072
    && (List.finRange 64).all (fun m => m == n || !(s.rillEn m) || base n + s.rillSize n ≤ base m || base m + s.rillSize m ≤ base n)
    && !(n < 4 && (s.bit (F.RILL_CFG_PACKET n) || s.bit (F.RILL_CFG_FEED n))) && !(s.isFeed n && s.bit (F.RILL_CFG_PACKET n))
    && (high == 0 || s.fld (F.RILL_BRIM_LOW n) < high)

/-- Setting `RILL_CTRL.RUN` (R146). -/
def Op.runRill : Op := Op.get fun s =>
  match (List.finRange 64).find? fun n => s.rillEn n && !(s.rillLegal n) with
  | none => Op.set F.RILL_CTRL_RUN 1
  | some n => Op.all [ Op.set F.RILL_ERR_CONFIG 1, Op.set F.RILL_ERR_CFG_RILL n.val, Op.logRefused .rill 0 n.val ]

/-- The check of an event rill: 1 while its enable bit is 1 and it is outside 4 to 63 or feeds Weir (R13). -/
def evtCause (rill en : Fld) (s : State) : Nat := if !(s.bit en) || s.rillUsable (s.fld rill) then 0 else 1

/-- Sets a block's `RUN` from 0: the checks the block makes, and what it does as it starts. -/
def Op.runSet (b : Block) : Op := Op.get fun s =>
  match b with
  | .sys => Op.checkedRun b F.SYS_ERR_CFG_CAUSE (evtCause F.SYS_EVT_RILL F.SYS_EVT_EN) Op.skip
  | .weir => Op.runWeir
  | .rill => Op.runRill
  | .lamp =>
    if s.lampConfigOk then (Op.set b.run 1).andThen Op.lampRun else (Op.set b.config 1).andThen (Op.logRefused b 0 0)
  | .corr => Op.corrStart
  | .pmap => Op.checkedRun b F.PMAP_ERR_CFG_CAUSE State.pmapCause Op.skip
  | .pxp =>
    match s.pxpFault with
    | none => (Op.set b.run 1).andThen Op.pxpStarted
    | some p => Op.all [ Op.set b.config 1, Op.set F.PXP_ERR_CFG_PORT p.val, Op.logRefused b 0 p.val ]
  | .flk => Op.flkRun (Op.refuseRun b F.FLK_ERR_CFG_CAUSE) (Op.set b.run 1)
  | .rad => Op.radRun (Op.set b.run 1)
  | .etha => Op.checkedRun b (F.ETH_ERR_CFG_CAUSE 0) (fun s => s.ethCause 0) Op.skip
  | .ethb => Op.checkedRun b (F.ETH_ERR_CFG_CAUSE 1) (fun s => s.ethCause 1) Op.skip
  | .tsu => Op.checkedRun b F.TSU_ERR_CFG_CAUSE State.tsuCause Op.tsuStarted
  | .can => Op.checkedRun b F.CAN_ERR_CFG_CAUSE State.canCause Op.skip
  | .met => Op.when (!s.met.restore) (Op.checkedRun b F.MET_ERR_CFG_CAUSE State.metCause Op.metStarted)
  | .oxb => Op.checkedRun b F.OXB_ERR_CFG_CAUSE State.oxbCause Op.oxbStarted
  | .upd => Op.checkedRun b F.UPD_ERR_CFG_CAUSE State.updCause Op.skip
  | .gnt => Op.checkedRun b F.GNT_ERR_CFG_CAUSE State.gntCause Op.skip
  | .lcs => Op.set b.run 1
  | .mem => Op.checkedRun b F.MEM_ERR_CFG_CAUSE (evtCause F.MEM_EVT_RILL F.MEM_EVT_EN) Op.skip
  | .bon => Op.checkedRun b F.BON_ERR_CFG_CAUSE State.bonCause Op.skip
  | .recd => Op.set b.run 1
  | .sto => Op.set b.run 1
  | .gpio => Op.set b.run 1
  | .svc => Op.set b.run 1
  | .drc => Op.set b.run 1

/-! ### Stopping (R10) -/

def Op.setStopping (b : Block) (v : Bool) : Op := Op.blk fun k =>
  { k with stopping := if v then k.stopping ||| BitVec.twoPow 25 b.num else k.stopping &&& ~~~ BitVec.twoPow 25 b.num }

/-- What the request of a stop does at once: sends not begun complete (R329), a walk is abandoned and nothing more is committed
(R261), a verification ends (R419). Writing 0 to `OXB_CTRL.RUN` stops OXB at once (R397). -/
def Op.stopRequest (b : Block) : Op :=
  match b with
  | .oxb => Op.all [ Op.abandonBlockPackets b, Op.oxbOff, Op.set b.run 0 ]
  | .etha => (Op.setStopping b true).andThen (Op.ethStopping 0)
  | .ethb => (Op.setStopping b true).andThen (Op.ethStopping 1)
  | .pmap => (Op.setStopping b true).andThen Op.abandonWalk
  | .flk => (Op.setStopping b true).andThen Op.flkStop
  | .upd => (Op.setStopping b true).andThen Op.updStopped
  | _ => Op.setStopping b true

/-- The controller stops (R151): open packets break, waiting TAKEs raise RILL_OFF. -/
def Op.rillStopped : Op :=
  Op.each (List.finRange 64) fun n => (Op.breakPacket n).andThen (Op.failTakes n)

/-- Whether the block's unit of work has ended. -/
def State.unitDone (s : State) (b : Block) : Bool :=
  match b with
  | .pxp => s.pxpIdle
  | .etha => s.ethIdle 0
  | .ethb => s.ethIdle 1
  | .rad => s.slotOver
  | .can => s.canIdle
  | .sto => s.blk.memu.nor.isNone && s.blk.memu.norq.isEmpty
  | _ => true

/-- A block whose stop has been requested finishes its unit of work: `RUN` reads 0. -/
def Op.blockStopped (b : Block) : Op := Op.get fun s =>
  let stopped := (Op.set b.run 0).andThen (Op.setStopping b false)
  Op.when (s.running b && s.ending b && s.unitDone b) ((Op.abandonBlockPackets b).andThen
    (match b with
      | .lamp => Op.stopLamp stopped
      | .rill => Op.rillStopped.andThen stopped
      | .corr => Op.stopCorr.andThen stopped
      | .rad => Op.radStopped.andThen stopped
      | .can => Op.canStopped.andThen stopped
      | .met => Op.metStopped.andThen stopped
      | _ => stopped))

/-! ### A register write -/

/-- The stop-only fields of `CTRL`, written together with `RUN` (R12). -/
def Op.ctrlFields (b : Block) (r : RegD) (v : Word) : Op := Op.get fun s =>
  Op.putReg b.base (withField (writtenWord r (s.stopHeld b) (s.reg b.base) v) 0 1 (s.fld b.run))

/-- A write of a block's `CTRL` (R10 to R12). -/
def Op.writeCtrl (b : Block) (r : RegD) (v : Word) : Op := Op.get fun s =>
  let runs := s.bit b.run
  let breach := s.stopHeld b && s.stopDiffers r b.base v
  Op.all
    [ Op.when breach (Op.refuseStopOnly b b.base v),
      Op.ctrlFields b r v,
      if v.getLsbD 0 then Op.when (!runs) (Op.runSet b)
      else if runs then Op.when (!(s.ending b)) (Op.stopRequest b)
      else Op.when (b == .corr && s.bit F.CORR_STAT_LOADING) Op.corrAbandon ]

/-- A write by core `c` to the word at `a` of a block that has power: CAN's entries, `CTRL`, or another register, with the check of
R11 first; an offset without a register ignores it (R35). -/
def Op.writeReg (c : CoreId) (a : Nat) (v : Word) : Op := Op.get fun s =>
  if isTxEntry a || isRxEntry a then Op.canEntryWrite a v
  else
    match blockAt a, regAt a with
    | some b, some r =>
      if a = b.base then Op.writeCtrl b r v
      else
        let held := s.stopHeld b
        let differs := held && s.stopDiffers r a v
        (Op.when differs (Op.refuseStopOnly b a v)).andThen (Op.actWrite b c a v held differs (Op.plainWrite b r a v))
    | _, _ => Op.skip

/-! ### The address map seen by a core -/

/-- Whether the block at an address has power; where no block stands there is no register to have power. -/
def State.regPowered (s : State) (a : Nat) : Bool :=
  match blockAt a with
  | some b => s.powered b
  | none => false

/-- A register access refused by R9 or R36. -/
def Op.logRegister (c : CoreId) (a size : Nat) : Op := Op.log 0x0003 (coreSource c) a size

/-- Whether a region is for system mode alone: for loads (R30, R31), and for stores, where local instruction memory joins it. -/
def loadSystem (r : Region) : Bool :=
  match r with
  | .rom | .rill | .regs => true
  | _ => false

def storeSystem (r : Region) : Bool :=
  match r with
  | .localI | .rom | .rill | .regs => true
  | _ => false

/-- Bytes of the boot ROM (log entry 3). -/
def romDword (a : Nat) : DWord :=
  BitVec.ofNat 64 (leNat ((List.range 8).map fun i => Config.romByte (a - 0x08000000 + i)))

/-- The bytes of an access within the doubleword that holds it. -/
def lane (v : DWord) (a size : Nat) : DWord := BitVec.ofNat 64 (natBits v.toNat (8 * (a % 8)) (8 * size))

/-- Reads the doubleword at `a` of core `c`'s local memory from its two code words; nothing where one cannot be corrected. -/
def Op.readLocal2 (c : CoreId) (a : Nat) (k : Option DWord → Op) : Op :=
  Op.readLocal c a fun
    | none => k none
    | some lo => Op.readLocal c (a + 4) fun
      | none => k none
      | some hi => k (some (joinWords hi lo))

/-- A load that the core's checks have passed: the value, or the cause code of its fault (R30, R69, R73, R74). A model choice (log entry
48): a load from local instruction memory that finds an uncorrectable error raises LOCAL_ECC, as one from local data memory does. -/
def Op.loadAt (c : CoreId) (a size : Nat) (k : Nat ⊕ DWord → Op) : Op := Op.get fun s =>
  let bus := k (.inl 0x07)
  let shared : Op :=
    if !(s.domOn (memDomain a)) then (Op.logRegister c a size).andThen bus
    else Op.readDw (coreSource c) (a / 8 * 8) fun
      | some v => k (.inr (lane v a size))
      | none => k (.inl 0x0A)
  let localWord : Op := Op.readLocal c (a / 4 * 4) fun
    | some v => k (.inr (BitVec.ofNat 64 (natBits v.toNat (8 * (a % 4)) (8 * size))))
    | none => k (.inl 0x0B)
  match regionOf a with
  | .localI => if size = 4 then localWord else bus
  | .localD =>
    if size = 8 then Op.readLocal2 c a fun
      | some v => k (.inr v)
      | none => k (.inl 0x0B)
    else localWord
  | .rom => if 4 ≤ size then k (.inr (lane (romDword (a / 8 * 8)) a size)) else bus
  | .nor =>
    if !(s.domOn 15) then (Op.logRegister c a size).andThen bus
    else if 4 ≤ size then k (.inr (BitVec.ofNat 64 (s.store.le a size)))
    else bus
  | .basin => if 4 ≤ size then shared else bus
  | .dram => if 4 ≤ size then shared else bus
  | .rill => if size = 8 then shared else bus
  | .regs =>
    if size = 4 && s.regPowered a then Op.readReg a fun v => k (.inr (v.zeroExtend 64))
    else (Op.logRegister c a size).andThen bus
  | .none => (Op.logOutside c a).andThen bus

/-- A write narrower than 64 bits to a memory that takes whole doublewords: refused, counted and logged (R455). -/
def Op.refuseNarrow (c : CoreId) (a : Nat) : Op :=
  (Op.on .mem (Op.inc A.MEM_NARROW)).andThen (Op.log 0x0011 (coreSource c) a (coreSource c))

/-- Merges the bytes of a narrow store into a word. -/
def mergeBytes (old : Word) (a size : Nat) (v : DWord) : Word := withField old (8 * (a % 4)) (8 * size) v.toNat

/-- A store of `size` bytes that the core's checks have passed; the continuation gets 0, or the cause code of the fault that its
response brings (R29, R30, R69, R455), or LOCAL_ECC where a narrow store must merge into a word in error (R74). -/
def Op.storeAt (c : CoreId) (a size : Nat) (v : DWord) (k : Nat → Op) : Op := Op.get fun s =>
  let word : Word := loWord v
  let memory : Op :=
    if !(s.domOn (memDomain a)) then (Op.logRegister c a size).andThen (k 8)
    else if size ≠ 8 then (Op.refuseNarrow c a).andThen (k 9)
    else if regionOf a == .rill && s.bit F.RILL_CTRL_RUN then k 8
    else (Op.storeDw a v).andThen (k 0)
  match regionOf a with
  | .localI =>
    if size ≠ 4 then k 8
    else
      Op.all
        [ Op.core c fun q => { q with oldFetch := (a, s.fetchWord c a) :: q.oldFetch.filter (·.1 != a) },
          Op.writeLocal c a word, k 0 ]
  | .localD =>
    if size = 8 then Op.all [ Op.writeLocal c a word, Op.writeLocal c (a + 4) (hiWord v), k 0 ]
    else if size = 4 then (Op.writeLocal c a word).andThen (k 0)
    else Op.readLocal c (a / 4 * 4) fun
      | some w => (Op.writeLocal c (a / 4 * 4) (mergeBytes w a size v)).andThen (k 0)
      | none => k 0x0B
  | .rom => k 8
  | .nor => k 8
  | .basin => memory
  | .dram => memory
  | .rill => memory
  | .regs =>
    if size = 4 && s.regPowered a then (Op.writeReg c a word).andThen (k 0)
    else (Op.logRegister c a size).andThen (k 8)
  | .none => (Op.logOutside c a).andThen (k 8)

/-- One of the stores of a core completes: an atomic returns, or where none is outstanding a refused store is answered (R23). -/
def Op.storeSlotFreed (c : CoreId) : Op := Op.get fun s =>
  if (s.core c).loads.any (·.kind == .atomic) then Op.core c (·.returnFirst (·.kind == .atomic)) else Op.storeFaultArrives c

/-- The response to a store on its way to the core: a refused store is in flight until the core learns of it (R29). -/
def Op.storeResponse (c : CoreId) (a : Word) (retired code : Nat) : Op :=
  Op.when (code != 0) (Op.core c fun k => { k with stores := k.stores ++ [⟨a, code, retired⟩] })

/-! ### The rows of spec/opcode_table.json that stand for register accesses -/

/-- The block of a number, where there is one. -/
def blockOf (n : BitVec 5) : Option Block := allBlocks[n.toNat]?

/-- REGISTER_WRITE: a core's write of a word reaches the register blocks (R7, R11); a refused one, misaligned or to a block without
power, is logged and answered with a store fault (R9, R36). With 8 stores in flight the oldest is answered first (R22), and in a full Delta
an earlier transaction completes (R21, R23). An address outside the register blocks names no register. -/
def execRegisterWrite (c : CoreId) (a v : Word) (s : State) : Host.Outcome State Fault Refusal :=
  (Op.when (regionOf a.toNat == .regs)
    (((Op.when (8 ≤ (s.core c).storeSlots) (Op.storeSlotFreed c)).andThen (Op.deltaRoom true)).andThen
      (let answer (code : Nat) : Op := Op.storeResponse c a (s.core c).icount code
       if a.toNat % 4 = 0 then Op.storeAt c a.toNat 4 (v.zeroExtend 64) answer
       else (Op.logRegister c a.toNat 4).andThen (answer 8)))).go s

/-- A write of a block's `CTRL` with `RUN` forced to a value. -/
def Op.ctrlWrite (n : BitVec 5) (run : Bool) (v : Word) : Op :=
  match blockOf n with
  | none => Op.skip
  | some b =>
    match regAt b.base with
    | none => Op.skip
    | some r => Op.on b (Op.writeCtrl b r (withField v 0 1 (bit01 run)))

/-- RUN_SET: a write of `CTRL` with `RUN` 1 (R10, R12). -/
def execRunSet (n : BitVec 5) (v : Word) (s : State) : Host.Outcome State Fault Refusal := (Op.ctrlWrite n true v).go s

/-- RUN_STOP_REQUEST: a write of `CTRL` with `RUN` 0 (R10, R12). -/
def execRunStopRequest (n : BitVec 5) (v : Word) (s : State) : Host.Outcome State Fault Refusal := (Op.ctrlWrite n false v).go s

/-- BLOCK_STOPPED: a block that has been told to stop has finished its unit of work (R10). -/
def execBlockStopped (n : BitVec 5) (s : State) : Host.Outcome State Fault Refusal :=
  (match blockOf n with
    | some b => Op.blockStopped b
    | none => Op.skip).go s

/-- STORE_FAULT_RESPONSE: the oldest response to a refused store reaches the core, which raises it at the next instruction boundary;
a core between two instructions raises it at once, with the pending ones (R29, R87). -/
def execStoreFaultResponse (c : CoreId) (s : State) : Host.Outcome State Fault Refusal :=
  ((Op.storeFaultArrives c).andThen (Op.get fun s => Op.when (s.issues c) (Op.raiseStoreFault c))).go s

end Sys2Proof.Machine
end

