-- ==== Sys2Proof/Machine/Fixed.lean ====
section
/-!
DEFINITION. The fixed-point and saturating instructions (major 0x20; R64, R65).
-/
namespace Sys2Proof.Machine

/-- `cx.sat.Q` sets where a result was clamped (R65). -/
def Core.sticky (k : Core) (clamped : Bool) : Core := { k with sat := if clamped then k.sat ||| 1 else k.sat }

/-- A fixed-point instruction with a word result: `f` gives the result and says whether it was clamped. -/
def Op.qW (c : CoreId) (d : RegNo) (ps ws : List RegNo) (S : Bool) (f : Core → Word × Bool) : Op :=
  Op.issue c (d :: ps.flatMap both ++ ws) fun _ => Op.pairs c ps (Op.finish c fun k =>
    let r := f k
    ({ k.wr d r.1 with st := if S then satFlags k.st r.1 r.2 else k.st }).sticky r.2)

/-- QADD: saturating signed sum (R64). -/
def execQadd (c : CoreId) (d a b : RegNo) (S : Bool) (s : State) : Host.Outcome State Fault Refusal :=
  (Op.qW c d [] [a, b] S fun k => let x := k.rd a; let y := k.rd b; satS 32 (x.toInt + y.toInt)).go s

/-- QSUB: saturating signed difference (R64). -/
def execQsub (c : CoreId) (d a b : RegNo) (S : Bool) (s : State) : Host.Outcome State Fault Refusal :=
  (Op.qW c d [] [a, b] S fun k => let x := k.rd a; let y := k.rd b; satS 32 (x.toInt - y.toInt)).go s

/-- QADDU: saturating unsigned sum (R64). -/
def execQaddu (c : CoreId) (d a b : RegNo) (S : Bool) (s : State) : Host.Outcome State Fault Refusal :=
  (Op.qW c d [] [a, b] S fun k => let x := k.rd a; let y := k.rd b; satU 32 ((x.toNat : Int) + y.toNat)).go s

/-- QSUBU: saturating unsigned difference, floor 0 (R64). -/
def execQsubu (c : CoreId) (d a b : RegNo) (S : Bool) (s : State) : Host.Outcome State Fault Refusal :=
  (Op.qW c d [] [a, b] S fun k => let x := k.rd a; let y := k.rd b; satU 32 ((x.toNat : Int) - y.toNat)).go s

/-- QMULQ31: rounded, saturating Q1.31 product (R64). -/
def execQmulq31 (c : CoreId) (d a b : RegNo) (S : Bool) (s : State) : Host.Outcome State Fault Refusal :=
  (Op.qW c d [] [a, b] S fun k => let x := k.rd a; let y := k.rd b; satS 32 (roundShift (prodS x y) 31)).go s

/-- QMUL1616: rounded, saturating Q16.16 product (R64). -/
def execQmul1616 (c : CoreId) (d a b : RegNo) (S : Bool) (s : State) : Host.Outcome State Fault Refusal :=
  (Op.qW c d [] [a, b] S fun k => let x := k.rd a; let y := k.rd b; satS 32 (roundShift (prodS x y) 16)).go s

/-- QNEG: saturating negate (R64). -/
def execQneg (c : CoreId) (d a : RegNo) (S : Bool) (s : State) : Host.Outcome State Fault Refusal :=
  (Op.qW c d [] [a] S fun k => satS 32 (-(k.rd a).toInt)).go s

/-- QABS: saturating absolute value (R64). -/
def execQabs (c : CoreId) (d a : RegNo) (S : Bool) (s : State) : Host.Outcome State Fault Refusal :=
  (Op.qW c d [] [a] S fun k => satS 32 ((k.rd a).toInt.natAbs : Int)).go s

/-- SATS: wa clamped to a signed range of n + 1 bits, n the b field (R64). -/
def execSats (c : CoreId) (d a : RegNo) (n : Fin 32) (S : Bool) (s : State) : Host.Outcome State Fault Refusal :=
  (Op.qW c d [] [a] S fun k => narrowS (n.val + 1) (k.rd a)).go s

/-- SATU: wa, signed, clamped to an unsigned range of n + 1 bits, n the b field (R64, R65). -/
def execSatu (c : CoreId) (d a : RegNo) (n : Fin 32) (S : Bool) (s : State) : Host.Outcome State Fault Refusal :=
  (Op.qW c d [] [a] S fun k => narrowU (n.val + 1) (k.rd a)).go s

/-- QSHL: saturating left shift by the b field (R64). -/
def execQshl (c : CoreId) (d a : RegNo) (n : Fin 32) (S : Bool) (s : State) : Host.Outcome State Fault Refusal :=
  (Op.qW c d [] [a] S fun k => satS 32 ((k.rd a).toInt * 2 ^ n.val)).go s

/-- RSHR: rounding arithmetic right shift by the b field (R64). -/
def execRshr (c : CoreId) (d a : RegNo) (n : Fin 32) (S : Bool) (s : State) : Host.Outcome State Fault Refusal :=
  (Op.qW c d [] [a] S fun k => satS 32 (roundShift (k.rd a).toInt n.val)).go s

/-- QMAC: saturating 64-bit multiply-accumulate into pd (R64). -/
def execQmac (c : CoreId) (d a b : RegNo) (S : Bool) (s : State) : Host.Outcome State Fault Refusal :=
  (Op.issue c (both d ++ [a, b]) fun _ => Op.pairs c [d] (Op.finish c fun k =>
    let r := satS 64 ((k.rdp d).toInt + prodS (k.rd a) (k.rd b))
    ({ k.wrp d r.1 with st := if S then satFlags k.st r.1 r.2 else k.st }).sticky r.2)).go s

/-- QNARROW: pa rounded, shifted right by the b field and clamped to a word (R64). -/
def execQnarrow (c : CoreId) (d a : RegNo) (n : Fin 32) (S : Bool) (s : State) : Host.Outcome State Fault Refusal :=
  (Op.qW c d [a] [] S fun k => satS 32 (roundShift (k.rdp a).toInt n.val)).go s

/-- PADD16: saturating sum of each 16-bit lane (R64). -/
def execPadd16 (c : CoreId) (d a b : RegNo) (S : Bool) (s : State) : Host.Outcome State Fault Refusal :=
  (Op.qW c d [] [a, b] S fun k => lanes (fun x y => x + y) (k.rd a) (k.rd b)).go s

/-- PSUB16: saturating difference of each 16-bit lane (R64). -/
def execPsub16 (c : CoreId) (d a b : RegNo) (S : Bool) (s : State) : Host.Outcome State Fault Refusal :=
  (Op.qW c d [] [a, b] S fun k => lanes (fun x y => x - y) (k.rd a) (k.rd b)).go s

/-- PMULQ15: rounded, saturating Q15 product of each 16-bit lane (R64). -/
def execPmulq15 (c : CoreId) (d a b : RegNo) (S : Bool) (s : State) : Host.Outcome State Fault Refusal :=
  (Op.qW c d [] [a, b] S fun k => lanes (fun x y => roundShift (x * y) 15) (k.rd a) (k.rd b)).go s

end Sys2Proof.Machine
end

