-- ==== Sys2Proof/Machine/LoadStore.lean ====
section
/-!
DEFINITION. Loads, stores and atomics (R66 to R74), and the return of an outstanding load.
-/
namespace Sys2Proof.Machine

/-- What a load writes: one register, or a pair. -/
def loadWrites (d : RegNo) (pair : Bool) (v : DWord) : List (RegNo × Word) :=
  if pair then [(d, hiWord v), (d + 1, loWord v)] else [(d, loWord v)]

/-- The registers that a destination or a stored value takes: one register, or a pair. -/
def regsOf (d : RegNo) (pair : Bool) : List RegNo := if pair then both d else [d]

/-- Continues where a register that must name a pair does. -/
def Op.pairIf (c : CoreId) (pair : Bool) (d : RegNo) (o : Op) : Op := if pair then Op.pairs c [d] o else o

/-- A load (R31, R68, R69, R73): `size` bytes at `addr`, extended by `ext`, to the register or the pair `d`. -/
def Op.load (c : CoreId) (d : RegNo) (pair : Bool) (srcs : List RegNo) (size : Nat) (addr : Core → Word) (ext : DWord → DWord) : Op :=
  Op.issue c (regsOf d pair ++ srcs) fun k => Op.pairIf c pair d (
    let a := addr k
    if loadSystem (regionOf a.toNat) && !k.sys then Op.privilege c a
    else if a.toNat % size ≠ 0 then Op.raise c 0x05 0 a
    else
      let near := regionOf a.toNat == .localD || regionOf a.toNat == .localI
      let access : Op := Op.loadAt c a.toNat size fun
        | .inl code => Op.raise c code 0 a
        | .inr v => Op.issueLoad c ⟨loadWrites d pair (ext v), if near then .near else .shared, 0⟩
      if near then access else Op.enterDelta c false access)

/-- Continues once the core has fewer than 8 stores outstanding (R22, R23): an earlier one completes first, and the fault of a refused
one is raised in place of the request. -/
def Op.storeRoom (c : CoreId) (request : Op) : Op := Op.get fun s =>
  if (s.core c).storeSlots < 8 then request
  else (Op.storeSlotFreed c).andThen (Op.get fun s => if (s.core c).faults.isEmpty then request else Op.raiseStoreFault c)

/-- The store itself, once it may issue (R21 to R23). The store retires before it takes effect, so that a write that restarts the core
finds it retired. -/
def Op.storeIssue (c : CoreId) (a : Word) (size : Nat) (v : DWord) : Op := Op.get fun s =>
  let near := regionOf a.toNat == .localD || regionOf a.toNat == .localI
  Op.storeRoom c
    (if regionOf a.toNat == .localD && size < 4 then
      Op.storeAt c a.toNat size v fun code => if code = 0x0B then Op.raise c 0x0B 0 a else Op.finish c id
    else
      let retired := ((s.core c).icount + 1) % 2 ^ 64
      let access : Op := (Op.finish c id).andThen (Op.storeAt c a.toNat size v fun code => Op.storeResponse c a retired code)
      if near then access else Op.enterDelta c true access)

/-- A store (R31, R68, R69): `size` bytes of the register or the pair `d` to `addr`. A store to a register block is a release point
(R27). -/
def Op.store (c : CoreId) (d : RegNo) (pair : Bool) (srcs : List RegNo) (size : Nat) (addr : Core → Word) : Op :=
  Op.issue c (regsOf d pair ++ srcs) fun k => Op.pairIf c pair d (
    let a := addr k
    let v : DWord := if pair then k.rdp d else (k.rd d).zeroExtend 64
    if storeSystem (regionOf a.toNat) && !k.sys then Op.privilege c a
    else if a.toNat % size ≠ 0 then Op.raise c 0x06 0 a
    else if regionOf a.toNat == .regs then Op.settled c fun _ => Op.storeIssue c a size v
    else Op.storeIssue c a size v)

/-- Sign extension of a narrow load. -/
def signExt (bits : Nat) (v : DWord) : DWord := BitVec.ofInt 64 (signedOf bits v.toNat)

/-! ### The majors 0x10 to 0x14 (R66) -/

/-- LW loads a word. -/
def execLw (c : CoreId) (d a : RegNo) (imm : BitVec 16) (s : State) : Host.Outcome State Fault Refusal :=
  (Op.load c d false [a] 4 (fun k => k.addr a imm) id).go s

/-- LD loads a doubleword into a pair. -/
def execLd (c : CoreId) (d a : RegNo) (imm : BitVec 16) (s : State) : Host.Outcome State Fault Refusal :=
  (Op.load c d true [a] 8 (fun k => k.addr a imm) id).go s

/-- SW stores a word. -/
def execSw (c : CoreId) (d a : RegNo) (imm : BitVec 16) (s : State) : Host.Outcome State Fault Refusal :=
  (Op.store c d false [a] 4 (fun k => k.addr a imm)).go s

/-- SD stores a pair. -/
def execSd (c : CoreId) (d a : RegNo) (imm : BitVec 16) (s : State) : Host.Outcome State Fault Refusal :=
  (Op.store c d true [a] 8 (fun k => k.addr a imm)).go s

/-- LB loads a byte and sign-extends it. -/
def execLb (c : CoreId) (d a : RegNo) (imm : BitVec 12) (s : State) : Host.Outcome State Fault Refusal :=
  (Op.load c d false [a] 1 (fun k => k.addr a imm) (signExt 8)).go s

/-- LBU loads a byte and zero-extends it. -/
def execLbu (c : CoreId) (d a : RegNo) (imm : BitVec 12) (s : State) : Host.Outcome State Fault Refusal :=
  (Op.load c d false [a] 1 (fun k => k.addr a imm) id).go s

/-- LH loads a halfword and sign-extends it. -/
def execLh (c : CoreId) (d a : RegNo) (imm : BitVec 12) (s : State) : Host.Outcome State Fault Refusal :=
  (Op.load c d false [a] 2 (fun k => k.addr a imm) (signExt 16)).go s

/-- LHU loads a halfword and zero-extends it. -/
def execLhu (c : CoreId) (d a : RegNo) (imm : BitVec 12) (s : State) : Host.Outcome State Fault Refusal :=
  (Op.load c d false [a] 2 (fun k => k.addr a imm) id).go s

/-- SB stores a byte. -/
def execSb (c : CoreId) (d a : RegNo) (imm : BitVec 12) (s : State) : Host.Outcome State Fault Refusal :=
  (Op.store c d false [a] 1 (fun k => k.addr a imm)).go s

/-- SH stores a halfword. -/
def execSh (c : CoreId) (d a : RegNo) (imm : BitVec 12) (s : State) : Host.Outcome State Fault Refusal :=
  (Op.store c d false [a] 2 (fun k => k.addr a imm)).go s

/-! ### Indexed forms, major 0x15 (R67) -/

/-- LWX loads a word; the address is indexed. -/
def execLwx (c : CoreId) (d a b : RegNo) (scaled : Bool) (s : State) : Host.Outcome State Fault Refusal :=
  (Op.load c d false [a, b] 4 (fun k => k.addrX a b scaled 4) id).go s

/-- LDX loads a doubleword into a pair; the address is indexed. -/
def execLdx (c : CoreId) (d a b : RegNo) (scaled : Bool) (s : State) : Host.Outcome State Fault Refusal :=
  (Op.load c d true [a, b] 8 (fun k => k.addrX a b scaled 8) id).go s

/-- SWX stores a word; the address is indexed. -/
def execSwx (c : CoreId) (d a b : RegNo) (scaled : Bool) (s : State) : Host.Outcome State Fault Refusal :=
  (Op.store c d false [a, b] 4 (fun k => k.addrX a b scaled 4)).go s

/-- SDX stores a pair; the address is indexed. -/
def execSdx (c : CoreId) (d a b : RegNo) (scaled : Bool) (s : State) : Host.Outcome State Fault Refusal :=
  (Op.store c d true [a, b] 8 (fun k => k.addrX a b scaled 8)).go s

/-- LBX loads a byte and sign-extends it; the address is indexed. -/
def execLbx (c : CoreId) (d a b : RegNo) (scaled : Bool) (s : State) : Host.Outcome State Fault Refusal :=
  (Op.load c d false [a, b] 1 (fun k => k.addrX a b scaled 1) (signExt 8)).go s

/-- LBUX loads a byte and zero-extends it; the address is indexed. -/
def execLbux (c : CoreId) (d a b : RegNo) (scaled : Bool) (s : State) : Host.Outcome State Fault Refusal :=
  (Op.load c d false [a, b] 1 (fun k => k.addrX a b scaled 1) id).go s

/-- LHX loads a halfword and sign-extends it; the address is indexed. -/
def execLhx (c : CoreId) (d a b : RegNo) (scaled : Bool) (s : State) : Host.Outcome State Fault Refusal :=
  (Op.load c d false [a, b] 2 (fun k => k.addrX a b scaled 2) (signExt 16)).go s

/-- LHUX loads a halfword and zero-extends it; the address is indexed. -/
def execLhux (c : CoreId) (d a b : RegNo) (scaled : Bool) (s : State) : Host.Outcome State Fault Refusal :=
  (Op.load c d false [a, b] 2 (fun k => k.addrX a b scaled 2) id).go s

/-- SBX stores a byte; the address is indexed. -/
def execSbx (c : CoreId) (d a b : RegNo) (scaled : Bool) (s : State) : Host.Outcome State Fault Refusal :=
  (Op.store c d false [a, b] 1 (fun k => k.addrX a b scaled 1)).go s

/-- SHX stores a halfword; the address is indexed. -/
def execShx (c : CoreId) (d a b : RegNo) (scaled : Bool) (s : State) : Host.Outcome State Fault Refusal :=
  (Op.store c d false [a, b] 2 (fun k => k.addrX a b scaled 2)).go s

/-- LOAD_RETURN: outstanding load number `n` of a core returns its data (R44). The results of lamp instructions return by a row of
their own. -/
def execLoadReturn (c : CoreId) (n : Nat) (s : State) : Host.Outcome State Fault Refusal :=
  (Op.core c fun k =>
    match k.loads[n]? with
    | some l => if l.kind == .lamp then k else k.returnLoad n
    | none => k).go s

/-! ### Atomics, major 0x16 (R71, R72) -/

/-- An atomic on the Basin doubleword at wa: the old value goes to `d`, `f` of the old value, pd and pb is stored. It counts as a load and
as a store (R72). An access to a register block, 64 bits wide, is logged (R9). -/
def Op.atomic (c : CoreId) (d a b : RegNo) (f : DWord → DWord → DWord → DWord) : Op :=
  Op.issue c (both d ++ a :: both b) fun k => Op.pairs c [d, b] (
    let wa := k.rd a
    if loadSystem (regionOf wa.toNat) && !k.sys then Op.privilege c wa
    else if wa.toNat % 8 ≠ 0 then Op.raise c 0x06 0 wa
    else if regionOf wa.toNat != .basin then
      Op.all
        [ Op.when (regionOf wa.toNat == .none) (Op.logOutside c wa.toNat),
          Op.when (regionOf wa.toNat == .regs) (Op.logRegister c wa.toNat 8),
          Op.raise c 0x07 0 wa ]
    else Op.storeRoom c (Op.enterDelta c false (Op.readDw (coreSource c) wa.toNat fun
      | none => Op.raise c 0x0A 0 wa
      | some old =>
        (Op.storeDw wa.toNat (f old (k.rdp d) (k.rdp b))).andThen (Op.issueLoad c ⟨loadWrites d true old, .atomic, 0⟩))))

/-- AMOSWAP stores pb. -/
def execAmoswap (c : CoreId) (d a b : RegNo) (s : State) : Host.Outcome State Fault Refusal :=
  (Op.atomic c d a b (fun _ _ b => b)).go s

/-- AMOADD adds pb, wrapping. -/
def execAmoadd (c : CoreId) (d a b : RegNo) (s : State) : Host.Outcome State Fault Refusal :=
  (Op.atomic c d a b (fun old _ b => old + b)).go s

/-- AMOAND ANDs pb in. -/
def execAmoand (c : CoreId) (d a b : RegNo) (s : State) : Host.Outcome State Fault Refusal :=
  (Op.atomic c d a b (fun old _ b => old &&& b)).go s

/-- AMOOR ORs pb in. -/
def execAmoor (c : CoreId) (d a b : RegNo) (s : State) : Host.Outcome State Fault Refusal :=
  (Op.atomic c d a b (fun old _ b => old ||| b)).go s

/-- AMOCAS stores pb where the old value equals pd. -/
def execAmocas (c : CoreId) (d a b : RegNo) (s : State) : Host.Outcome State Fault Refusal :=
  (Op.atomic c d a b (fun old d b => if old = d then b else old)).go s

end Sys2Proof.Machine
end

