-- ==== Sys2Proof/Machine/RillInstr.lean ====
section
/-!
DEFINITION. The rill instructions (R103 to R114).
-/
namespace Sys2Proof.Machine

/-- The exception of a rill instruction: its cause and the rill number in `cx.eaddr` (R105). -/
def Op.rillRaise (c : CoreId) (code : Nat) (n : RillNo) : Op := Op.raise c code 0 (BitVec.ofNat 32 n.val)

/-- Task mode on a rill that is for system mode alone raises PRIVILEGE (R105). -/
def Op.rillGuard (c : CoreId) (n : RillNo) (o : Op) : Op := Op.get fun s =>
  if !(s.core c).sys && s.bit (F.RILL_CFG_SYSONLY n) then Op.privilege c (BitVec.ofNat 32 n.val) else o

/-- A rill that cannot be used raises RILL_OFF (R105). An instruction that comes after a stop of the controller has been requested finds it
stopped (R151). -/
def Op.rillOn (c : CoreId) (n : RillNo) (o : Op) : Op := Op.get fun s =>
  if !(s.rillOn n) then (Op.blockStopped .rill).andThen (Op.rillRaise c 0x23 n) else o

/-- A consumer instruction on a feed rill raises RILL_MODE (R105, R155). -/
def Op.consumer (c : CoreId) (n : RillNo) (o : Op) : Op :=
  Op.rillGuard c n (Op.rillOn c n (Op.get fun s => if s.isFeed n then Op.rillRaise c 0x22 n else o))

/-- Retires a rill instruction with T. -/
def Op.finishT (c : CoreId) (t : Bool) : Op := Op.finish c (·.setT t)

/-- Whether the core holds an open packet on a rill. -/
def Core.holds (k : Core) (n : RillNo) : Bool := k.popenOpen && k.popenRill == n

/-- What a read of an empty rill returns (R106). -/
def State.idleItem (s : State) (n : RillNo) : DWord :=
  if n.val < 4 then joinWords (s.reg (A.RILL_IDLE_HI n)) (s.reg (A.RILL_IDLE_LO n)) else 0

/-- A body word (R110, R112): discarded while the packet is broken; the packet breaks for want of a slot or at the 65,536th word. -/
def Op.pushBody (c : CoreId) (n : RillNo) (v : DWord) : Op := Op.get fun s =>
  let k := s.core c
  let broke (o : Op) : Op := o.andThen (Op.core c fun k => { k with popen := popenWord true n k.popenCount })
  (if k.popenBroken then Op.skip
   else if k.popenCount = 65535 then broke Op.skip
   else if s.rillFree n = 0 then broke (Op.inc (A.RILL_FULLCNT n))
   else (Op.pktWord n v).andThen (Op.core c fun k => { k with popen := popenWord false n (k.popenCount + 1) })).andThen
    (Op.finish c id)

/-- A plain push (R108). -/
def Op.pushPlain (c : CoreId) (n : RillNo) (v : DWord) : Op := Op.get fun s =>
  if s.isPacket n then Op.rillRaise c 0x22 n
  else if s.rillFree n = 0 then (Op.inc (A.RILL_FULLCNT n)).andThen (Op.finishT c false)
  else (Op.rillPush n v).andThen (Op.finishT c true)

/-- PUSH: a body word of the core's open packet on the rill, or an item. -/
def execPush (c : CoreId) (n : RillNo) (a : RegNo) (s : State) : Host.Outcome State Fault Refusal :=
  (Op.issue c (both a) fun _ => Op.pairs c [a] (Op.settled c fun k =>
    Op.rillGuard c n (Op.rillOn c n
      (if k.holds n then Op.pushBody c n (k.rdp a) else Op.pushPlain c n (k.rdp a))))).go s

/-- A read of an empty rill. -/
def Op.readIdle (c : CoreId) (d : RegNo) (n : RillNo) : Op := Op.get fun s =>
  Op.finish c fun k => (k.wrp d (s.idleItem n)).setT false

/-- POP: the item at the read position, which advances. -/
def execPop (c : CoreId) (d : RegNo) (n : RillNo) (s : State) : Host.Outcome State Fault Refusal :=
  (Op.issue c (both d) fun _ => Op.pairs c [d] (Op.consumer c n (Op.get fun s =>
    if (s.rill n).unread = 0 then Op.readIdle c d n else Op.takeItem c d n))).go s

/-- PEEK: the item at the read position, which stays. -/
def execPeek (c : CoreId) (d : RegNo) (n : RillNo) (s : State) : Host.Outcome State Fault Refusal :=
  (Op.issue c (both d) fun _ => Op.pairs c [d] (Op.consumer c n (Op.get fun s =>
    if (s.rill n).unread = 0 then Op.readIdle c d n
    else Op.readSlot n fun
      | some v => Op.finish c fun k => (k.wrp d v).setT true
      | none => Op.raise c 0x0A 0 (BitVec.ofNat 32 (s.slotAddr n (s.rill n).rd))))).go s

/-- TAKE on a rill: as POP, and waits while the rill is empty. -/
def execTakeRill (c : CoreId) (d : RegNo) (n : RillNo) (s : State) : Host.Outcome State Fault Refusal :=
  (Op.issue c (both d) fun _ => Op.pairs c [d] (Op.consumer c n (Op.get fun s =>
    if (s.rill n).unread = 0 then
      (Op.core c fun k => { k with run := .rillWait d n }).andThen
        (Op.rill n fun r => { r with waiters := r.waiters ++ [c] })
    else Op.takeItem c d n))).go s

/-- OPENP: opens a packet, or opens it broken (R109). -/
def execOpenp (c : CoreId) (n : RillNo) (s : State) : Host.Outcome State Fault Refusal :=
  (Op.issue c [] fun k => Op.rillGuard c n
    (if k.popenOpen then Op.rillRaise c 0x24 k.popenRill
     else Op.rillOn c n (Op.get fun s =>
      if !(s.isPacket n) then Op.rillRaise c 0x22 n
      else if (s.rill n).pkt.isSome || s.rillFree n < 2 then
        (Op.inc (A.RILL_FULLCNT n)).andThen (Op.finish c fun k => { k with popen := popenWord true n 0 }.setT false)
      else
        (Op.pktOpen n (.core c)).andThen (Op.finish c fun k => { k with popen := popenWord false n 0 }.setT true)))).go s

/-- Continues where the core holds an open packet on the rill named (R114). A feed rill raises NO_PACKET (R155), taken to hold also while
it is off (log entry 26); of another rill RILL_OFF comes first. -/
def Op.withPacket (c : CoreId) (n : RillNo) (o : Core → Op) : Op :=
  Op.rillGuard c n (Op.get fun s =>
    let k := s.core c
    if k.holds n then Op.rillOn c n (o k)
    else if s.isFeed n then Op.rillRaise c 0x25 n
    else Op.rillOn c n (Op.rillRaise c 0x25 n))

/-- Ends the core's packet without committing it (R112, R113). -/
def Op.dropPacketOf (c : CoreId) (n : RillNo) : Op :=
  (Op.pktAbort n (.core c)).andThen (Op.finish c fun k => { k with popen := 0 }.setT false)

/-- CLOSEP: commits the open packet with the flags in wa, or discards a broken one (R111, R112). -/
def execClosep (c : CoreId) (n : RillNo) (a : RegNo) (s : State) : Host.Outcome State Fault Refusal :=
  (Op.issue c [a] fun _ => Op.settled c fun _ => Op.withPacket c n fun k =>
    if k.popenBroken then Op.dropPacketOf c n
    else
      (Op.pktClose n k.popenCount (k.rd a)).andThen (Op.finish c fun k => { k with popen := 0 }.setT true)).go s

/-- CANCELP: discards the open packet (R113). -/
def execCancelp (c : CoreId) (n : RillNo) (s : State) : Host.Outcome State Fault Refusal :=
  (Op.issue c [] fun _ => Op.withPacket c n fun _ => Op.dropPacketOf c n).go s

/-- MARK: the mark is the read position (R107). -/
def execMark (c : CoreId) (n : RillNo) (s : State) : Host.Outcome State Fault Refusal :=
  (Op.issue c [] fun _ => Op.consumer c n (Op.get fun s =>
    (Op.rill n fun r => { r with mark := r.rd % s.rillSize n, markOff := some r.nread }).andThen (Op.finishT c true))).go s

/-- REWIND: the read position returns to a valid mark (R107); cores that wait on the rill are served from there. -/
def execRewind (c : CoreId) (n : RillNo) (s : State) : Host.Outcome State Fault Refusal :=
  (Op.issue c [] fun _ => Op.consumer c n (Op.get fun s =>
    match (s.rill n).markOff with
    | none => Op.finishT c false
    | some m =>
      Op.all
        [ Op.rill n fun r => { r with nread := m, unread := r.unread + (r.nread - m) },
          Op.deliver n 24,
          Op.finishT c true ])).go s

/-- RELEASE: frees every slot up to the read position (R107). -/
def execRelease (c : CoreId) (n : RillNo) (s : State) : Host.Outcome State Fault Refusal :=
  (Op.issue c [] fun _ => Op.consumer c n (Op.get fun s =>
    if (s.rill n).nread = 0 then Op.finishT c false
    else Op.all [ Op.releaseRead n, Op.brim n, Op.finishT c true ])).go s

end Sys2Proof.Machine
end

