-- ==== Sys2Proof/Machine/System.lean ====
section
/-!
DEFINITION. Control registers, the return from an exception, TRAP, BREAK, undefined instructions, the debugger (R51 to R58, R79 to
R81, R84, R94, R116).
-/
namespace Sys2Proof.Machine

/-! ### Control registers (R51, R94) -/

/-- Who may touch a control register in task mode, and whether it is listed: none for an unlisted number, else whether task mode
may read it and whether it may write it. -/
def controlAccess (n : Nat) : Option (Bool × Bool) :=
  match n with
  | 0 | 8 | 10 | 11 | 32 | 34 => some (true, false)
  | 12 | 14 | 35 => some (true, true)
  | 1 | 2 | 3 | 4 | 5 | 6 | 7 | 9 | 13 | 33 => some (false, false)
  | _ => none

/-- `cx.coreid` (R53). -/
def State.coreWord (s : State) (c : CoreId) : Word :=
  BitVec.ofNat 32 (c.val + clusterOf c * 2 ^ 8 + s.groupOf c * 2 ^ 12)

/-- What an MFC reads. -/
def State.control (s : State) (c : CoreId) (k : Core) (n : Nat) : Word :=
  match n with
  | 0 => k.mode
  | 1 => k.cause
  | 2 => k.epc
  | 3 => k.eaddr
  | 4 => k.est
  | 5 => k.vec
  | 6 => k.scratch0
  | 7 => k.scratch1
  | 8 => s.coreWord c
  | 9 => k.budget
  | 10 => BitVec.ofNat 32 k.icount
  | 11 => k.icounth
  | 12 => k.sat
  | 13 => k.lerr
  | 14 => k.st
  | 32 => k.item
  | 33 => k.takepc
  | 34 => k.popen
  | _ => k.lstat

/-- What an MFC does beside reading: `cx.icount` latches `cx.icounth`, `cx.lerr` clears. -/
def Core.controlRead (k : Core) (n : Nat) : Core :=
  match n with
  | 10 => { k with icounth := BitVec.ofNat 32 (k.icount / 2 ^ 32) }
  | 13 => { k with lerr := 0 }
  | _ => k

/-- What an MTC writes; read-only registers ignore it, and so do reserved bits. Of `cx.mode` it leaves `MODE` at 1: R45 lists the ways in
which the mode changes, and an MTC to task mode is none of them, though R52 types the field RW (a model choice, log entry 25). -/
def Core.controlWrite (k : Core) (n : Nat) (v : Word) : Core :=
  match n with
  | 0 => { k with mode := v &&& 0xF ||| 1 }
  | 1 => { k with cause := v &&& 0xFFFF03FF }
  | 2 => { k with epc := v }
  | 3 => { k with eaddr := v }
  | 4 => { k with est := v &&& 0x1F }
  | 5 => { k with vec := v &&& 0xFFFFFF00 }
  | 6 => { k with scratch0 := v }
  | 7 => { k with scratch1 := v }
  | 9 => { k with budget := v }
  | 12 => { k with sat := v &&& 1 }
  | 14 => { k with st := v &&& 0x1F }
  | 35 => { k with lstat := v &&& 7 }
  | _ => k

/-- MFC: reads a control register; `cx.lstat` only once every earlier lamp instruction has returned (R97). -/
def execMfc (c : CoreId) (d : RegNo) (n : BitVec 6) (s : State) : Host.Outcome State Fault Refusal :=
  (Op.issue c [d] fun k =>
    match controlAccess n.toNat with
    | none => Op.illegal c 6
    | some (task, _) =>
      if !k.sys && !task then Op.privilege c 0
      else
        (Op.when (n.toNat == 35) (Op.core c (·.settleLoads))).andThen (Op.get fun s =>
          Op.finish c fun k => (k.controlRead n.toNat).wr d (s.control c k n.toNat))).go s

/-- MTC: writes a control register. -/
def execMtc (c : CoreId) (a : RegNo) (n : BitVec 6) (s : State) : Host.Outcome State Fault Refusal :=
  (Op.issue c [a] fun k =>
    match controlAccess n.toNat with
    | none => Op.illegal c 6
    | some (_, task) =>
      if !k.sys && !task then Op.privilege c 0
      else Op.finish c fun k => k.controlWrite n.toNat (k.rd a)).go s

/-! ### Exceptions and their return (R79 to R81) -/

/-- What ERET does (R80). -/
def Core.returned (k : Core) : Core :=
  { k with st := k.est, mode := withField (withField k.mode 0 1 (fieldOf k.mode 2 1)) 1 1 0 }

/-- ERET: returns from an exception. -/
def execEret (c : CoreId) (s : State) : Host.Outcome State Fault Refusal :=
  (Op.issue c [] fun k =>
    if !k.sys then Op.privilege c 0
    else if !k.exl then Op.illegal c 7
    else Op.core c fun k => k.returned.retire k.budgeted k.epc).go s

/-- TRAP: retires and raises TRAP with its code; `cx.epc` holds the address of the next instruction (R83). In a handler it is a double
fault, which leaves the control registers as they are (R88). -/
def execTrap (c : CoreId) (code : BitVec 10) (s : State) : Host.Outcome State Fault Refusal :=
  (Op.issue c [] fun k =>
    (Op.when (!k.exl) (Op.finish c id)).andThen (Op.enter c 0x0D code.toNat false false (k.pc + 4) 0 k.pc)).go s

/-- A core stops for the debugger: it leaves the waiting queues. -/
def Op.debugStop (c : CoreId) : Op :=
  Op.all
    [ Op.core c fun k => { k with run := .debug },
      Op.weir fun w =>
        { w with
          waiting := w.waiting.filter (·.1 != c)
          rills := w.rills.map fun r => { r with waiters := r.waiters.filter (· != c) } } ]

/-- BREAK: raises BREAK, or stops the core where a debugger is attached (R81). -/
def execBrk (c : CoreId) (s : State) : Host.Outcome State Fault Refusal :=
  (Op.issue c [] fun k => if k.attached then Op.debugStop c else Op.raise c 0x0E 0 0).go s

/-- BUDGET_EXHAUSTED: the budget reads 0 while it counts, and the core raises BUDGET in place of issuing (R54); a pending store fault
comes first (R86). -/
def execBudgetExhausted (c : CoreId) (s : State) : Host.Outcome State Fault Refusal :=
  (let k := s.core c
   Op.when (s.issues c && k.budgeted && k.budget == 0)
    (if k.faults.isEmpty then Op.raise c 0x0C 0 0 else Op.raiseStoreFault c)).go s

/-! ### Undefined instructions (R55 to R58, R84) -/

/-- The defined functions of a major that selects by bits [9:0], with the fields that a function uses beside it: bits 25:21, 20:16,
15:11, and bit 10. CMPP, which always sets flags, is taken to use its S bit (a model choice, log entry 42). -/
def definedFn (major fn : Nat) : Option (Bool × Bool × Bool × Bool) :=
  let all := some (true, true, true, true)
  let in' (l : List Nat) : Bool := l.contains fn
  match major with
  | 0x00 =>
    if fn ≤ 0x0F || (0x13 ≤ fn && fn ≤ 0x16) || in' [0x20, 0x21, 0x30, 0x31, 0x32, 0x33, 0x34] then all
    else if in' [0x10, 0x11, 0x12, 0x35] then some (true, true, false, true)
    else if fn = 0x36 then some (false, true, true, true)
    else none
  | 0x01 => if fn ≤ 6 || (8 ≤ fn && fn ≤ 0x0B) then all else none
  | 0x15 => if fn % 16 ≤ 9 && fn < 32 then some (true, true, true, false) else none
  | 0x16 => if fn ≤ 4 then some (true, true, true, false) else none
  | 0x1C => if fn = 0 then some (false, true, false, false) else if fn = 1 then some (true, true, false, false) else none
  | 0x20 =>
    if in' [6, 7] then some (true, true, false, true)
    else if fn ≤ 0x0D || (0x10 ≤ fn && fn ≤ 0x12) then all
    else none
  | 0x28 =>
    if fn ≤ 1 then some (true, true, true, false)
    else if fn = 2 then some (false, true, true, false)
    else if fn = 3 then some (true, true, false, false)
    else none
  | 0x31 =>
    if fn ≤ 1 then some (false, false, false, false) else if fn = 2 then some (true, true, false, false) else none
  | 0x38 =>
    if fn = 0 then some (true, false, false, false) else if fn ≤ 2 then some (true, true, false, false) else none
  | 0x39 => if fn = 0 then some (false, false, false, false) else none
  | 0x3C => some (true, true, false, false)
  | _ => none

/-- The reason for which a word is no instruction whatever its operands are: 1 undefined or reserved major, 2 undefined function or
operation, 3 nonzero unused field (R56, R84); nothing where it is one. -/
def illegalReason (w : Word) : Option Nat :=
  let major := fieldOf w 26 6
  let d := fieldOf w 21 5
  let a := fieldOf w 16 5
  let b := fieldOf w 11 5
  let zero (ok : Bool) : Option Nat := if ok then none else some 3
  if [0x00, 0x01, 0x15, 0x16, 0x1C, 0x20, 0x28, 0x31, 0x38, 0x39, 0x3C].contains major then
    match definedFn major (fieldOf w 0 10) with
    | none => some 2
    | some (ud, ua, ub, us) => zero ((ud || d == 0) && (ua || a == 0) && (ub || b == 0) && (us || !(w.getLsbD 10)))
  else if [0x04, 0x05, 0x06, 0x07, 0x08, 0x09, 0x0C, 0x0D, 0x10, 0x11, 0x12, 0x13, 0x19, 0x1A, 0x1B, 0x3D].contains major then none
  else if major = 0x0A ∨ major = 0x18 then zero (a == 0)
  else if major = 0x0B then zero (d == 0)
  else if major = 0x14 then (if fieldOf w 12 4 ≤ 5 then none else some 2)
  else if major = 0x30 then
    match fieldOf w 0 10 with
    | 0 => zero (d == 0)
    | 1 | 2 | 3 => zero (a == 0)
    | 5 => zero (d == 0)
    | 4 | 6 | 7 | 8 | 9 => zero (d == 0 && a == 0)
    | _ => some 2
  else if major = 0x3E then
    match fieldOf w 6 5 with
    | 0 => zero (a == 0 && b == 0)
    | 1 => zero (d == 0 && b == 0)
    | 2 => zero (d == 0 && a == 0 && b == 0 && fieldOf w 0 6 == 0)
    | 3 => zero (d == 0 && fieldOf w 0 6 == 0)
    | 4 => zero (d == 0 && a == 0 && b == 0 && fieldOf w 0 6 == 0)
    | _ => some 2
  else some 1

/-- ILLEGAL_INSTRUCTION: a core issues a word that is no instruction; ILLEGAL carries the reason. A word that is one is issued by its
own row. A model choice (log entry 42): an ERET word with a nonzero unused field is no ERET, and raises ILLEGAL in either mode. -/
def execIllegalInstruction (c : CoreId) (w : Word) (s : State) : Host.Outcome State Fault Refusal :=
  (match illegalReason w with
    | some r => Op.issue c [] fun _ => Op.illegal c r
    | none => Op.skip).go s

/-- The word at core `c`'s pc in local instruction memory or NOR; the spec gives no word of the ROM. -/
def State.wordAtPc (s : State) (c : CoreId) : Option Word :=
  let a := (s.core c).pc.toNat
  match regionOf a with
  | .localI => some (s.fetchWord c a)
  | .nor => some (s.store.w32 a)
  | _ => none

/-- The instruction that core `c` issues next, by the word at its pc (R55); nothing where the word is none: ILLEGAL_INSTRUCTION is issued
with it in place of an instruction. -/
def State.nextInstr (s : State) (c : CoreId) : Option Instr := (s.wordAtPc c).bind (decodeInstr c)

/-! ### The debugger -/

/-- DEBUGGER_HALT: a debugger attached through JTAG, which the life cycle must permit, stops a core and ends any wait (R81, R116).
The port hears nothing while bank A is not usable (R519). -/
def execDebuggerHalt (c : CoreId) (s : State) : Host.Outcome State Fault Refusal :=
  (Op.when (s.bankA && s.domOn (coreDomain c) && s.powered .lcs && s.bit F.LCS_STAT_DEBUG && (s.core c).run != .off)
    ((Op.core c fun k => { k with attached := true }).andThen
      (Op.when ((s.core c).run != .halted) (Op.debugStop c)))).go s

end Sys2Proof.Machine
end

