-- ==== Sys2Proof/Machine/Work.lean ====
section
/-!
DEFINITION. Work items (R98 to R102, R137 to R145), time and order (R115 to R118), Gauntlet calls (R125 to R127).
-/
namespace Sys2Proof.Machine

/-! ### Work items -/

/-- TAKE, dispatch form: an idle core waits for a work item (R98). -/
def execTakeDispatch (c : CoreId) (s : State) : Host.Outcome State Fault Refusal :=
  (Op.issue c (List.finRange 32) fun k =>
    if !k.sys then Op.privilege c 0
    else if k.item.getLsbD 0 || k.exl then Op.raise c 0x20 0 0
    else (Op.core c (·.settleLoads)).andThen (Op.waitTake c)).go s

/-- How Weir posts miss reports (R142). -/
def missEvt : EvtCfg := ⟨F.WEIR_MISS_CFG_RILL, some F.WEIR_MISS_CFG_EN, A.WEIR_MISS_LOST, none⟩

/-- Weir accounts a completed item (R141, R142); one dispatched with `PASTDUE` is a miss even where the time base has stepped back. -/
def Op.account (c : CoreId) (i : Item) (pastdue : Bool) : Op := Op.get fun s =>
  let late := min 0xFFFFFFFF (s.now - i.deadline)
  Op.when (i.edf && (i.deadline < s.now || pastdue))
    (Op.all
      [ Op.inc A.WEIR_MISS_CNT,
        Op.inc (A.WEIR_MISS_CLS i.cls),
        Op.when ((s.reg A.WEIR_LATE_MAX).toNat < late) (Op.setReg A.WEIR_LATE_MAX late),
        Op.postEvent .weir missEvt (BitVec.ofNat 64 (late + i.cls * 2 ^ 32 + c.val * 2 ^ 40 + bit01 pastdue * 2 ^ 48)) ])

/-- DONE: ends the running item and returns to its TAKE (R100). -/
def execDone (c : CoreId) (s : State) : Host.Outcome State Fault Refusal :=
  (Op.issue c [] fun k =>
    if !(k.item.getLsbD 0) then Op.raise c 0x21 0 0
    else Op.settled c fun k => Op.all
      [ Op.abandonPacket c,
        match k.work with
        | some (i, pastdue) => Op.account c i pastdue
        | none => Op.skip,
        Op.core c fun k =>
          { (k.retire k.budgeted k.takepc) with
            popen := 0, item := k.item &&& ~~~ 1, work := none, mode := withField k.mode 0 2 1 } ]).go s

/-- Reads the doublewords of a descriptor; a fault is raised precisely, with the address of the doubleword (R101). -/
def Op.readDescriptor (c : CoreId) : Nat → Nat → (List DWord → Op) → Op
  | _, 0, k => k []
  | a, n + 1, k =>
    let bus := Op.raise c 0x07 0 (BitVec.ofNat 32 a)
    match regionOf a with
    | .none => (Op.logOutside c a).andThen bus
    | .localD => next a n k
    | .basin => next a n k
    | .dram => next a n k
    | _ => bus
where
  next (a n : Nat) (k : List DWord → Op) : Op :=
    Op.loadAt c a 8 fun
      | .inl code => Op.raise c code 0 (BitVec.ofNat 32 a)
      | .inr v => Op.readDescriptor c (a + 8) n fun vs => k (v :: vs)

/-- SPAWN: submits the descriptor at wa to Weir (R101, R102). -/
def execSpawn (c : CoreId) (d a : RegNo) (s : State) : Host.Outcome State Fault Refusal :=
  (Op.issue c [d, a] fun _ => Op.settled c fun k =>
    let wa := k.rd a
    if loadSystem (regionOf wa.toNat) && !k.sys then Op.privilege c wa
    else if wa.toNat % 8 ≠ 0 then Op.raise c 0x05 0 wa
    else Op.readDescriptor c wa.toNat 3 fun w =>
      Op.submit (w.getD 0 0) (w.getD 1 0) (w.getD 2 0).toNat (!k.sys) fun r =>
        (Op.when (r == 1) (Op.inc A.WEIR_REFUSED)).andThen (Op.finish c (·.wr d (BitVec.ofNat 32 r)))).go s

/-- WEIR_DISPATCH: while Weir runs and no stop is requested, the group whose turn it is receives its item (R138, R139, R143). -/
def execWeirDispatch (s : State) : Host.Outcome State Fault Refusal :=
  (Op.when (s.running .weir && !(s.blk.stopping.getLsbD Block.weir.num))
    (match s.nextGroup with
      | some g => Op.dispatch g
      | none => Op.skip)).go s

/-- WEIR_FLUSH: a write of `WEIR_FLUSH`, which is stop-only (R144). -/
def execWeirFlush (groups : BitVec 4) (s : State) : Host.Outcome State Fault Refusal :=
  (Op.on .weir
    (if s.bit F.WEIR_CTRL_RUN then
      Op.when (groups != 0) (Op.refuseStopOnly .weir A.WEIR_FLUSH (groups.zeroExtend 32))
     else Op.flushGroups groups.toNat)).go s

/-- RILL_ENABLE: 1 is written to a rill's enable bit (R149). -/
def execRillEnable (n : RillNo) (s : State) : Host.Outcome State Fault Refusal := (Op.on .rill (Op.writeEnable n true)).go s

/-- RILL_DISABLE: 0 is written to a rill's enable bit (R149). -/
def execRillDisable (n : RillNo) (s : State) : Host.Outcome State Fault Refusal := (Op.on .rill (Op.writeEnable n false)).go s

/-- FEED_RILL_SUBMIT: while the controller runs, with no stop requested (R151), and Weir runs and has room, the next feed rill's item becomes a descriptor (R134,
R155). A model choice (log entry 27): while Weir is full an item stays in its rill whether its descriptor is valid or not. -/
def execFeedRillSubmit (s : State) : Host.Outcome State Fault Refusal :=
  (Op.when (s.working .rill && s.running .weir && s.blk.weir.ready.length < 4096)
    (match s.nextFeed with
      | some n => Op.feedOne n
      | none => Op.skip)).go s

/-! ### The maintenance grant (R465, R466) -/

/-- The requests that arrive at the moment of a release, the lower-numbered first: a write of `MEM_MAINT_REQ`, of `RAD_CAL` with `GO`, a
standby self-test. Each competes with what is queued (R465). -/
def Op.arrivals (req : Option Word) (cal : Option (BitVec 2)) (standby : Bool) : Op :=
  Op.all
    [ Op.each req.toList fun v => Op.on .mem (Op.maintWrite v),
      Op.each cal.toList fun r => Op.on .rad (Op.calWrite (BitVec.ofNat 32 (r.toNat + 4))),
      Op.when standby (Op.on .oxb Op.selfTestRequest) ]

/-- GRANT_RELEASE: the holder releases its grant, unless its activity has ended and released it already, and the grant goes to the
lowest-numbered request among those queued and those arriving; the rest arrive while it is held. Where nothing is queued either, the
requests arrive together at a free interlock. -/
def execGrantRelease (req : Option Word) (cal : Option (BitVec 2)) (standby : Bool) (s : State) : Host.Outcome State Fault Refusal :=
  ((Op.on .mem (Op.get fun s =>
    let held := s.fld F.MEM_MAINT_STAT_GRANT
    Op.when (held == 0 || s.holderDone)
      (Op.all
        [ Op.when (held == 2) (Op.set F.MEM_STAT_RETRAIN 0),
          Op.releaseGrant held,
          Op.arrivals req cal standby,
          Op.grantFree ])))).go s

/-! ### Time and order (R115 to R117) -/

/-- TNOW: the time base. -/
def execTnow (c : CoreId) (d : RegNo) (s : State) : Host.Outcome State Fault Refusal :=
  (Op.issue c (both d) fun _ => Op.pairs c [d] (Op.get fun s => Op.finish c fun k => k.wrp d (BitVec.ofNat 64 s.now))).go s

/-- Waits for an instant (R116). -/
def Op.waitUntil (c : CoreId) (d : RegNo) (t : Nat) : Op := Op.get fun s =>
  if s.now + 2 ^ 30 < t then Op.raise c 0x26 0 (BitVec.ofNat 32 t)
  else if t ≤ s.now then Op.finish c (·.wr d (BitVec.ofNat 32 (min 0xFFFFFFFF (s.now - t))))
  else Op.core c fun k => { k with run := .timeWait d t }

/-- TWAIT: waits until the instant in pa. -/
def execTwait (c : CoreId) (d a : RegNo) (s : State) : Host.Outcome State Fault Refusal :=
  (Op.issue c (d :: both a) fun k => Op.pairs c [a] (Op.waitUntil c d (k.rdp a).toNat)).go s

/-- TWAITD: waits for the delay in pa. -/
def execTwaitd (c : CoreId) (d a : RegNo) (s : State) : Host.Outcome State Fault Refusal :=
  (Op.issue c (d :: both a) fun k => Op.pairs c [a] (Op.get fun s => Op.waitUntil c d (s.now + (k.rdp a).toNat))).go s

/-- A core's wait ends once the time base has reached its instant. -/
def Op.releaseWait (c : CoreId) : Op := Op.get fun s =>
  match (s.core c).run with
  | .timeWait d t => Op.when (t ≤ s.now && s.domOn (coreDomain c)) (Op.finish c (·.wr d 0))
  | _ => Op.skip

/-- TWAIT_RELEASE: the time base reaches a waiting core's instant (R116). A wait that a forward step passes ends with the step. -/
def execTwaitRelease (c : CoreId) (s : State) : Host.Outcome State Fault Refusal := (Op.releaseWait c).go s

/-- FENCE: every earlier access has completed, and stores to local instruction memory become visible to fetch (R33, R117). -/
def execFence (c : CoreId) (s : State) : Host.Outcome State Fault Refusal :=
  (Op.issue c [] fun _ => Op.settled c fun _ => Op.finish c fun k => { k with oldFetch := [] }).go s

/-! ### Gauntlet calls (R125 to R127) -/

/-- Checks a call block's address once every earlier store has completed, and sends the call. -/
def Op.call (c : CoreId) (wa : Word) (k : Core) (o : Op) : Op :=
  if !k.stores.isEmpty then Op.settled c fun _ => Op.skip
  else if wa.toNat % 64 ≠ 0 || (regionOf wa.toNat != .basin && regionOf wa.toNat != .dram) then Op.raise c 0x2A 0 wa
  else o

/-- GCALL: calls a service and waits for its status; while 16 calls are in flight it waits to be accepted (R126). -/
def execGcall (c : CoreId) (d a : RegNo) (service : BitVec 10) (s : State) : Host.Outcome State Fault Refusal :=
  (Op.issue c [d, a] fun k => Op.call c (k.rd a) k
    ((Op.core c fun k => { k with run := .callQueue d service.toNat (k.rd a).toNat }).andThen Op.sendQueued)).go s

/-- GPOST: posts a call whose completion arrives through a rill (R127). -/
def execGpost (c : CoreId) (d a : RegNo) (n : RillNo) (service : BitVec 10) (s : State) : Host.Outcome State Fault Refusal :=
  (Op.issue c [d, a] fun k => Op.call c (k.rd a) k (Op.get fun s =>
    if !(s.rillOn n) then (Op.blockStopped .rill).andThen (Op.raise c 0x23 0 (BitVec.ofNat 32 n.val))
    else if s.gnt.calls.length < 16 then
      (Op.finish c (·.wr d 0)).andThen (Op.sendCall c service.toNat (k.rd a).toNat (some n))
    else Op.finish c (·.wr d 1))).go s

/-! ### Rows that stand for blocks -/

/-- LAMP_CURVE_DATA: a curve entry is written or read through the window, and the index advances (R166). -/
def execLampCurveData (write : Bool) (v : BitVec 17) (s : State) : Host.Outcome State Fault Refusal :=
  (Op.on .lamp
    (if !write then Op.readCurve fun _ => Op.skip
     else if !(s.bit F.LAMP_CTRL_RUN) then Op.writeCurve v.toNat
     else if v.toNat = s.curveData then Op.curveNext
     else Op.refuseStopOnly .lamp A.LAMP_CURVE_DATA (v.zeroExtend 32))).go s

/-- TIMED_RESULT_RELEASE: an island lets go of results whose instant has come (R16): 0 the time base releases waiting cores, 1 frame
lock commits, 2 the radio basebands run the slot, 3 the real-time clock fires its alarms. -/
def execTimedResultRelease (island : Fin 4) (s : State) : Host.Outcome State Fault Refusal :=
  (match island with
    | 0 => Op.each (List.finRange 24) Op.releaseWait
    | 1 => Op.commitInstant
    | 2 => Op.radioSlot 0
    | 3 => Op.on .bon (Op.each (List.range 4) Op.alarmFire)).go s

/-- What a block pushes when one of its rills can take an item again (R156, R372 and the like). -/
def Op.drain (b : Block) : Op := Op.get fun s =>
  match b with
  | .sys => Op.when (s.running .sys) (Op.drainEvent .sys sysEvt)
  | .weir => Op.drainEvent .weir missEvt
  | .lamp => Op.drainEvent .lamp lampEvt
  | .corr => Op.all [ Op.retryPacket, Op.pushItems s.blk.corr.items.length, Op.pushFaults (s.blk.corr.events.length + 1) ]
  | .pxp => Op.each allPorts Op.rdmResult
  | .etha => Op.ethItems 0
  | .ethb => Op.ethItems 1
  | .flk => (Op.drainEvent .flk cueEvt).andThen (Op.flkItems s.blk.shows.flk.items.length)
  | .rad => Op.all [ Op.drainEvent .rad radEvt, Op.radFlushAll, Op.radRetry ]
  | .tsu => Op.drainEvent .tsu tsuEvt
  | .can => Op.canDrain
  | .met => (Op.drainEvent .met metEvt).andThen Op.demandPush
  | .oxb => (Op.drainEvent .oxb oxbEvt).andThen Op.appRetry
  | .upd => Op.drainEvent .upd updEvt
  | .gnt => Op.drainEvent .gnt gntEvt
  | .mem => Op.drainEvent .mem memEvt
  | .bon => Op.when (s.running .bon) (Op.drainEvent .bon bonEvt)
  | _ => Op.skip

/-- EVENT_QUEUE_DRAIN: a block's queued event is pushed once its rill is usable and has room. -/
def execEventQueueDrain (n : BitVec 5) (s : State) : Host.Outcome State Fault Refusal :=
  (match blockOf n with
    | some b => Op.on b (Op.drain b)
    | none => Op.skip).go s

end Sys2Proof.Machine
end

