-- ==== Sys2Proof/Machine/Dispatch.lean ====
section
/-!
DEFINITION. The one dispatch of commands to their meanings, an arm for each constructor in the order of the opcode table.
-/
namespace Sys2Proof.Machine

def exec (i : Instr) (s : State) : Host.Outcome State Fault Refusal :=
  match i with
  | .registerWrite c a v => Sys2Proof.Machine.execRegisterWrite c a v s
  | .runSet n v => Sys2Proof.Machine.execRunSet n v s
  | .runStopRequest n v => Sys2Proof.Machine.execRunStopRequest n v s
  | .blockStopped n => Sys2Proof.Machine.execBlockStopped n s
  | .timedResultRelease island => Sys2Proof.Machine.execTimedResultRelease island s
  | .storeFaultResponse c => Sys2Proof.Machine.execStoreFaultResponse c s
  | .add c d a b S => Sys2Proof.Machine.execAdd c d a b S s
  | .sub c d a b S => Sys2Proof.Machine.execSub c d a b S s
  | .and c d a b S => Sys2Proof.Machine.execAnd c d a b S s
  | .or c d a b S => Sys2Proof.Machine.execOr c d a b S s
  | .xor c d a b S => Sys2Proof.Machine.execXor c d a b S s
  | .andn c d a b S => Sys2Proof.Machine.execAndn c d a b S s
  | .slt c d a b S => Sys2Proof.Machine.execSlt c d a b S s
  | .sltu c d a b S => Sys2Proof.Machine.execSltu c d a b S s
  | .sll c d a b S => Sys2Proof.Machine.execSll c d a b S s
  | .srl c d a b S => Sys2Proof.Machine.execSrl c d a b S s
  | .sra c d a b S => Sys2Proof.Machine.execSra c d a b S s
  | .slli c d a n S => Sys2Proof.Machine.execSlli c d a n S s
  | .srli c d a n S => Sys2Proof.Machine.execSrli c d a n S s
  | .srai c d a n S => Sys2Proof.Machine.execSrai c d a n S s
  | .ror c d a b S => Sys2Proof.Machine.execRor c d a b S s
  | .rori c d a n S => Sys2Proof.Machine.execRori c d a n S s
  | .clz c d a S => Sys2Proof.Machine.execClz c d a S s
  | .popc c d a S => Sys2Proof.Machine.execPopc c d a S s
  | .rev c d a S => Sys2Proof.Machine.execRev c d a S s
  | .min c d a b S => Sys2Proof.Machine.execMin c d a b S s
  | .max c d a b S => Sys2Proof.Machine.execMax c d a b S s
  | .minu c d a b S => Sys2Proof.Machine.execMinu c d a b S s
  | .maxu c d a b S => Sys2Proof.Machine.execMaxu c d a b S s
  | .addc c d a b S => Sys2Proof.Machine.execAddc c d a b S s
  | .subc c d a b S => Sys2Proof.Machine.execSubc c d a b S s
  | .addp c d a b S => Sys2Proof.Machine.execAddp c d a b S s
  | .subp c d a b S => Sys2Proof.Machine.execSubp c d a b S s
  | .sllp c d a b S => Sys2Proof.Machine.execSllp c d a b S s
  | .srlp c d a b S => Sys2Proof.Machine.execSrlp c d a b S s
  | .srap c d a b S => Sys2Proof.Machine.execSrap c d a b S s
  | .movp c d a S => Sys2Proof.Machine.execMovp c d a S s
  | .cmpp c a b => Sys2Proof.Machine.execCmpp c a b s
  | .mul c d a b S => Sys2Proof.Machine.execMul c d a b S s
  | .mulh c d a b S => Sys2Proof.Machine.execMulh c d a b S s
  | .mulhu c d a b S => Sys2Proof.Machine.execMulhu c d a b S s
  | .mulw c d a b S => Sys2Proof.Machine.execMulw c d a b S s
  | .mulwu c d a b S => Sys2Proof.Machine.execMulwu c d a b S s
  | .mac c d a b S => Sys2Proof.Machine.execMac c d a b S s
  | .macu c d a b S => Sys2Proof.Machine.execMacu c d a b S s
  | .div c d a b S => Sys2Proof.Machine.execDiv c d a b S s
  | .divu c d a b S => Sys2Proof.Machine.execDivu c d a b S s
  | .rem c d a b S => Sys2Proof.Machine.execRem c d a b S s
  | .remu c d a b S => Sys2Proof.Machine.execRemu c d a b S s
  | .addi c d a imm => Sys2Proof.Machine.execAddi c d a imm s
  | .andi c d a imm => Sys2Proof.Machine.execAndi c d a imm s
  | .ori c d a imm => Sys2Proof.Machine.execOri c d a imm s
  | .xori c d a imm => Sys2Proof.Machine.execXori c d a imm s
  | .slti c d a imm => Sys2Proof.Machine.execSlti c d a imm s
  | .sltiu c d a imm => Sys2Proof.Machine.execSltiu c d a imm s
  | .lhi c d imm => Sys2Proof.Machine.execLhi c d imm s
  | .cmpi c a imm => Sys2Proof.Machine.execCmpi c a imm s
  | .li c d imm => Sys2Proof.Machine.execLi c d imm s
  | .addis c d a imm => Sys2Proof.Machine.execAddis c d a imm s
  | .qadd c d a b S => Sys2Proof.Machine.execQadd c d a b S s
  | .qsub c d a b S => Sys2Proof.Machine.execQsub c d a b S s
  | .qaddu c d a b S => Sys2Proof.Machine.execQaddu c d a b S s
  | .qsubu c d a b S => Sys2Proof.Machine.execQsubu c d a b S s
  | .qmulq31 c d a b S => Sys2Proof.Machine.execQmulq31 c d a b S s
  | .qmul1616 c d a b S => Sys2Proof.Machine.execQmul1616 c d a b S s
  | .qneg c d a S => Sys2Proof.Machine.execQneg c d a S s
  | .qabs c d a S => Sys2Proof.Machine.execQabs c d a S s
  | .sats c d a n S => Sys2Proof.Machine.execSats c d a n S s
  | .satu c d a n S => Sys2Proof.Machine.execSatu c d a n S s
  | .qshl c d a n S => Sys2Proof.Machine.execQshl c d a n S s
  | .rshr c d a n S => Sys2Proof.Machine.execRshr c d a n S s
  | .qmac c d a b S => Sys2Proof.Machine.execQmac c d a b S s
  | .qnarrow c d a n S => Sys2Proof.Machine.execQnarrow c d a n S s
  | .padd16 c d a b S => Sys2Proof.Machine.execPadd16 c d a b S s
  | .psub16 c d a b S => Sys2Proof.Machine.execPsub16 c d a b S s
  | .pmulq15 c d a b S => Sys2Proof.Machine.execPmulq15 c d a b S s
  | .lw c d a imm => Sys2Proof.Machine.execLw c d a imm s
  | .ld c d a imm => Sys2Proof.Machine.execLd c d a imm s
  | .sw c d a imm => Sys2Proof.Machine.execSw c d a imm s
  | .sd c d a imm => Sys2Proof.Machine.execSd c d a imm s
  | .lb c d a imm => Sys2Proof.Machine.execLb c d a imm s
  | .lbu c d a imm => Sys2Proof.Machine.execLbu c d a imm s
  | .lh c d a imm => Sys2Proof.Machine.execLh c d a imm s
  | .lhu c d a imm => Sys2Proof.Machine.execLhu c d a imm s
  | .sb c d a imm => Sys2Proof.Machine.execSb c d a imm s
  | .sh c d a imm => Sys2Proof.Machine.execSh c d a imm s
  | .lwx c d a b scaled => Sys2Proof.Machine.execLwx c d a b scaled s
  | .ldx c d a b scaled => Sys2Proof.Machine.execLdx c d a b scaled s
  | .swx c d a b scaled => Sys2Proof.Machine.execSwx c d a b scaled s
  | .sdx c d a b scaled => Sys2Proof.Machine.execSdx c d a b scaled s
  | .lbx c d a b scaled => Sys2Proof.Machine.execLbx c d a b scaled s
  | .lbux c d a b scaled => Sys2Proof.Machine.execLbux c d a b scaled s
  | .lhx c d a b scaled => Sys2Proof.Machine.execLhx c d a b scaled s
  | .lhux c d a b scaled => Sys2Proof.Machine.execLhux c d a b scaled s
  | .sbx c d a b scaled => Sys2Proof.Machine.execSbx c d a b scaled s
  | .shx c d a b scaled => Sys2Proof.Machine.execShx c d a b scaled s
  | .loadReturn c n => Sys2Proof.Machine.execLoadReturn c n s
  | .amoswap c d a b => Sys2Proof.Machine.execAmoswap c d a b s
  | .amoadd c d a b => Sys2Proof.Machine.execAmoadd c d a b s
  | .amoand c d a b => Sys2Proof.Machine.execAmoand c d a b s
  | .amoor c d a b => Sys2Proof.Machine.execAmoor c d a b s
  | .amocas c d a b => Sys2Proof.Machine.execAmocas c d a b s
  | .bc c cond off => Sys2Proof.Machine.execBc c cond off s
  | .br c cond a off => Sys2Proof.Machine.execBr c cond a off s
  | .j c t => Sys2Proof.Machine.execJ c t s
  | .jal c t => Sys2Proof.Machine.execJal c t s
  | .jr c a => Sys2Proof.Machine.execJr c a s
  | .jalr c d a => Sys2Proof.Machine.execJalr c d a s
  | .mfc c d n => Sys2Proof.Machine.execMfc c d n s
  | .mtc c a n => Sys2Proof.Machine.execMtc c a n s
  | .eret c => Sys2Proof.Machine.execEret c s
  | .trap c code => Sys2Proof.Machine.execTrap c code s
  | .brk c => Sys2Proof.Machine.execBrk c s
  | .budgetExhausted c => Sys2Proof.Machine.execBudgetExhausted c s
  | .lmix c d a b => Sys2Proof.Machine.execLmix c d a b s
  | .lmixn c d a b => Sys2Proof.Machine.execLmixn c d a b s
  | .ltemp c a b => Sys2Proof.Machine.execLtemp c a b s
  | .lampInstrReturn c n => Sys2Proof.Machine.execLampInstrReturn c n s
  | .lsub c d a => Sys2Proof.Machine.execLsub c d a s
  | .push c n a => Sys2Proof.Machine.execPush c n a s
  | .pop c d n => Sys2Proof.Machine.execPop c d n s
  | .peek c d n => Sys2Proof.Machine.execPeek c d n s
  | .takeRill c d n => Sys2Proof.Machine.execTakeRill c d n s
  | .openp c n => Sys2Proof.Machine.execOpenp c n s
  | .closep c n a => Sys2Proof.Machine.execClosep c n a s
  | .cancelp c n => Sys2Proof.Machine.execCancelp c n s
  | .mark c n => Sys2Proof.Machine.execMark c n s
  | .rewind c n => Sys2Proof.Machine.execRewind c n s
  | .release c n => Sys2Proof.Machine.execRelease c n s
  | .takeDispatch c => Sys2Proof.Machine.execTakeDispatch c s
  | .done c => Sys2Proof.Machine.execDone c s
  | .spawn c d a => Sys2Proof.Machine.execSpawn c d a s
  | .tnow c d => Sys2Proof.Machine.execTnow c d s
  | .twait c d a => Sys2Proof.Machine.execTwait c d a s
  | .twaitd c d a => Sys2Proof.Machine.execTwaitd c d a s
  | .twaitRelease c => Sys2Proof.Machine.execTwaitRelease c s
  | .fence c => Sys2Proof.Machine.execFence c s
  | .gcall c d a service => Sys2Proof.Machine.execGcall c d a service s
  | .gpost c d a n service => Sys2Proof.Machine.execGpost c d a n service s
  | .gpostCompletion n => Sys2Proof.Machine.execGpostCompletion n s
  | .weirDispatch => Sys2Proof.Machine.execWeirDispatch s
  | .weirFlush groups => Sys2Proof.Machine.execWeirFlush groups s
  | .rillEnable n => Sys2Proof.Machine.execRillEnable n s
  | .rillDisable n => Sys2Proof.Machine.execRillDisable n s
  | .feedRillSubmit => Sys2Proof.Machine.execFeedRillSubmit s
  | .convert n => Sys2Proof.Machine.execConvert n s
  | .fade n => Sys2Proof.Machine.execFade n s
  | .steps n => Sys2Proof.Machine.execSteps n s
  | .lampLoad n => Sys2Proof.Machine.execLampLoad n s
  | .lampRead n => Sys2Proof.Machine.execLampRead n s
  | .batchCompletion => Sys2Proof.Machine.execBatchCompletion s
  | .lampCurveData write v => Sys2Proof.Machine.execLampCurveData write v s
  | .tableImageLoad => Sys2Proof.Machine.execTableImageLoad s
  | .corrTick => Sys2Proof.Machine.execCorrTick s
  | .solarUpdate => Sys2Proof.Machine.execSolarUpdate s
  | .solarQuery v => Sys2Proof.Machine.execSolarQuery v s
  | .solarQueryDone => Sys2Proof.Machine.execSolarQueryDone s
  | .presenceEvent => Sys2Proof.Machine.execPresenceEvent s
  | .faultReport => Sys2Proof.Machine.execFaultReport s
  | .corrResultPush => Sys2Proof.Machine.execCorrResultPush s
  | .corrFltFlush => Sys2Proof.Machine.execCorrFltFlush s
  | .walkStart => Sys2Proof.Machine.execWalkStart s
  | .sendRingSpace => Sys2Proof.Machine.execSendRingSpace s
  | .walkDone => Sys2Proof.Machine.execWalkDone s
  | .commitInstant => Sys2Proof.Machine.execCommitInstant s
  | .sourceRequest n => Sys2Proof.Machine.execSourceRequest n s
  | .sourceSwitch => Sys2Proof.Machine.execSourceSwitch s
  | .genlockEdge => Sys2Proof.Machine.execGenlockEdge s
  | .sourceMiss ltc => Sys2Proof.Machine.execSourceMiss ltc s
  | .ltcFrame hh mm ss ff reverse => Sys2Proof.Machine.execLtcFrame hh mm ss ff reverse s
  | .ltcUnlock => Sys2Proof.Machine.execLtcUnlock s
  | .videoPacket n rtp full => Sys2Proof.Machine.execVideoPacket n rtp full s
  | .universeDiscovery => Sys2Proof.Machine.execUniverseDiscovery s
  | .portFrameEnd p => Sys2Proof.Machine.execPortFrameEnd p s
  | .rdmRequest p v => Sys2Proof.Machine.execRdmRequest p v s
  | .rdmStart p => Sys2Proof.Machine.execRdmStart p s
  | .rdmResponseEnd p kind bytes => Sys2Proof.Machine.execRdmResponseEnd p kind bytes s
  | .radioSlot late => Sys2Proof.Machine.execRadioSlot late s
  | .txRequest => Sys2Proof.Machine.execTxRequest s
  | .frameExpire desc => Sys2Proof.Machine.execFrameExpire desc s
  | .sleepyMaxage desc => Sys2Proof.Machine.execSleepyMaxage desc s
  | .radioFrameReceive r psdu fcsGood sof rssi lqi => Sys2Proof.Machine.execRadioFrameReceive r psdu fcsGood sof rssi lqi s
  | .rxfreeBuffer => Sys2Proof.Machine.execRxfreeBuffer s
  | .scheduleBankRequest next => Sys2Proof.Machine.execScheduleBankRequest next s
  | .scheduleBankLoaded => Sys2Proof.Machine.execScheduleBankLoaded s
  | .keyBlockArm k v => Sys2Proof.Machine.execKeyBlockArm k v s
  | .newkey v => Sys2Proof.Machine.execNewkey v s
  | .nbrRead => Sys2Proof.Machine.execNbrRead s
  | .nbrWriteConfig => Sys2Proof.Machine.execNbrWriteConfig s
  | .nbrWriteAll => Sys2Proof.Machine.execNbrWriteAll s
  | .nbrClear => Sys2Proof.Machine.execNbrClear s
  | .neighbourAdrift n => Sys2Proof.Machine.execNeighbourAdrift n s
  | .scanDwell => Sys2Proof.Machine.execScanDwell s
  | .parentAdopt n => Sys2Proof.Machine.execParentAdopt n s
  | .recalRequest radio => Sys2Proof.Machine.execRecalRequest radio s
  | .recalEnd => Sys2Proof.Machine.execRecalEnd s
  | .ethFrameReceive x f fcsGood full => Sys2Proof.Machine.execEthFrameReceive x f fcsGood full s
  | .pauseEnd x => Sys2Proof.Machine.execPauseEnd x s
  | .ethSingleFrame x q => Sys2Proof.Machine.execEthSingleFrame x q s
  | .tcpSegmentation x q n => Sys2Proof.Machine.execTcpSegmentation x q n s
  | .udpSegmentation x q n => Sys2Proof.Machine.execUdpSegmentation x q n s
  | .ethTxComplete x q => Sys2Proof.Machine.execEthTxComplete x q s
  | .linkChange x up speed => Sys2Proof.Machine.execLinkChange x up speed s
  | .mdioOperation v => Sys2Proof.Machine.execMdioOperation v s
  | .mdioDone data => Sys2Proof.Machine.execMdioDone data s
  | .bridgeAge => Sys2Proof.Machine.execBridgeAge s
  | .timeSet => Sys2Proof.Machine.execTimeSet s
  | .timeStep => Sys2Proof.Machine.execTimeStep s
  | .trackerAcquire => Sys2Proof.Machine.execTrackerAcquire s
  | .measurementSubmit k hi => Sys2Proof.Machine.execMeasurementSubmit k hi s
  | .ppsInEdge => Sys2Proof.Machine.execPpsInEdge s
  | .ppsMiss => Sys2Proof.Machine.execPpsMiss s
  | .ppsOutEdge => Sys2Proof.Machine.execPpsOutEdge s
  | .trackerTimeout k => Sys2Proof.Machine.execTrackerTimeout k s
  | .sourceSelect sel => Sys2Proof.Machine.execSourceSelect sel s
  | .canTxRequest v => Sys2Proof.Machine.execCanTxRequest v s
  | .canIntermission start other => Sys2Proof.Machine.execCanIntermission start other s
  | .canTxComplete lost => Sys2Proof.Machine.execCanTxComplete lost s
  | .canTxCancel v => Sys2Proof.Machine.execCanTxCancel v s
  | .abortall => Sys2Proof.Machine.execAbortall s
  | .recover => Sys2Proof.Machine.execRecover s
  | .recoveryEnd => Sys2Proof.Machine.execRecoveryEnd s
  | .canFrameReceive id xtd rtr dlc fdf brs esi res data sof => Sys2Proof.Machine.execCanFrameReceive id xtd rtr dlc fdf brs esi res data sof s
  | .canError tx code data weight => Sys2Proof.Machine.execCanError tx code data weight s
  | .canRxReturn hi v => Sys2Proof.Machine.execCanRxReturn hi v s
  | .metSample raw lost => Sys2Proof.Machine.execMetSample raw lost s
  | .settlingEnd => Sys2Proof.Machine.execSettlingEnd s
  | .modulatorFault c => Sys2Proof.Machine.execModulatorFault c s
  | .modulatorRecover c => Sys2Proof.Machine.execModulatorRecover c s
  | .demandIntervalEnd => Sys2Proof.Machine.execDemandIntervalEnd s
  | .demandRecordPush => Sys2Proof.Machine.execDemandRecordPush s
  | .snap => Sys2Proof.Machine.execSnap s
  | .preset => Sys2Proof.Machine.execPreset s
  | .supplyCutTheft => Sys2Proof.Machine.execSupplyCutTheft s
  | .residualTheft => Sys2Proof.Machine.execResidualTheft s
  | .metRestore => Sys2Proof.Machine.execMetRestore s
  | .eventQueueDrain n => Sys2Proof.Machine.execEventQueueDrain n s
  | .ownBEdge periods samePos => Sys2Proof.Machine.execOwnBEdge periods samePos s
  | .ownershipLoss => Sys2Proof.Machine.execOwnershipLoss s
  | .oxbKick => Sys2Proof.Machine.execOxbKick s
  | .oxbWatchdogExpire => Sys2Proof.Machine.execOxbWatchdogExpire s
  | .waitEnd => Sys2Proof.Machine.execWaitEnd s
  | .guardEnd linkDown => Sys2Proof.Machine.execGuardEnd linkDown s
  | .claimRetry => Sys2Proof.Machine.execClaimRetry s
  | .healthSend => Sys2Proof.Machine.execHealthSend s
  | .healthFrame p => Sys2Proof.Machine.execHealthFrame p s
  | .yieldFrame => Sys2Proof.Machine.execYieldFrame s
  | .reserveFrame k mark => Sys2Proof.Machine.execReserveFrame k mark s
  | .resAckFrame k mark => Sys2Proof.Machine.execResAckFrame k mark s
  | .syncFrame marks => Sys2Proof.Machine.execSyncFrame marks s
  | .appFrame p => Sys2Proof.Machine.execAppFrame p s
  | .clearFrame k => Sys2Proof.Machine.execClearFrame k s
  | .clrAckFrame k => Sys2Proof.Machine.execClrAckFrame k s
  | .linkFrameError tx app => Sys2Proof.Machine.execLinkFrameError tx app s
  | .linkLost => Sys2Proof.Machine.execLinkLost s
  | .yieldCmd => Sys2Proof.Machine.execYieldCmd s
  | .yieldCondition b => Sys2Proof.Machine.execYieldCondition b s
  | .revertReady => Sys2Proof.Machine.execRevertReady s
  | .safepoint => Sys2Proof.Machine.execSafepoint s
  | .reserveCmd k => Sys2Proof.Machine.execReserveCmd k s
  | .reserveTimeout => Sys2Proof.Machine.execReserveTimeout s
  | .clearCmd k => Sys2Proof.Machine.execClearCmd k s
  | .clearTimeout => Sys2Proof.Machine.execClearTimeout s
  | .setmin k => Sys2Proof.Machine.execSetmin k s
  | .appSend v => Sys2Proof.Machine.execAppSend v s
  | .appSent => Sys2Proof.Machine.execAppSent s
  | .oxbRxReturn v => Sys2Proof.Machine.execOxbRxReturn v s
  | .standbySelfTestRequest go => Sys2Proof.Machine.execStandbySelfTestRequest go s
  | .standbySelfTestEnd fail => Sys2Proof.Machine.execStandbySelfTestEnd fail s
  | .updVerify slot => Sys2Proof.Machine.execUpdVerify slot s
  | .updVerifyDone => Sys2Proof.Machine.execUpdVerifyDone s
  | .arm slot => Sys2Proof.Machine.execArm slot s
  | .cancel => Sys2Proof.Machine.execCancel s
  | .confirm => Sys2Proof.Machine.execConfirm s
  | .reject => Sys2Proof.Machine.execReject s
  | .updRecover => Sys2Proof.Machine.execUpdRecover s
  | .updReset => Sys2Proof.Machine.execUpdReset s
  | .trialWindowExpire => Sys2Proof.Machine.execTrialWindowExpire s
  | .bootSlotChoice => Sys2Proof.Machine.execBootSlotChoice s
  | .compatCheck => Sys2Proof.Machine.execCompatCheck s
  | .norEraseProgram erase off len data => Sys2Proof.Machine.execNorEraseProgram erase off len data s
  | .hello => Sys2Proof.Machine.execHello s
  | .updBegin eth seq len fails => Sys2Proof.Machine.execUpdBegin eth seq len fails s
  | .updData eth seq off bytes fails => Sys2Proof.Machine.execUpdData eth seq off bytes fails s
  | .updEnd eth seq => Sys2Proof.Machine.execUpdEnd eth seq s
  | .random n => Sys2Proof.Machine.execRandom n s
  | .hash n => Sys2Proof.Machine.execHash n s
  | .gntVerify n => Sys2Proof.Machine.execGntVerify n s
  | .encrypt n => Sys2Proof.Machine.execEncrypt n s
  | .decrypt n => Sys2Proof.Machine.execDecrypt n s
  | .keyGen n => Sys2Proof.Machine.execKeyGen n s
  | .keyLoad n => Sys2Proof.Machine.execKeyLoad n s
  | .wrap n => Sys2Proof.Machine.execWrap n s
  | .unwrap n => Sys2Proof.Machine.execUnwrap n s
  | .derive n => Sys2Proof.Machine.execDerive n s
  | .ecdh n => Sys2Proof.Machine.execEcdh n s
  | .pubkey n => Sys2Proof.Machine.execPubkey n s
  | .destroy n => Sys2Proof.Machine.execDestroy n s
  | .credLoad n => Sys2Proof.Machine.execCredLoad n s
  | .credSeal n => Sys2Proof.Machine.execCredSeal n s
  | .sessChallenge n => Sys2Proof.Machine.execSessChallenge n s
  | .sessOpen n => Sys2Proof.Machine.execSessOpen n s
  | .sessClose n => Sys2Proof.Machine.execSessClose n s
  | .sessionChallengeExpire n => Sys2Proof.Machine.execSessionChallengeExpire n s
  | .sessionTimeout n => Sys2Proof.Machine.execSessionTimeout n s
  | .credentialUnlock n => Sys2Proof.Machine.execCredentialUnlock n s
  | .lcAdvance n => Sys2Proof.Machine.execLcAdvance n s
  | .lcUnlock resp => Sys2Proof.Machine.execLcUnlock resp s
  | .debugon c => Sys2Proof.Machine.execDebugon c s
  | .drbgHealthFail => Sys2Proof.Machine.execDrbgHealthFail s
  | .writeback => Sys2Proof.Machine.execWriteback s
  | .memInit v => Sys2Proof.Machine.execMemInit v s
  | .memInitDone => Sys2Proof.Machine.execMemInitDone s
  | .remapInstall dram e line => Sys2Proof.Machine.execRemapInstall dram e line s
  | .remapRemove dram e line => Sys2Proof.Machine.execRemapRemove dram e line s
  | .scrubRead m => Sys2Proof.Machine.execScrubRead m s
  | .maintRequest v => Sys2Proof.Machine.execMaintRequest v s
  | .grantRelease req cal standby => Sys2Proof.Machine.execGrantRelease req cal standby s
  | .retrainingEnd => Sys2Proof.Machine.execRetrainingEnd s
  | .memSelfTestEnd lines => Sys2Proof.Machine.execMemSelfTestEnd lines s
  | .supplySwitch => Sys2Proof.Machine.execSupplySwitch s
  | .commitEnd => Sys2Proof.Machine.execCommitEnd s
  | .retentionLoss => Sys2Proof.Machine.execRetentionLoss s
  | .rtcShadowRead => Sys2Proof.Machine.execRtcShadowRead s
  | .rtcRelease => Sys2Proof.Machine.execRtcRelease s
  | .rtcSet => Sys2Proof.Machine.execRtcSet s
  | .rtcSync => Sys2Proof.Machine.execRtcSync s
  | .trimWrite v => Sys2Proof.Machine.execTrimWrite v s
  | .alarmFire a => Sys2Proof.Machine.execAlarmFire a s
  | .alarmWrite a r v => Sys2Proof.Machine.execAlarmWrite a r v s
  | .tamperDetect t high => Sys2Proof.Machine.execTamperDetect t high s
  | .csWindowWrite w v => Sys2Proof.Machine.execCsWindowWrite w v s
  | .recordLog => Sys2Proof.Machine.execRecordLog s
  | .recCursor v => Sys2Proof.Machine.execRecCursor v s
  | .windowAdvance => Sys2Proof.Machine.execWindowAdvance s
  | .recSnap => Sys2Proof.Machine.execRecSnap s
  | .firmwareRecord kind => Sys2Proof.Machine.execFirmwareRecord kind s
  | .vinWarning below => Sys2Proof.Machine.execVinWarning below s
  | .vinGoodFall => Sys2Proof.Machine.execVinGoodFall s
  | .vbatCritFall => Sys2Proof.Machine.execVbatCritFall s
  | .powerOnReset gpio23Low => Sys2Proof.Machine.execPowerOnReset gpio23Low s
  | .coldReset gpio23Low => Sys2Proof.Machine.execColdReset gpio23Low s
  | .brownoutReset => Sys2Proof.Machine.execBrownoutReset s
  | .bankNotOk bankB mv => Sys2Proof.Machine.execBankNotOk bankB mv s
  | .systemReset key => Sys2Proof.Machine.execSystemReset key s
  | .standby key => Sys2Proof.Machine.execStandby key s
  | .wake => Sys2Proof.Machine.execWake s
  | .coreRestart v => Sys2Proof.Machine.execCoreRestart v s
  | .coreRestartDone c => Sys2Proof.Machine.execCoreRestartDone c s
  | .domainSwitch c v => Sys2Proof.Machine.execDomainSwitch c v s
  | .domainOn d => Sys2Proof.Machine.execDomainOn d s
  | .perfWrite v => Sys2Proof.Machine.execPerfWrite v s
  | .sysKick => Sys2Proof.Machine.execSysKick s
  | .sysWatchdogExpire => Sys2Proof.Machine.execSysWatchdogExpire s
  | .watchdogReset => Sys2Proof.Machine.execWatchdogReset s
  | .aliveWrite v => Sys2Proof.Machine.execAliveWrite v s
  | .wdogWrite v => Sys2Proof.Machine.execWdogWrite v s
  | .triggerEdge n rising => Sys2Proof.Machine.execTriggerEdge n rising s
  | .illegalInstruction c w => Sys2Proof.Machine.execIllegalInstruction c w s
  | .debuggerHalt c => Sys2Proof.Machine.execDebuggerHalt c s
  | .jtagResetInstruction => Sys2Proof.Machine.execJtagResetInstruction s
  | .busIntegration => Sys2Proof.Machine.execBusIntegration s
  | .ppsOutFall => Sys2Proof.Machine.execPpsOutFall s
  | .drbgHealthRecover => Sys2Proof.Machine.execDrbgHealthRecover s
  | .vbatRecover => Sys2Proof.Machine.execVbatRecover s
  | .usbVbusChange above => Sys2Proof.Machine.execUsbVbusChange above s
  | .powerManagerLoss => Sys2Proof.Machine.execPowerManagerLoss s

end Sys2Proof.Machine
end

