-- ==== Sys2Proof/Machine/Tick.lean ====
section
/-!
DEFINITION. What the clocks do while no command acts (log entry 20): one 4 ns tick of the time base (R317) and of the crystal (R476).
-/
namespace Sys2Proof.Machine

/-- The crystal advances by `ns` ns: 10⁹ parts make a pulse, and `ns` ns are `ns` × 32,768 of them. It runs on the Bonnet rail. -/
def Op.crystal (ns : Nat) : Op := Op.get fun s =>
  Op.when (s.domOn 0)
    (let f := s.blk.clk.frac + ns * 32768
     if f < 1000000000 then Op.clk fun c => { c with frac := f }
     else (Op.clk fun c => { c with frac := f - 1000000000 }).andThen (Op.pulse.andThen Op.oxbPulse))

/-- One tick. The moment of a release of the maintenance grant is over with it (R465), and Weir has answered the trigger bindings (R524). -/
def Op.tick : Op := Op.all [ Op.on .mem Op.grantFree, Op.on .gpio Op.trigAnswers, Op.tbTick, Op.crystal 4 ]

end Sys2Proof.Machine
end

