-- ==== Sys2Proof/Machine/Pads.lean ====
section
/-!
DEFINITION. What the module drives its output pads to (R250 to R253, R255, R326, R351, R376, R517 to R520): each level follows from the
state; a pad without a level is high impedance. `LIGHT_FAILSAFE`, the USB pull-up and the general pads stand in `Power.lean`.
-/
namespace Sys2Proof.Machine

/-! ### Supply groups (R518, R519) -/

/-- The level of an output of a group, while the group is usable. -/
def padOf (usable level : Bool) : Option Bool := if usable then some level else none

/-! ### Pixel ports (R250 to R253, R255) -/

/-- Bit `i` of the bytes of a frame as they go over the wire, most or least significant bit of a byte first; 0 beyond the last byte. -/
def wireBit (msbFirst : Bool) (bytes : List Byte) (i : Nat) : Bool :=
  (bytes.getD (i / 8) 0).getLsbD (if msbFirst then 7 - i % 8 else i % 8)

/-- Whether a port sends at this moment: a frame, or the bytes of an RDM request. -/
def State.portSends (s : State) (p : Fin 16) : Bool :=
  (s.port p).sends.isSome || (match (s.port p).rdm with | .running fin => s.now < fin | _ => false)

/-- Serializer ticks of 10 ns since the port's frame began. -/
def State.portTicks (s : State) (p : Fin 16) : Nat := ((s.now : Int) - (s.port p).began).toNat / 10

/-- NRZ: each bit is high for `T0H` or `T1H` of its `TBIT` ticks; after the last bit the line is low (R251). -/
def nrzLevel (t0h t1h tbit : Nat) (bytes : List Byte) (t : Nat) : Bool :=
  let i := t / tbit
  i < 8 * bytes.length && t % tbit < (if wireBit true bytes i then t1h else t0h)

/-- Clocked mode: the data bit of each clock period, and low after the last (R252). -/
def clockedData (div : Nat) (bytes : List Byte) (t : Nat) : Bool := t / div < 8 * bytes.length && wireBit true bytes (t / div)

/-- The clock is low for ceil(`DIV`/2) ticks, then high for the rest of the period (R252). -/
def clockedClock (div : Nat) (bytes : List Byte) (t : Nat) : Bool := t / div < 8 * bytes.length && (div + 1) / 2 ≤ t % div

/-- DMX: a break, a mark, then for each byte a start bit, eight bits from the lowest and two stop bits of 4 µs each; else mark (R253). -/
def dmxLevel (brk mab : Nat) (bytes : List Byte) (t : Nat) : Bool :=
  let us := t / 100
  if us < brk then false
  else
    let v := us - brk - mab
    let k := v % 44 / 4
    us < brk + mab || 44 * bytes.length ≤ v || 9 ≤ k || (1 ≤ k && wireBit false bytes (8 * (v / 44) + (k - 1)))

/-- The data line of a port before `INV`. -/
def State.portLine (s : State) (p : Fin 16) : Bool :=
  let t := s.portTicks p
  let w := (s.port p).wire
  match s.fld (F.PXP_CFG_MODE p) with
  | 0 => s.portSends p && nrzLevel (s.fld (F.PXP_NRZ_T0H p)) (s.fld (F.PXP_NRZ_T1H p)) (s.fld (F.PXP_NRZ_TBIT p)) w t
  | 1 => s.portSends p && clockedData (s.fld (F.PXP_CLK_DIV p)) w t
  | _ => !(s.portSends p) || dmxLevel (s.fld (F.PXP_DMX_BREAK p)) (s.fld (F.PXP_DMX_MAB p)) w t

/-- Whether a port drives its pads: from the moment it has been enabled while PXP runs, and while bank B is usable. -/
def State.portDrives (s : State) (p : Fin 16) : Bool := s.bankB && s.powered .pxp && (s.port p).driven

/-- `PXPp_DO`; `INV` inverts it. -/
def State.pxpDO (s : State) (p : Fin 16) : Option Bool := padOf (s.portDrives p) (s.portLine p != s.bit (F.PXP_CFG_INV p))

/-- `PXPp_CK`: low, the clock, or the driver enable, which falls after an RDM request until its response has ended. -/
def State.pxpCK (s : State) (p : Fin 16) : Option Bool :=
  padOf (s.portDrives p)
    (match s.fld (F.PXP_CFG_MODE p) with
      | 0 => false
      | 1 => s.portSends p && clockedClock (s.fld (F.PXP_CLK_DIV p)) (s.port p).wire (s.portTicks p)
      | _ => s.portSends p || (match (s.port p).rdm with | .running _ => false | _ => true))

/-! ### Other outputs -/

/-- `OWN_A` toggles every 16 periods of the real-time clock while this module is owner, in states 3 and 4, with its watchdog alive, and is
low else (R376, R377). -/
def State.ownA (s : State) : Option Bool :=
  let st := s.fld F.OXB_STAT_STATE
  padOf s.bankA (s.powered .oxb && (st == 3 || st == 4) && s.oxbAlive && (s.pulses - s.blk.oxb.toggles) / 16 % 2 == 0)

/-- `ISO_EN` follows `MET_CTRL.ISO` (R351). -/
def State.isoEn (s : State) : Option Bool := padOf (s.powered .met) (s.bit F.MET_CTRL_ISO)

/-- The frequency of `MODCLK` in kHz, 0 while it is low: 10, 5 or 2.5 MHz by `MET_CTRL.CLK` while MET runs (R351). The metering group is
powered while D1 is (R518). -/
def State.modclk (s : State) : Option Nat :=
  if !(s.powered .met) then none
  else some (if s.running .met then (match s.fld F.MET_CTRL_CLK with | 0 => 10000 | 1 => 5000 | _ => 2500) else 0)

/-- `CAN_STB` is low while `CAN_CTRL.RUN` reads 1 (R520). -/
def State.canStb (s : State) : Option Bool := padOf s.bankA !(s.powered .can && s.bit F.CAN_CTRL_RUN)

/-- `PPS_OUT` is high from its edge until its width has passed (R326). -/
def State.ppsOut (s : State) : Option Bool := padOf s.bankA s.tsu.ppsOut.isSome

/-! ### Serial outputs between their commands (R517)

A frame, a byte or an acknowledge passes within one command or between two: no state lies inside one, and what stands here is the level
that the pad has outside them (log entry 44). -/

/-- `CAN_TX` is recessive. -/
def State.canTx (s : State) : Option Bool := padOf s.bankA true

/-- `UART_TX` marks. -/
def State.uartTx (s : State) : Option Bool := padOf s.bankA true

/-- `OXB_TD0`, `OXB_TD1` and `OXB_RACK`: the handshake has returned to zero. -/
def State.oxbTx (s : State) : Option Bool := padOf s.bankA false

/-- `MDC` is low. -/
def State.mdc (s : State) : Option Bool := padOf s.bankA false

/-- `MDIO` is high impedance. -/
def State.mdio (_ : State) : Option Bool := none

/-- `TDO` is driven only while the TAP shifts data (R520). -/
def State.tdo (_ : State) : Option Bool := none

/-- `USB_DM`, and `USB_DP` but for its pull-up, are high impedance. -/
def State.usbData (_ : State) : Option Bool := none

/-- Whether the transmit pair of an Ethernet port sends line symbols or is idle, while D12 powers the lane group (R297, R518). -/
def State.ethTx (s : State) (x : Fin 2) : Option Bool :=
  padOf (s.powered (if x = 0 then .etha else .ethb)) (s.fld (F.ETH_CFG_IF x) != 0)

end Sys2Proof.Machine
end

