-- ==== Sys2Proof/Safety.lean ====
section
/-!
DEFINITION. The terms that claims use: what every state keeps, when a core issues the instruction it is given, what an instruction that
retires leaves, and what stays the same.
-/
namespace Sys2Proof.Machine

/-! ### Invariant -/

/-- The stores are in canonical form and no register word has a one in a reserved bit (R8). -/
abbrev State.Inv (s : State) : Prop := s.store.Wf

/-! ### Instructions -/

/-- The state with one core replaced. -/
def State.setCore (s : State) (c : CoreId) (k : Core) : State :=
  { s with blk := { s.blk with cores := s.blk.cores.set c k } }

/-- The word at the core's pc can be fetched: no fetch cause of R86 holds, and local instruction memory holds it without an error. -/
def State.fetches (s : State) (c : CoreId) : Bool :=
  (s.core c).pc.toNat % 4 == 0 &&
    match regionOf (s.core c).pc.toNat with
    | .localI => weight (s.errAt (localKey c.val (s.core c).pc.toNat)) == 0
    | .rom => (s.core c).sys
    | .nor => s.domOn 15
    | _ => false

/-- The core issues the instruction it is given: it runs, no fault of a store is pending, its budget is not exhausted, and its fetch
succeeds (R44, R54, R86). -/
def State.ready (s : State) (c : CoreId) : Bool :=
  s.issues c && (s.core c).faults.isEmpty && !((s.core c).budgeted && (s.core c).budget == 0) && s.fetches c

/-- The core once every outstanding load whose destination is among `uses` has returned (R44). -/
def State.fed (s : State) (c : CoreId) (uses : List RegNo) : Core := (s.core c).need uses

/-- The state after an instruction of core `c` that changes the core by `f` and retires; nothing else changes. -/
def State.retires (s : State) (c : CoreId) (uses : List RegNo) (f : Core → Core) : State :=
  s.setCore c ((f (s.fed c uses)).retire (s.fed c uses).budgeted ((s.fed c uses).pc + 4))

/-- The state after an instruction of core `c` that takes the exception `code`. -/
def State.raises (s : State) (c : CoreId) (uses : List RegNo) (code detail : Nat) (eaddr : Word) : State :=
  (Op.raise c code detail eaddr).run (s.setCore c (s.fed c uses))

/-- Where every field names a pair the instruction changes the core by `f` and retires; else it raises ILLEGAL with reason 4 (R47). -/
def State.pairStep (s : State) (c : CoreId) (uses pairs : List RegNo) (f : Core → Core) : State :=
  if pairs.all isPair then s.retires c uses f else s.raises c uses 0x01 4 0

/-- The core with a word result in `d`, and with the flags `st` where `S` is 1. -/
def Core.putW (k : Core) (d : RegNo) (S : Bool) (r st : Word) : Core := { k.wr d r with st := if S then st else k.st }

/-- The core with a pair result in `d`, and with the flags `st` where `S` is 1. -/
def Core.putP (k : Core) (d : RegNo) (S : Bool) (r : DWord) (st : Word) : Core := { k.wrp d r with st := if S then st else k.st }

/-- The core with a saturating result in `d`: Z, N and V follow where `S` is 1, and the sticky Q sets where it was clamped. -/
def Core.putQ (k : Core) (d : RegNo) (S : Bool) (r : Word) (clamped : Bool) : Core :=
  { k.wr d r with
    st := if S then satFlags k.st r clamped else k.st
    sat := if clamped then k.sat ||| 1 else k.sat }

/-- An instruction of two word operands by its table row: its result and its flags, from `st` and the operands. -/
structure WordOp where
  instr : CoreId → RegNo → RegNo → RegNo → Bool → Instr
  result : Word → Word → Word → Word
  flags : Word → Word → Word → Word → Word

/-- The flags Z and N of a result. -/
def zn : Word → Word → Word → Word → Word := fun st _ _ r => znFlags st r

/-- The carry as a number. -/
def carry (st : Word) : Word := if flagC st then 1 else 0

/-- The instructions of two word operands (R59, R62, R63), with C before the instruction for ADDC and SUBC. -/
def wordOps : List WordOp :=
  [ ⟨.add, fun _ x y => x + y, fun st x y _ => addFlags st x y false⟩,
    ⟨.sub, fun _ x y => x - y, fun st x y _ => subFlags st x y true⟩,
    ⟨.and, fun _ x y => x &&& y, zn⟩,
    ⟨.or, fun _ x y => x ||| y, zn⟩,
    ⟨.xor, fun _ x y => x ^^^ y, zn⟩,
    ⟨.andn, fun _ x y => x &&& ~~~ y, zn⟩,
    ⟨.slt, fun _ x y => if x.toInt < y.toInt then 1 else 0, zn⟩,
    ⟨.sltu, fun _ x y => if x.toNat < y.toNat then 1 else 0, zn⟩,
    ⟨.sll, fun _ x y => x <<< (y.toNat % 32), fun st x y r => shiftFlags st r (y.toNat % 32) (x.getLsbD (32 - y.toNat % 32))⟩,
    ⟨.srl, fun _ x y => x >>> (y.toNat % 32), fun st x y r => shiftFlags st r (y.toNat % 32) (x.getLsbD (y.toNat % 32 - 1))⟩,
    ⟨.sra, fun _ x y => x.sshiftRight (y.toNat % 32), fun st x y r => shiftFlags st r (y.toNat % 32) (x.getLsbD (y.toNat % 32 - 1))⟩,
    ⟨.ror, fun _ x y => x.rotateRight (y.toNat % 32), fun st x y r => shiftFlags st r (y.toNat % 32) (x.getLsbD (y.toNat % 32 - 1))⟩,
    ⟨.min, fun _ x y => if x.toInt < y.toInt then x else y, zn⟩,
    ⟨.max, fun _ x y => if x.toInt < y.toInt then y else x, zn⟩,
    ⟨.minu, fun _ x y => if x.toNat < y.toNat then x else y, zn⟩,
    ⟨.maxu, fun _ x y => if x.toNat < y.toNat then y else x, zn⟩,
    ⟨.addc, fun st x y => x + y + carry st, fun st x y _ => addFlags st x y (flagC st)⟩,
    ⟨.subc, fun st x y => x - y - (1 - carry st), fun st x y _ => subFlags st x y (flagC st)⟩,
    ⟨.mul, fun _ x y => BitVec.ofNat 32 (x.toNat * y.toNat), zn⟩,
    ⟨.mulh, fun _ x y => BitVec.ofInt 32 (x.toInt * y.toInt / 2 ^ 32), zn⟩,
    ⟨.mulhu, fun _ x y => BitVec.ofNat 32 (x.toNat * y.toNat / 2 ^ 32), zn⟩,
    ⟨.div, fun _ x y => if y = 0 then 0xFFFFFFFF else BitVec.ofInt 32 (x.toInt.tdiv y.toInt), fun st _ y r => divFlags st r y⟩,
    ⟨.divu, fun _ x y => if y = 0 then 0xFFFFFFFF else BitVec.ofNat 32 (x.toNat / y.toNat), fun st _ y r => divFlags st r y⟩,
    ⟨.rem, fun _ x y => if y = 0 then x else BitVec.ofInt 32 (x.toInt.tmod y.toInt), fun st _ y r => divFlags st r y⟩,
    ⟨.remu, fun _ x y => if y = 0 then x else BitVec.ofNat 32 (x.toNat % y.toNat), fun st _ y r => divFlags st r y⟩ ]

/-- A saturating instruction of two word operands by its table row: the exact value that is clamped to 32 bits, and whether the clamp is
unsigned (R64, R65). -/
structure FixedOp where
  instr : CoreId → RegNo → RegNo → RegNo → Bool → Instr
  exact : Word → Word → Int
  unsigned : Bool

/-- The saturating instructions of two word operands with one 32-bit result. -/
def fixedOps : List FixedOp :=
  [ ⟨.qadd, fun x y => x.toInt + y.toInt, false⟩,
    ⟨.qsub, fun x y => x.toInt - y.toInt, false⟩,
    ⟨.qaddu, fun x y => (x.toNat : Int) + y.toNat, true⟩,
    ⟨.qsubu, fun x y => (x.toNat : Int) - y.toNat, true⟩,
    ⟨.qmulq31, fun x y => (x.toInt * y.toInt + 2 ^ 30) / 2 ^ 31, false⟩,
    ⟨.qmul1616, fun x y => (x.toInt * y.toInt + 2 ^ 15) / 2 ^ 16, false⟩ ]

/-- An exact value clamped to 32 bits. -/
def clamp32 (unsigned : Bool) (z : Int) : Int :=
  if unsigned then max 0 (min z (2 ^ 32 - 1)) else max (-(2 ^ 31)) (min z (2 ^ 31 - 1))

/-- A value with half of the last kept unit added, shifted right by `n`; unchanged for `n` 0 (R65). -/
def rounded (z : Int) (n : Nat) : Int := if n = 0 then z else (z + 2 ^ (n - 1)) / 2 ^ n

/-- A form of a load or a store: the instruction, whether its data is a pair, the registers it uses, its size, its address, and the
registers that a load of `v` writes. -/
structure MemForm where
  instr : Instr
  pair : Bool
  uses : List RegNo
  size : Nat
  addr : Core → Word
  writes : Nat → List (RegNo × Word)

/-- The value of `bits` bits, sign-extended to a word. -/
def signed (bits v : Nat) : Word := if v < 2 ^ (bits - 1) then BitVec.ofNat 32 v else BitVec.ofNat 32 (v + 2 ^ 32 - 2 ^ bits)

/-- A pair's registers from a doubleword: the high word in the even one. -/
def pairOf (d : RegNo) (v : Nat) : List (RegNo × Word) := [(d, BitVec.ofNat 32 (v / 2 ^ 32)), (d + 1, BitVec.ofNat 32 v)]

/-- The address of an indexed access: the index is scaled by the size where the instruction says so (R67). -/
def indexed (a b : RegNo) (scaled : Bool) (size : Nat) (k : Core) : Word :=
  k.rd a + k.rd b * (if scaled then BitVec.ofNat 32 size else 1)

/-- Every form of a load (R66, R67). -/
def loadForms (c : CoreId) (d a b : RegNo) (imm : BitVec 16) (narrow : BitVec 12) (scaled : Bool) : List MemForm :=
  let word (v : Nat) : List (RegNo × Word) := [(d, BitVec.ofNat 32 v)]
  let sign (bits v : Nat) : List (RegNo × Word) := [(d, signed bits v)]
  [ ⟨.lw c d a imm, false, [d, a], 4, fun k => k.rd a + imm.signExtend 32, word⟩,
    ⟨.ld c d a imm, true, [d, d + 1, a], 8, fun k => k.rd a + imm.signExtend 32, pairOf d⟩,
    ⟨.lb c d a narrow, false, [d, a], 1, fun k => k.rd a + narrow.signExtend 32, sign 8⟩,
    ⟨.lbu c d a narrow, false, [d, a], 1, fun k => k.rd a + narrow.signExtend 32, word⟩,
    ⟨.lh c d a narrow, false, [d, a], 2, fun k => k.rd a + narrow.signExtend 32, sign 16⟩,
    ⟨.lhu c d a narrow, false, [d, a], 2, fun k => k.rd a + narrow.signExtend 32, word⟩,
    ⟨.lwx c d a b scaled, false, [d, a, b], 4, indexed a b scaled 4, word⟩,
    ⟨.ldx c d a b scaled, true, [d, d + 1, a, b], 8, indexed a b scaled 8, pairOf d⟩,
    ⟨.lbx c d a b scaled, false, [d, a, b], 1, indexed a b scaled 1, sign 8⟩,
    ⟨.lbux c d a b scaled, false, [d, a, b], 1, indexed a b scaled 1, word⟩,
    ⟨.lhx c d a b scaled, false, [d, a, b], 2, indexed a b scaled 2, sign 16⟩,
    ⟨.lhux c d a b scaled, false, [d, a, b], 2, indexed a b scaled 2, word⟩ ]

/-- Every form of a store (R66, R67). -/
def storeForms (c : CoreId) (d a b : RegNo) (imm : BitVec 16) (narrow : BitVec 12) (scaled : Bool) : List MemForm :=
  [ ⟨.sw c d a imm, false, [d, a], 4, fun k => k.rd a + imm.signExtend 32, fun _ => []⟩,
    ⟨.sd c d a imm, true, [d, d + 1, a], 8, fun k => k.rd a + imm.signExtend 32, fun _ => []⟩,
    ⟨.sb c d a narrow, false, [d, a], 1, fun k => k.rd a + narrow.signExtend 32, fun _ => []⟩,
    ⟨.sh c d a narrow, false, [d, a], 2, fun k => k.rd a + narrow.signExtend 32, fun _ => []⟩,
    ⟨.swx c d a b scaled, false, [d, a, b], 4, indexed a b scaled 4, fun _ => []⟩,
    ⟨.sdx c d a b scaled, true, [d, d + 1, a, b], 8, indexed a b scaled 8, fun _ => []⟩,
    ⟨.sbx c d a b scaled, false, [d, a, b], 1, indexed a b scaled 1, fun _ => []⟩,
    ⟨.shx c d a b scaled, false, [d, a, b], 2, indexed a b scaled 2, fun _ => []⟩ ]

/-- What a store stores: a pair's doubleword, or a word register. -/
def MemForm.stored (o : MemForm) (d : RegNo) (k : Core) : Nat :=
  if o.pair then (k.rd d).toNat * 2 ^ 32 + (k.rd (d + 1)).toNat else (k.rd d).toNat

/-- The code words of a core's local memory that hold `n` bytes at `a` have no bit error. -/
abbrev State.localClean (s : State) (c : CoreId) (a n : Nat) : Prop :=
  weight (s.errAt (localKey c.val (a / 4 * 4))) = 0 ∧ (n = 8 → weight (s.errAt (localKey c.val (a + 4))) = 0)

/-- The conditions of BC in the pairs of R76: an odd value holds where the even value before it does not. -/
def condHolds (cond : Nat) (st : Word) : Bool :=
  let even : Bool :=
    match cond / 2 with
    | 0 => flagZ st
    | 1 => !(flagC st)
    | 2 => !(flagC st) || flagZ st
    | 3 => flagN st != flagV st
    | 4 => flagZ st || flagN st != flagV st
    | 5 => flagN st
    | 6 => flagV st
    | 7 => flagT st
    | _ => true
  if cond % 2 = 0 then even else !even

/-- The tests of BR on a signed value (R77). -/
def testHolds (cond : Nat) (z : Int) : Bool :=
  match cond with
  | 0 => z = 0
  | 1 => z ≠ 0
  | 2 => z < 0
  | 3 => 0 ≤ z
  | 4 => 0 < z
  | _ => z ≤ 0

/-! ### Rills -/

/-- A core may use a rill as a consumer: the controller runs, the rill is enabled, it feeds no group, and it is not kept from task mode
(R105). -/
def State.consumes (s : State) (c : CoreId) (n : RillNo) : Bool :=
  s.rillOn n && !(s.isFeed n) && ((s.core c).sys || !(s.bit (F.RILL_CFG_SYSONLY n)))

/-- A core may put items into a rill: the controller runs, the rill is enabled, and it is not kept from task mode (R105). -/
def State.produces (s : State) (c : CoreId) (n : RillNo) : Bool :=
  s.rillOn n && ((s.core c).sys || !(s.bit (F.RILL_CFG_SYSONLY n)))

/-- No access waits: no initialisation and no retraining of a memory is in progress (R459, R468). -/
abbrev State.memIdle (s : State) : Prop := s.blk.memu.inits = [] ∧ s.bit F.MEM_STAT_RETRAIN = false

/-- The item at the read position of a rill; a slot that nothing has written reads as zero (R457). -/
def State.item (s : State) (n : RillNo) : DWord :=
  if s.isValid (s.slotAddr n (s.rill n).rd) then s.store.w64 (s.slotAddr n (s.rill n).rd) else 0

/-- The slot at the read position has no bit error, and can be accessed at once. -/
abbrev State.itemClean (s : State) (n : RillNo) : Prop := weight (s.errAt (s.slotAddr n (s.rill n).rd)) = 0 ∧ s.memIdle

/-- No core waits on the rill, it has no brim mark, and its slots can be accessed at once. -/
abbrev State.quiet (s : State) (n : RillNo) : Prop := (s.rill n).waiters = [] ∧ s.fld (F.RILL_BRIM_HIGH n) = 0 ∧ s.memIdle

/-- The state with one rill replaced. -/
def State.setRill (s : State) (n : RillNo) (r : Rill) : State :=
  { s with blk := { s.blk with weir := { s.blk.weir with rills := s.blk.weir.rills.set n r } } }

/-- The state after a rill instruction of core `c` that changes the core by `f` and the rill by `g`, and retires with T at `t`. -/
def State.rillStep (s : State) (c : CoreId) (uses : List RegNo) (n : RillNo) (t : Bool) (f : Core → Core) (g : Rill → Rill) : State :=
  (s.retires c uses fun k => (f k).setT t).setRill n (g (s.rill n))

/-- The core once everything it has outstanding has returned (R27). -/
def State.settled (s : State) (c : CoreId) (uses : List RegNo) : Core := (s.fed c uses).settleLoads

/-- The state after a rill instruction that raises `code`, where it is a release point (`release`) once everything outstanding has returned. -/
def State.raisesSettled (s : State) (c : CoreId) (uses : List RegNo) (release : Bool) (code : Nat) (eaddr : Word) : State :=
  (Op.raise c code 0 eaddr).run (s.setCore c (if release then s.settled c uses else s.fed c uses))

/-! ### Frames -/

/-- Every register but those listed reads as before. -/
def RegsBut (l : List Nat) (s t : State) : Prop := ∀ a, a ∉ l → t.reg a = s.reg a

/-- Every register outside a range of addresses reads as before. -/
def RegsOutside (lo hi : Nat) (s t : State) : Prop := ∀ a, a < lo ∨ hi ≤ a → t.reg a = s.reg a

/-- Every byte of memory reads as before. -/
def MemSame (s t : State) : Prop := ∀ k, t.store.byte k = s.store.byte k

/-- Every byte of memory outside `n` bytes at `k` reads as before. -/
def MemBut (k n : Nat) (s t : State) : Prop := ∀ j, j < k ∨ k + n ≤ j → t.store.byte j = s.store.byte j

/-- The bytes from `a` that a write of `n` bytes changes when it fills its last doubleword up with zeros (R456). -/
def wholeFrom (a n : Nat) : Nat := (a % 8 + n + 7) / 8 * 8 - a % 8

/-- Every core is as before. -/
def CoresSame (s t : State) : Prop := t.blk.cores = s.blk.cores

/-- Every core but one is as before. -/
def CoresBut (c : CoreId) (s t : State) : Prop := ∀ d, d ≠ c → t.core d = s.core d

/-- Nothing changes but the blocks, which become `b`, and the registers listed: no memory, no error, no valid bit, no fuse. -/
def Only (b : Blocks) (l : List Nat) (s t : State) : Prop :=
  t.blk = b ∧ t.store = { s.store with regs := t.store.regs } ∧ RegsBut l s t

/-- A 32-bit counter counts `n`, and stays at its largest value. -/
def Counts (a n : Nat) (s t : State) : Prop := (t.reg a).toNat = min ((s.reg a).toNat + n) (2 ^ 32 - 1)

/-- Every byte of memory outside the ranges, each a first key and a length, reads as before. -/
def MemOutside (l : List (Nat × Nat)) (s t : State) : Prop :=
  ∀ j, (∀ p ∈ l, j < p.1 ∨ p.1 + p.2 ≤ j) → t.store.byte j = s.store.byte j

/-- A rill takes a plain item: it is enabled, plain, has a free slot and no open packet, and nothing waits on it. -/
abbrev State.takes (s : State) (n : RillNo) : Prop :=
  s.rillOn n = true ∧ s.isPacket n = false ∧ (s.rill n).pkt = none ∧ s.rillFree n ≠ 0 ∧ s.quiet n

/-- The slot that a rill writes next. -/
def State.nextSlot (s : State) (n : RillNo) : Nat := s.slotAddr n (s.rill n).wr

/-- An item has been pushed: it stands in the rill's next slot, and is visible (R28, R108). -/
def Pushed (n : RillNo) (v : DWord) (s t : State) : Prop :=
  t.rill n = { s.rill n with unread := (s.rill n).unread + 1 } ∧ t.store.bytes (s.nextSlot n) 8 = leBytes 8 (storedItem n v).toNat

/-- The recorder once it has been given a record. -/
def State.logs (s : State) (kind source subject detail : Nat) : Recorder := ((Op.log kind source subject detail).run s).blk.rcd

/-- A fixed-function block reads the doubleword at an address at once and without a fault: it is in Basin or DRAM with power, and without
error. -/
abbrev State.readable (s : State) (a : Nat) : Prop := s.reaches a = true ∧ weight (s.errAt a) = 0 ∧ s.memIdle

/-- What it reads: zero where nothing has been written (R457). -/
def State.dword (s : State) (a : Nat) : DWord := if s.isValid a then s.store.w64 a else 0

/-- The byte at an address, as a fixed-function block reads it. -/
def State.byteAt (s : State) (a : Nat) : Nat := (s.dword (a / 8 * 8)).toNat / 2 ^ (8 * (a % 8)) % 2 ^ 8

/-- Component `j` of pixel (x, y) in a frame buffer (R236, R244): a byte of an RGB pixel; of a group of two YCbCr pixels, Cb, Y0, Cr and
Y1 of 10 bits each, with the chroma of an odd pixel halfway to the next group's. -/
def State.pixel (s : State) (n : Fin 2) (buf y x j : Nat) : Nat :=
  let row := s.vidBuf n buf + y * s.vidStride n
  let group (g : Nat) : Nat := (List.range 5).foldl (fun v i => 256 * v + s.byteAt (row + 5 * g + i)) 0
  let chroma (g : Nat) : Nat := group g / 2 ^ (if j = 1 then 30 else 10) % 2 ^ 10
  if s.vidRgb n then s.byteAt (row + 3 * x + j)
  else if j = 0 then group (x / 2) / 2 ^ (if x % 2 = 0 then 20 else 0) % 2 ^ 10
  else if x % 2 = 0 ∨ x + 1 = s.vidW n then chroma (x / 2)
  else (chroma (x / 2) + chroma (x / 2 + 1) + 1) / 2

/-- The codes of a point of a stream (R244, R245): the four pixels around it, weighted by its sixteenths, then the colour matrix. -/
def State.sampled (s : State) (n : Fin 2) (buf px py : Nat) : List Nat :=
  let x0 := min (px / 16) (s.vidW n - 1)
  let y0 := min (py / 16) (s.vidH n - 1)
  let x1 := min (x0 + 1) (s.vidW n - 1)
  let y1 := min (y0 + 1) (s.vidH n - 1)
  let fx := if x0 = s.vidW n - 1 then 0 else px % 16
  let fy := if y0 = s.vidH n - 1 then 0 else py % 16
  s.codes n ((List.range 3).map fun j =>
    let line (y : Nat) : Nat := s.pixel n buf y x0 j * (16 - fx) + s.pixel n buf y x1 j * fx
    (line y0 * (16 - fy) + line y1 * fy + 128) / 256)

/-- A lamp record can be used: its index is below COUNT, it is valid, and its code words have no error. -/
abbrev State.lampClean (s : State) (i : Nat) : Prop :=
  i < s.fld F.LAMP_RECCNT_COUNT ∧ s.recValid i = true ∧ ∀ j < 8, s.recErr i j = 0

/-- No core waits for the Gauntlet to accept its call (R126). -/
abbrev State.unqueued (s : State) : Prop := ∀ c : CoreId, (match (s.core c).run with | .callQueue .. => false | _ => true) = true

/-- Nothing waits for a call of the Gauntlet to end: no act of its own (R446) and no core whose call has not been accepted. -/
abbrev State.unawaited (s : State) : Prop := s.gnt.due = [] ∧ s.unqueued

/-- Call `c`, at place `n` of the Gauntlet, is the next to be performed of those that share a slot with it (R430), its block can be written,
and nothing waits for it. -/
abbrev State.serves (s : State) (n : Fin 16) (c : Call) : Prop :=
  s.powered .gnt = true ∧ s.gnt.calls[n.val]? = some c ∧ c.answer = none ∧ s.callTurn n.val c = true ∧
  c.blk % 64 = 0 ∧ s.reaches c.blk = true ∧ s.reaches (c.blk + 0x18) = true ∧ s.unawaited ∧ s.memIdle

/-- A call without output stores its status doubleword alone, and 0 into `DLEN` where it succeeds (R426). -/
def Ended (c : Call) (result : Nat) (s t : State) : Prop :=
  (result = 0 → t.store.bytes (c.blk + 0x18) 8 = leBytes 8 c.dst) ∧
  MemOutside ((c.blk, 8) :: if result = 0 then [(c.blk + 0x18, 8)] else []) s t

/-- The Gauntlet has ended the call at place `n` with a result: a posted call keeps its status for its completion, another has left. -/
def Answered (n : Fin 16) (c : Call) (result detail : Nat) (s t : State) : Prop :=
  t.gnt.calls = (if c.rill.isSome then
      s.gnt.calls.set n.val { c with answer := some ((statusWord result detail).zeroExtend 64) } else s.gnt.calls.eraseIdx n.val) ∧
  Counts A.GNT_CALLS 1 s t ∧ Counts A.GNT_REFUSED (if result = 0 then 0 else 1) s t

/-- The core that waits for the call goes on with the status, which stands in the call block; no other core changes (R126, R128). -/
def Resumed (c : Call) (result detail : Nat) (s t : State) : Prop :=
  let st := statusWord result detail
  let k := s.core c.who
  let k' := match k.run with
    | .callWait d => (k.wr d st).retire k.budgeted (k.pc + 4)
    | _ => k
  CoresBut c.who s t ∧ t.core c.who = (if c.rill.isSome then k else k') ∧
  (c.rill = none → s.reaches c.blk = true → t.store.bytes c.blk 8 = leBytes 8 st.toNat)

/-- The rill of a block's events is not enabled: what the block posts waits (R156). -/
def State.evHeld (s : State) (e : EvtCfg) : Bool := !(s.rillEn (rillNo (s.fld e.rill)))

/-- The module has been reset, for a cause of `SYS_RST_CAUSE`: the ROM has a slot to choose, every core is reset and every domain has power;
Basin, rill SRAM and DRAM are lost; NOR, the commit store and the fuses stay. -/
def ResetBy (kind : Nat) (s t : State) : Prop :=
  t.fld F.SYS_RST_CAUSE_KIND = kind ∧ t.upd.boot = true ∧ t.upd.running = none ∧ (∀ c : CoreId, t.core c = Core.reset) ∧
  t.blk.pwr.dom = 0xFFFF ∧ t.blk.pwr.standby = false ∧ t.blk.weir = Weir.reset ∧
  (∀ a, 0x10000000 ≤ a → a < 0x10400000 → t.isValid a = false) ∧ (∀ a, 0x80000000 ≤ a → a < 0xF0000000 → t.isValid a = false) ∧
  (∀ a, 0x0C000000 ≤ a → a < 0x10000000 → t.store.byte a = s.store.byte a) ∧
  (∀ o, o < 4096 → t.store.byte (csKey o) = s.store.byte (csKey o)) ∧ t.store.fuses = s.store.fuses

/-- The command's answer is a next state of which `P` holds. -/
def Answers (o : Host.Outcome State Fault Refusal) (P : State → Prop) : Prop := ∃ t, o = .next t ∧ P t

end Sys2Proof.Machine
end

