-- ==== Sys2Proof/Certificates/Slice0/Obligations.lean ====
section
/-!
DEFINITION. The statements for the provers.
-/
open Sys2Proof Sys2Proof.Machine

/-! ### The machine -/

/-- A step with a command at the front of the queue is `exec` of that command on the state with the rest of the queue. -/
def Obligations.StepRunsTheFrontCommand : Prop :=
  ∀ (i : Instr) (rest : List Instr) (s : State), s.pending = i :: rest → step s = exec i { s with pending := rest }

/-- Log entry 20, a choice of the model; R317, R476: while no command waits a step is one 4 ns tick. The time base of a powered D12 that is
neither steered nor within a part of a nanosecond advances by 4, and the crystal by 4 × 32,768 of the 10⁹ parts of a pulse while the Bonnet
rail is there. Weir answers the trigger bindings that await it, and those it accepted count (log entry 39). No core changes, and unless
a request for the maintenance grant waits for it (R465) no memory, and no register but those of these answers, those that a pulse measures or
a command that waits for it writes, and the one of REVERTREADY, which a gap between the reports of the partner takes back. -/
def Obligations.IdleStepIsOneTick : Prop :=
  ∀ s : State, s.pending = [] → s.blk.clk.frac < 1000000000 →
    let settled := s.fld F.MEM_MAINT_STAT_GRANT ≠ 0 ∨ ∀ a ∈ [1, 2, 3], s.maintQueued a = false
    let answered := s.powered .gpio = false ∨ s.fld ⟨A.GPIO_STAT, 0, 4⟩ = 0
    Answers (step s) fun t =>
      (settled → answered → s.blk.clk.frac + 131072 < 1000000000 → t.store = s.store) ∧
      (settled → MemSame s t ∧
        RegsBut ([A.BON_STAT, A.BON_ERR, A.BON_VBAT, A.SYS_MON, A.OXB_STAT, A.GPIO_STAT] ++ (List.range 4).map A.GPIO_TRIG_SUB) s t) ∧
      (s.powered .gpio = true → ∀ n < 4, t.bit ⟨A.GPIO_STAT, n, 1⟩ = false ∧
        Counts (A.GPIO_TRIG_SUB n) (bit01 (s.bit ⟨A.GPIO_STAT, n, 1⟩ && s.blk.pwr.accepted.getLsbD n)) s t) ∧
      t.pending = [] ∧ CoresSame s t ∧
      (s.domOn 12 = true → s.tsu.a = 0 → s.tsu.frac < 2 ^ 32 → t.blk.clk.tb = (s.blk.clk.tb + 4) % 2 ^ 64) ∧
      (s.domOn 12 = false → t.blk.clk.tb = s.blk.clk.tb) ∧
      (s.domOn 0 = true → t.blk.clk.pulses * 1000000000 + t.blk.clk.frac = s.blk.clk.pulses * 1000000000 + s.blk.clk.frac + 131072 ∧
        t.blk.clk.frac < 1000000000) ∧
      (s.domOn 0 = false → t.blk.clk.pulses = s.blk.clk.pulses ∧ t.blk.clk.frac = s.blk.clk.frac)

/-- The state after reset meets the invariant: its stores are in canonical form and no reserved bit is set (R8). -/
def Obligations.ResetMeetsTheInvariant : Prop := State.reset.Inv

/-- R7, R51, R52, R458, R484, R506: after a cold reset every register holds its reset value, but for the kind of the reset and what it finds
(log entry 19); every core runs in system mode at the boot ROM with its control registers at their reset values; no valid bit is set, no
error stands in memory, and no command waits. The pc and w1 to w31 are the model's choice (log entry 1). -/
def Obligations.ResetValues : Prop :=
  let s := State.reset
  (∀ b ∈ allBlocks, ∀ r ∈ b.map, ∀ j < r.count, let a := b.base + r.off + j * r.stride
    a ∉ [A.SYS_RST_CAUSE, A.RAD_PHY, A.OXB_STAT, A.LCS_STAT] →
      ∀ f ∈ r.fields, fieldOf (s.reg a) f.lo f.w = f.reset % 2 ^ f.w) ∧
  s.fld F.SYS_RST_CAUSE_KIND = 1 ∧ s.fld F.LCS_STAT_STATE = 0 ∧ s.bit F.LCS_STAT_DEBUG = true ∧ s.bit F.LCS_STAT_TESTROOT = true ∧
  (∀ c : CoreId, s.core c = Core.reset) ∧ Core.reset.mode = 1 ∧ Core.reset.vec = 0x08000000 ∧ Core.reset.st = 0 ∧
  Core.reset.run = .running ∧ (∀ d < 16, s.domOn d = true) ∧ (∀ a, s.isValid a = false) ∧ (∀ k, s.errAt k = 0) ∧ s.pending = []

/-- Every command of every state that meets the invariant has an answer: a next state that meets the invariant too, with the same commands
waiting, and in which every fuse that was burned is burned. -/
def Obligations.EveryCommandAnswers : Prop :=
  ∀ (i : Instr) (s : State), s.Inv →
    Answers (exec i s) fun t => t.Inv ∧ t.pending = s.pending ∧ ∀ f ∈ s.store.fuses, f ∈ t.store.fuses

/-- Every step keeps the invariant: a state in canonical form with no reserved bit set goes to such a state, and never to a fault or a
refusal; the queue loses its front command and nothing else; no fuse is ever mended. -/
def Obligations.EveryStepKeepsTheInvariant : Prop :=
  ∀ s : State, s.Inv →
    Answers (step s) fun t => t.Inv ∧ t.pending = s.pending.tail ∧ ∀ f ∈ s.store.fuses, f ∈ t.store.fuses

/-- R46, R47, R48: w0 reads as zero and a write to it is discarded; a write of another register is what that register then reads, and no
other register changes; a pair's even register holds the high word. -/
def Obligations.RegisterFile : Prop :=
  ∀ (k : Core) (d e : RegNo) (v : Word) (x : DWord),
    k.rd 0 = 0 ∧ k.wr 0 v = k ∧ (k.wr d v).rd e = (if e = d ∧ d ≠ 0 then v else k.rd e) ∧
    (isPair d = true → (k.wrp d x).rdp d = x ∧ ((k.wrp d x).rd d).toNat = x.toNat / 2 ^ 32 ∧ (e ≠ d → e ≠ d + 1 → (k.wrp d x).rd e = k.rd e))

/-- R61: the flags of sums, differences, shifts, divisions and saturating instructions, as the numbers give them; T and the bits that hold
no flag stay. -/
def Obligations.FlagRules : Prop :=
  (∀ (st x y : Word) (cin : Bool),
    let f := addFlags st x y cin
    let g := subFlags st x y cin
    let z : Int := x.toInt + y.toInt + bit01 cin
    let w : Int := x.toInt - y.toInt - (1 - bit01 cin)
    let r := x + y + BitVec.ofNat 32 (bit01 cin)
    let q := x - y - BitVec.ofNat 32 (1 - bit01 cin)
    flagZ f = (r == 0) ∧ flagN f = decide (r.toInt < 0) ∧ flagC f = decide (2 ^ 32 ≤ x.toNat + y.toNat + bit01 cin) ∧
    flagV f = decide (r.toInt ≠ z) ∧ f >>> 4 = st >>> 4 ∧
    flagZ g = (q == 0) ∧ flagN g = decide (q.toInt < 0) ∧ flagC g = decide (y.toNat + (1 - bit01 cin) ≤ x.toNat) ∧
    flagV g = decide (q.toInt ≠ w) ∧ g >>> 4 = st >>> 4) ∧
  (∀ (st : Word) (x y : DWord),
    let f := addFlags st x y false
    let g := subFlags st x y true
    flagZ f = (x + y == 0) ∧ flagN f = decide ((x + y).toInt < 0) ∧ flagC f = decide (2 ^ 64 ≤ x.toNat + y.toNat) ∧
    flagV f = decide ((x + y).toInt ≠ x.toInt + y.toInt) ∧ f >>> 4 = st >>> 4 ∧
    flagZ g = (x - y == 0) ∧ flagN g = decide ((x - y).toInt < 0) ∧ flagC g = decide (y.toNat ≤ x.toNat) ∧
    flagV g = decide ((x - y).toInt ≠ x.toInt - y.toInt) ∧ g >>> 4 = st >>> 4) ∧
  (∀ (st r y : Word) (n : Nat) (out : Bool),
    let f := shiftFlags st r n out
    let g := divFlags st r y
    let h := satFlags st r out
    flagZ f = (r == 0) ∧ flagN f = decide (r.toInt < 0) ∧ flagC f = (if n = 0 then flagC st else out) ∧ flagV f = flagV st ∧
    flagZ g = (r == 0) ∧ flagN g = decide (r.toInt < 0) ∧ flagC g = flagC st ∧ flagV g = (y == 0) ∧
    flagZ h = (r == 0) ∧ flagN h = decide (r.toInt < 0) ∧ flagC h = flagC st ∧ flagV h = out ∧
    f >>> 4 = st >>> 4 ∧ g >>> 4 = st >>> 4 ∧ h >>> 4 = st >>> 4)

/-! ### Instructions of the cores -/

/-- R55 to R60, R62, R64, R66, R67, R71, R75, R79, R93: the word that is written for an instruction of a core, whatever its operands are, is read
as that instruction. A word is read as none exactly where it raises ILLEGAL for its major, its function or an unused field; and a word that
is read as an instruction is the word of that instruction, so that no bit of it is dropped, but for the S bit of CMPP (log entry 42, a choice
of the model). -/
def Obligations.InstructionWordsRoundTrip : Prop :=
  (∀ (i : Instr) (c : CoreId) (w : Word), encodeInstr i = some (c, w) → decodeInstr c w = some i) ∧
  (∀ (c : CoreId) (w : Word), decodeInstr c w = none ↔ (illegalReason w).isSome = true) ∧
  (∀ (c : CoreId) (w : Word) (i : Instr), decodeInstr c w = some i →
     (wordField w 26 6 = 0 → wordField w 0 10 = 0x36 → w.getLsbD 10 = false) → encodeInstr i = some (c, w))

/-- R59, R62, R63: an instruction of two word operands, issued by a core that is ready, completes: its result goes to `d`, its flags to
`st` where S is 1, the pc advances, and nothing else in the module changes. Reading the operands waits for the loads that write them or
`d` (R44). Model choices: log entry 23. -/
def Obligations.WordInstructionsComplete : Prop :=
  ∀ o ∈ wordOps, ∀ (c : CoreId) (d a b : RegNo) (S : Bool) (s : State), s.ready c = true →
    exec (o.instr c d a b S) s = .next (s.retires c [d, a, b] fun k =>
      let r := o.result k.st (k.rd a) (k.rd b)
      k.putW d S r (o.flags k.st (k.rd a) (k.rd b) r))

/-- R63: division never raises an exception. By zero the quotient is 0xFFFFFFFF and the remainder is wa; the one quotient that overflows
is 0x80000000, with remainder 0. V is set by a division by zero alone, and only under S. -/
def Obligations.DivisionCorners : Prop :=
  ∀ p ∈ [(Instr.div, true, true), (Instr.divu, true, false), (Instr.rem, false, true), (Instr.remu, false, false)],
    ∀ (c : CoreId) (d a b : RegNo) (S : Bool) (s : State), s.ready c = true → d ≠ 0 →
      let k := s.fed c [d, a, b]
      let x := k.rd a
      let y := k.rd b
      Answers (exec (p.1 c d a b S) s) fun t =>
        (t.core c).cause = k.cause ∧ (t.core c).pc = k.pc + 4 ∧ (t.core c).exl = k.exl ∧
        (y = 0 → (t.core c).rd d = (if p.2.1 then 0xFFFFFFFF else x) ∧ (S = true → flagV (t.core c).st = true)) ∧
        (p.2.2 = true → x = 0x80000000 → y = 0xFFFFFFFF → (t.core c).rd d = if p.2.1 then 0x80000000 else 0) ∧
        (S = true → y ≠ 0 → flagV (t.core c).st = false) ∧ (S = false → (t.core c).st = k.st)

/-- R59: the shifts by a field, and the instructions of one word operand, complete likewise. R60: the instructions with an immediate
complete likewise; CMPI and ADDIS set the flags, the others leave them. Model choices: log entry 23. -/
def Obligations.ShiftUnaryAndImmediateInstructionsComplete : Prop :=
  (∀ (c : CoreId) (d a : RegNo) (n : Fin 32) (S : Bool) (s : State), s.ready c = true →
     (exec (.slli c d a n S) s = .next (s.retires c [d, a] fun k =>
       let r := k.rd a <<< n.val
       k.putW d S r (shiftFlags k.st r n.val ((k.rd a).getLsbD (32 - n.val))))) ∧
     (exec (.srli c d a n S) s = .next (s.retires c [d, a] fun k =>
       let r := k.rd a >>> n.val
       k.putW d S r (shiftFlags k.st r n.val ((k.rd a).getLsbD (n.val - 1))))) ∧
     (exec (.srai c d a n S) s = .next (s.retires c [d, a] fun k =>
       let r := (k.rd a).sshiftRight n.val
       k.putW d S r (shiftFlags k.st r n.val ((k.rd a).getLsbD (n.val - 1))))) ∧
     (exec (.rori c d a n S) s = .next (s.retires c [d, a] fun k =>
       let r := (k.rd a).rotateRight n.val
       k.putW d S r (shiftFlags k.st r n.val ((k.rd a).getLsbD (n.val - 1))))) ∧
     (∃ z : Word, exec (.clz c d a S) s = .next (s.retires c [d, a] fun k => k.putW d S z (znFlags k.st z)) ∧
       z.toNat ≤ 32 ∧ ((s.fed c [d, a]).rd a).toNat < 2 ^ (32 - z.toNat) ∧
       (z.toNat < 32 → 2 ^ (31 - z.toNat) ≤ ((s.fed c [d, a]).rd a).toNat)) ∧
     (exec (.popc c d a S) s = .next (s.retires c [d, a] fun k =>
       let r := BitVec.ofNat 32 ((List.range 32).filter fun i => (k.rd a).getLsbD i).length
       k.putW d S r (znFlags k.st r))) ∧
     (exec (.rev c d a S) s = .next (s.retires c [d, a] fun k =>
       let x := k.rd a
       let r := x.extractLsb' 0 8 ++ x.extractLsb' 8 8 ++ x.extractLsb' 16 8 ++ x.extractLsb' 24 8
       k.putW d S r (znFlags k.st r)))) ∧
  (∀ (c : CoreId) (d a : RegNo) (imm : BitVec 16) (long : BitVec 21) (s : State), s.ready c = true →
     (exec (.addi c d a imm) s = .next (s.retires c [d, a] fun k => k.wr d (k.rd a + imm.signExtend 32))) ∧
     (exec (.andi c d a imm) s = .next (s.retires c [d, a] fun k => k.wr d (k.rd a &&& imm.zeroExtend 32))) ∧
     (exec (.ori c d a imm) s = .next (s.retires c [d, a] fun k => k.wr d (k.rd a ||| imm.zeroExtend 32))) ∧
     (exec (.xori c d a imm) s = .next (s.retires c [d, a] fun k => k.wr d (k.rd a ^^^ imm.zeroExtend 32))) ∧
     (exec (.slti c d a imm) s = .next (s.retires c [d, a] fun k => k.wr d (if (k.rd a).toInt < imm.toInt then 1 else 0))) ∧
     (exec (.sltiu c d a imm) s = .next (s.retires c [d, a] fun k => k.wr d (if (k.rd a).toNat < imm.toNat then 1 else 0))) ∧
     (exec (.lhi c d imm) s = .next (s.retires c [d] fun k => k.wr d (imm ++ (0 : BitVec 16)))) ∧
     (exec (.li c d long) s = .next (s.retires c [d] fun k => k.wr d (long.signExtend 32))) ∧
     (exec (.cmpi c a imm) s = .next (s.retires c [a] fun k => { k with st := subFlags k.st (k.rd a) (imm.signExtend 32) true })) ∧
     (exec (.addis c d a imm) s = .next (s.retires c [d, a] fun k =>
       k.putW d true (k.rd a + imm.signExtend 32) (addFlags k.st (k.rd a) (imm.signExtend 32) false))))

/-- R59, R62, R47: the instructions on pairs complete where every pair field names a pair, and raise ILLEGAL with reason 4 elsewhere.
Model choices: log entry 23. -/
def Obligations.PairInstructionsComplete : Prop :=
  ∀ (c : CoreId) (d a b : RegNo) (S : Bool) (s : State), s.ready c = true →
    (exec (.addp c d a b S) s = .next (s.pairStep c (both d ++ both a ++ both b) [d, a, b] fun k =>
      k.putP d S (k.rdp a + k.rdp b) (addFlags k.st (k.rdp a) (k.rdp b) false))) ∧
    (exec (.subp c d a b S) s = .next (s.pairStep c (both d ++ both a ++ both b) [d, a, b] fun k =>
      k.putP d S (k.rdp a - k.rdp b) (subFlags k.st (k.rdp a) (k.rdp b) true))) ∧
    (exec (.sllp c d a b S) s = .next (s.pairStep c (both d ++ both a ++ [b]) [d, a] fun k =>
      let n := (k.rd b).toNat % 64
      k.putP d S (k.rdp a <<< n) (shiftFlags k.st (k.rdp a <<< n) n ((k.rdp a).getLsbD (64 - n))))) ∧
    (exec (.srlp c d a b S) s = .next (s.pairStep c (both d ++ both a ++ [b]) [d, a] fun k =>
      let n := (k.rd b).toNat % 64
      k.putP d S (k.rdp a >>> n) (shiftFlags k.st (k.rdp a >>> n) n ((k.rdp a).getLsbD (n - 1))))) ∧
    (exec (.srap c d a b S) s = .next (s.pairStep c (both d ++ both a ++ [b]) [d, a] fun k =>
      let n := (k.rd b).toNat % 64
      let r := (k.rdp a).sshiftRight n
      k.putP d S r (shiftFlags k.st r n ((k.rdp a).getLsbD (n - 1))))) ∧
    (exec (.movp c d a S) s = .next (s.pairStep c (both d ++ both a) [d, a] fun k => k.putP d S (k.rdp a) (znFlags k.st (k.rdp a)))) ∧
    (exec (.cmpp c a b) s = .next (s.pairStep c (both a ++ both b) [a, b] fun k =>
      { k with st := subFlags k.st (k.rdp a) (k.rdp b) true })) ∧
    (exec (.mulw c d a b S) s = .next (s.pairStep c (both d ++ [a, b]) [d] fun k =>
      let r : DWord := BitVec.ofInt 64 ((k.rd a).toInt * (k.rd b).toInt)
      k.putP d S r (znFlags k.st r))) ∧
    (exec (.mulwu c d a b S) s = .next (s.pairStep c (both d ++ [a, b]) [d] fun k =>
      let r : DWord := BitVec.ofNat 64 ((k.rd a).toNat * (k.rd b).toNat)
      k.putP d S r (znFlags k.st r))) ∧
    (exec (.mac c d a b S) s = .next (s.pairStep c (both d ++ [a, b]) [d] fun k =>
      let r : DWord := k.rdp d + BitVec.ofInt 64 ((k.rd a).toInt * (k.rd b).toInt)
      k.putP d S r (znFlags k.st r))) ∧
    (exec (.macu c d a b S) s = .next (s.pairStep c (both d ++ [a, b]) [d] fun k =>
      let r : DWord := k.rdp d + BitVec.ofNat 64 ((k.rd a).toNat * (k.rd b).toNat)
      k.putP d S r (znFlags k.st r)))

/-- R64, R65: the saturating instructions of two word operands complete: the exact value is clamped, V and the sticky Q say whether it
was. The other saturating instructions complete likewise, on a word, on a pair or on two lanes. Model choices: log entry 23. -/
def Obligations.SaturatingInstructionsComplete : Prop :=
  (∀ o ∈ fixedOps, ∀ (c : CoreId) (d a b : RegNo) (S : Bool) (s : State), s.ready c = true →
     exec (o.instr c d a b S) s = .next (s.retires c [d, a, b] fun k =>
       let z := o.exact (k.rd a) (k.rd b)
       k.putQ d S (BitVec.ofInt 32 (clamp32 o.unsigned z)) (clamp32 o.unsigned z != z))) ∧
  (∀ (c : CoreId) (d a b : RegNo) (n : Fin 32) (S : Bool) (s : State), s.ready c = true →
     (exec (.qneg c d a S) s = .next (s.retires c [d, a] fun k =>
       let z := -(k.rd a).toInt
       k.putQ d S (BitVec.ofInt 32 (clamp32 false z)) (clamp32 false z != z))) ∧
     (exec (.qabs c d a S) s = .next (s.retires c [d, a] fun k =>
       let z : Int := if (k.rd a).toInt < 0 then -(k.rd a).toInt else (k.rd a).toInt
       k.putQ d S (BitVec.ofInt 32 (clamp32 false z)) (clamp32 false z != z))) ∧
     (exec (.sats c d a n S) s = .next (s.retires c [d, a] fun k =>
       let z := max (-(2 ^ n.val)) (min (k.rd a).toInt (2 ^ n.val - 1))
       k.putQ d S (BitVec.ofInt 32 z) (z != (k.rd a).toInt))) ∧
     (exec (.satu c d a n S) s = .next (s.retires c [d, a] fun k =>
       let z := max 0 (min (k.rd a).toInt (2 ^ (n.val + 1) - 1))
       k.putQ d S (BitVec.ofInt 32 z) (z != (k.rd a).toInt))) ∧
     (exec (.qshl c d a n S) s = .next (s.retires c [d, a] fun k =>
       let z := (k.rd a).toInt * 2 ^ n.val
       k.putQ d S (BitVec.ofInt 32 (clamp32 false z)) (clamp32 false z != z))) ∧
     (exec (.rshr c d a n S) s = .next (s.retires c [d, a] fun k =>
       let z := rounded (k.rd a).toInt n.val
       k.putQ d S (BitVec.ofInt 32 (clamp32 false z)) (clamp32 false z != z))) ∧
     (exec (.qnarrow c d a n S) s = .next (s.pairStep c (d :: both a) [a] fun k =>
       let z := rounded (k.rdp a).toInt n.val
       k.putQ d S (BitVec.ofInt 32 (clamp32 false z)) (clamp32 false z != z))) ∧
     (exec (.qmac c d a b S) s = .next (s.pairStep c (both d ++ [a, b]) [d] fun k =>
       let z := (k.rdp d).toInt + (k.rd a).toInt * (k.rd b).toInt
       let y : Int := max (-(2 ^ 63)) (min z (2 ^ 63 - 1))
       { k.wrp d (BitVec.ofInt 64 y) with
         st := if S then satFlags k.st (BitVec.ofInt 64 y) (y != z) else k.st
         sat := if y != z then k.sat ||| 1 else k.sat })) ∧
     (∀ o ∈ [(Instr.padd16, fun x y : Int => x + y), (Instr.psub16, fun x y : Int => x - y),
         (Instr.pmulq15, fun x y : Int => (x * y + 2 ^ 14) / 2 ^ 15)],
       exec (o.1 c d a b S) s = .next (s.retires c [d, a, b] fun k =>
         let lane (i : Nat) : Int := o.2 ((k.rd a).extractLsb' i 16).toInt ((k.rd b).extractLsb' i 16).toInt
         let sat16 (z : Int) : Int := max (-(2 ^ 15)) (min z (2 ^ 15 - 1))
         k.putQ d S (BitVec.ofInt 16 (sat16 (lane 16)) ++ BitVec.ofInt 16 (sat16 (lane 0)))
           (sat16 (lane 16) != lane 16 || sat16 (lane 0) != lane 0))))

/-! ### Loads, stores, atomics -/

/-- R66 to R68, R74: every form of a load completes on an aligned address of the core's own local data memory whose code words are without
error: it is outstanding with the value of the bytes, the lowest address first, and the core goes on. R30, R73, R457: so does every word
and pair form on an aligned address of Basin or DRAM without error, of the boot ROM in system mode, or of NOR, and a pair form on the rill
SRAM in system mode; a doubleword that nothing has written reads as zero. Every form of a store completes on
such an address: the bytes of the register or pair stand there, the lowest first, and no other byte of any memory, no register and no other
core changes. R30, R66, R67, R457: SD and SDX complete on an aligned address of Basin or DRAM that has power: the doubleword stands there
and is valid, and no other byte changes. Model choices: log entries 1 and 23. -/
def Obligations.LoadsAndStoresComplete : Prop :=
  (∀ (c : CoreId) (d a b : RegNo) (imm : BitVec 16) (narrow : BitVec 12) (scaled : Bool),
     ∀ o ∈ loadForms c d a b imm narrow scaled, ∀ s : State, s.ready c = true → (o.pair = true → isPair d = true) →
       let k := s.fed c o.uses
       let x := (o.addr k).toNat
       (regionOf x = .localD → x % o.size = 0 → s.localClean c x o.size → k.loads.length < 8 →
       exec o.instr s = .next (s.setCore c
         (({ k with loads := k.loads ++ [⟨o.writes (s.store.le (localKey c.val x) o.size), .near, 0⟩] } : Core).retire
           k.budgeted (k.pc + 4)))) ∧
       (let goes (v : Nat) : Prop := exec o.instr s = .next (s.setCore c
          (({ k with loads := k.loads ++ [⟨o.writes v, .shared, 0⟩] } : Core).retire k.budgeted (k.pc + 4)))
        x % o.size = 0 → 4 ≤ o.size → k.loads.length < 8 → (s.setCore c k).transactions < 192 →
        (regionOf x = .basin ∨ regionOf x = .dram ∨ (regionOf x = .rill ∧ o.size = 8 ∧ k.sys = true) → s.domOn (memDomain x) = true →
          weight (s.errAt (x / 8 * 8)) = 0 → s.memIdle → goes ((s.dword (x / 8 * 8)).toNat / 2 ^ (8 * (x % 8)) % 2 ^ (8 * o.size))) ∧
        (regionOf x = .rom → k.sys = true → goes (leNat ((List.range o.size).map fun j => Config.romByte (x - 0x08000000 + j)))) ∧
        (regionOf x = .nor → s.domOn 15 = true → goes (s.store.le x o.size)))) ∧
  ((∀ (c : CoreId) (d a b : RegNo) (imm : BitVec 16) (narrow : BitVec 12) (scaled : Bool),
      ∀ o ∈ storeForms c d a b imm narrow scaled, ∀ s : State, s.Inv → s.ready c = true → (o.pair = true → isPair d = true) →
        let k := s.fed c o.uses
        let x := (o.addr k).toNat
        regionOf x = .localD → x % o.size = 0 → s.localClean c x o.size → s.bit F.MEM_FLIP_CFG_ARM = false → k.storeSlots < 8 →
        Answers (exec o.instr s) fun t =>
          t.store.bytes (localKey c.val x) o.size = leBytes o.size (o.stored d k) ∧
          MemBut (localKey c.val x) o.size s t ∧ RegsBut [] s t ∧
          t.core c = k.retire k.budgeted (k.pc + 4) ∧ CoresBut c s t) ∧
   (∀ (c : CoreId) (d a b : RegNo) (imm : BitVec 16) (scaled : Bool),
      ∀ o ∈ (storeForms c d a b imm 0 scaled).filter (·.pair), ∀ s : State, s.Inv → s.ready c = true → isPair d = true →
        let k := s.fed c o.uses
        let x := (o.addr k).toNat
        regionOf x = .basin ∨ regionOf x = .dram → x % 8 = 0 → s.domOn (memDomain x) = true → k.storeSlots < 8 →
        (s.setCore c k).transactions < 192 → s.memIdle →
        Answers (exec o.instr s) fun t =>
          t.store.bytes x 8 = leBytes 8 (o.stored d k) ∧ t.isValid x = true ∧
          MemBut x 8 s t ∧ RegsBut [A.MEM_FLIP_CFG] s t ∧
          t.core c = k.retire k.budgeted (k.pc + 4) ∧ CoresBut c s t))

/-- R455: a store narrower than 64 bits to Basin or DRAM writes nothing: it counts in `MEM_NARROW`, and a response with the cause
WRITE_NARROW is on its way to the core, which has gone on. R30, R69: a byte or halfword load from Basin or DRAM raises LOAD_BUS. R68, R72:
a load or store, or an atomic, whose address is not a multiple of its size raises ALIGN_LOAD or ALIGN_STORE with the address, unless a
task-mode access to a system region raises PRIVILEGE first (R31, R86). Model choices: log entry 23. -/
def Obligations.AccessesRefused : Prop :=
  (∀ (c : CoreId) (d a b : RegNo) (imm : BitVec 16) (narrow : BitVec 12) (scaled : Bool),
     ∀ o ∈ (storeForms c d a b imm narrow scaled).filter (!·.pair), ∀ s : State, s.Inv → s.ready c = true →
       let k := s.fed c o.uses
       let x := (o.addr k).toNat
       regionOf x = .basin ∨ regionOf x = .dram → x % o.size = 0 → s.domOn (memDomain x) = true → s.powered .mem = true →
       k.storeSlots < 8 → (s.setCore c k).transactions < 192 →
       Answers (exec o.instr s) fun t =>
         MemSame s t ∧ (t.reg A.MEM_NARROW).toNat = min ((s.reg A.MEM_NARROW).toNat + 1) (2 ^ 32 - 1) ∧
         t.core c = { k.retire k.budgeted (k.pc + 4) with
           stores := k.stores ++ [⟨o.addr k, 9, ((s.core c).icount + 1) % 2 ^ 64⟩] } ∧ CoresBut c s t) ∧
  (∀ (c : CoreId) (d a b : RegNo) (imm : BitVec 16) (narrow : BitVec 12) (scaled : Bool) (s : State), s.ready c = true →
     (∀ o ∈ loadForms c d a b imm narrow scaled, o.size < 4 →
       let k := s.fed c o.uses
       let x := (o.addr k).toNat
       regionOf x = .basin ∨ regionOf x = .dram → x % o.size = 0 → (s.setCore c k).transactions < 192 → k.faults = [] →
       exec o.instr s = .next (s.raises c o.uses 0x07 0 (o.addr k))) ∧
     (isPair d = true → isPair b = true →
       let k := s.fed c [d, d + 1, a, b, b + 1]
       let x := k.rd a
       x.toNat % 8 ≠ 0 → ∀ i ∈ [Instr.amoswap c d a b, .amoadd c d a b, .amoand c d a b, .amoor c d a b, .amocas c d a b],
         exec i s = .next (s.raises c [d, d + 1, a, b, b + 1]
           (if [Region.rom, .rill, .regs].contains (regionOf x.toNat) && !k.sys then 0x02 else 0x06) 0 x)) ∧
     (∀ o ∈ loadForms c d a b imm narrow scaled, (o.pair = true → isPair d = true) →
       let k := s.fed c o.uses
       let x := o.addr k
       x.toNat % o.size ≠ 0 →
       exec o.instr s = .next
         (if [Region.rom, .rill, .regs].contains (regionOf x.toNat) && !k.sys then s.raises c o.uses 0x02 0 x
          else s.raises c o.uses 0x05 0 x)) ∧
     (∀ o ∈ storeForms c d a b imm narrow scaled, (o.pair = true → isPair d = true) →
       let k := s.fed c o.uses
       let x := o.addr k
       x.toNat % o.size ≠ 0 →
       exec o.instr s = .next
         (if [Region.localI, .rom, .rill, .regs].contains (regionOf x.toNat) && !k.sys then s.raises c o.uses 0x02 0 x
          else s.raises c o.uses 0x06 0 x)))

/-- R71, R72: an atomic on a Basin doubleword without error completes: the old value is on its way to pd, the new one stands there, and
no other byte changes. A doubleword that nothing has written reads as zero (R457). Model choices: log entries 1 and 23. -/
def Obligations.AtomicsComplete : Prop :=
  ∀ o ∈ [(Instr.amoswap, fun (_ _ y : DWord) => y), (Instr.amoadd, fun old _ y => old + y), (Instr.amoand, fun old _ y => old &&& y),
      (Instr.amoor, fun old _ y => old ||| y), (Instr.amocas, fun old z y => if old = z then y else old)],
    ∀ (c : CoreId) (d a b : RegNo) (s : State), s.Inv → s.ready c = true → isPair d = true → isPair b = true →
      let k := s.fed c [d, d + 1, a, b, b + 1]
      let x := (k.rd a).toNat
      let old : DWord := if s.isValid x then s.store.w64 x else 0
      regionOf x = .basin → x % 8 = 0 → weight (s.errAt x) = 0 → k.loads.length < 8 → k.storeSlots < 8 →
      (s.setCore c k).transactions < 192 → s.memIdle →
      Answers (exec (o.1 c d a b) s) fun t =>
        t.store.w64 x = o.2 old (k.rdp d) (k.rdp b) ∧ t.isValid x = true ∧ MemBut x 8 s t ∧ RegsBut [A.MEM_FLIP_CFG] s t ∧
        t.core c = ({ k with loads := k.loads ++ [⟨[(d, hiWord old), (d + 1, loWord old)], .atomic, 0⟩] } : Core).retire
          k.budgeted (k.pc + 4) ∧ CoresBut c s t

/-- R44, R121, R97: a load, or the result of a lamp instruction, that returns writes its registers and its `cx.lstat` bits, and is no
longer outstanding; nothing else changes. R54, R55 to R58, R81: a core whose budget is exhausted raises BUDGET; a word whose major is
undefined raises ILLEGAL with reason 1 and a word that uses an undefined function raises it with reason 2; a debugger that the life cycle
permits stops a core. Inputs reach their block while their pad bank is usable (R519).
Model choices: log entries 23, 25 and 42. -/
def Obligations.CoreEventsAndReturnsComplete : Prop :=
  (∀ (c : CoreId) (n : Nat) (l : Load) (s : State), (s.core c).loads[n]? = some l →
     let k : Core := { (s.core c).wrs l.writes with
       lstat := (s.core c).lstat ||| l.lstat, loads := (s.core c).loads.eraseIdx n }
     (l.kind ≠ .lamp → exec (.loadReturn c n) s = .next (s.setCore c k)) ∧
     (l.kind = .lamp → exec (.lampInstrReturn c n) s = .next (s.setCore c k))) ∧
  (∀ (c : CoreId) (w : Word) (s : State),
     (s.issues c = true → (s.core c).budgeted = true → (s.core c).budget = 0 → (s.core c).faults = [] →
       exec (.budgetExhausted c) s = .next ((Op.raise c 0x0C 0 0).run s)) ∧
     (let major := fieldOf w 26 6
      let fn := fieldOf w 0 10
      let illegal (reason : Nat) : Prop := exec (.illegalInstruction c w) s = .next (s.raises c [] 0x01 reason 0)
      s.ready c = true →
       ([0x02, 0x03, 0x0E, 0x0F, 0x17, 0x1D, 0x1E, 0x1F, 0x3A, 0x3B, 0x3F].contains major ∨ (0x21 ≤ major ∧ major ≤ 0x27) ∨
         (0x29 ≤ major ∧ major ≤ 0x2F) ∨ (0x32 ≤ major ∧ major ≤ 0x37) → illegal 1) ∧
       ((major = 0x00 ∧ ((0x17 ≤ fn ∧ fn ≤ 0x1F) ∨ (0x22 ≤ fn ∧ fn ≤ 0x2F) ∨ 0x37 ≤ fn)) ∨ (major = 0x01 ∧ (fn = 7 ∨ 0x0C ≤ fn)) ∨
        (major = 0x14 ∧ 6 ≤ fieldOf w 12 4) ∨ (major = 0x15 ∧ (0x20 ≤ fn ∨ 0x0A ≤ fn % 16)) ∨ (major = 0x16 ∧ 5 ≤ fn) ∨
        (major = 0x1C ∧ 2 ≤ fn) ∨ (major = 0x20 ∧ (fn = 0x0E ∨ fn = 0x0F ∨ 0x13 ≤ fn)) ∨ (major = 0x28 ∧ 4 ≤ fn) ∨
        (major = 0x30 ∧ 10 ≤ fn) ∨ (major = 0x31 ∧ 3 ≤ fn) ∨ (major = 0x38 ∧ 3 ≤ fn) ∨ (major = 0x39 ∧ 1 ≤ fn) ∨
        (major = 0x3E ∧ 5 ≤ fieldOf w 6 5) → illegal 2) ∧
       (∀ reason, illegalReason w = some reason → illegal reason)) ∧
     (s.bankA = true → s.domOn (coreDomain c) = true → s.powered .lcs = true → s.bit F.LCS_STAT_DEBUG = true →
       (s.core c).run ≠ .off → (s.core c).run ≠ .halted →
       Answers (exec (.debuggerHalt c) s) fun t =>
         t.core c = { s.core c with run := .debug, attached := true } ∧ t.store = s.store ∧ CoresBut c s t))

/-! ### Branches, control registers, exceptions -/

/-- R75 to R77: BC and BR complete for every defined condition, to pc + 4 × offset where it holds, if that can be fetched from, and to the next
instruction where it does not hold; an undefined condition raises ILLEGAL with reason 5. -/
def Obligations.BranchesComplete : Prop :=
  ∀ (c : CoreId) (cond : BitVec 5) (a : RegNo) (off : BitVec 16) (s : State), s.ready c = true →
    let target := (s.core c).pc + 4 * off.signExtend 32
    let go (k : Core) (taken : Bool) : State := s.setCore c (k.retire k.budgeted (if taken then target else k.pc + 4))
    let fetched (taken : Bool) : Prop := taken = true → [Region.localI, .rom, .nor].contains (regionOf target.toNat) = true
    (let k := s.fed c []
     let taken := condHolds cond.toNat k.st
     (cond.toNat ≤ 16 → fetched taken → exec (.bc c cond off) s = .next (go k taken)) ∧
     (16 < cond.toNat → exec (.bc c cond off) s = .next (s.raises c [] 0x01 5 0))) ∧
    (let k := s.fed c [a]
     let taken := testHolds cond.toNat (k.rd a).toInt
     (cond.toNat ≤ 5 → fetched taken → exec (.br c cond a off) s = .next (go k taken)) ∧
     (5 < cond.toNat → exec (.br c cond a off) s = .next (s.raises c [a] 0x01 5 0)))

/-- R75, R78: the jumps complete where the target is aligned and can be fetched from, with the link to the next instruction; elsewhere they
raise FETCH with the target, and write no link. The model's deductions (log entry 47): a taken branch raises FETCH likewise;
and a jump into no region completes, and its target then fails to be fetched. -/
def Obligations.JumpsComplete : Prop :=
  ∀ (c : CoreId) (t26 : BitVec 26) (d a : RegNo) (s : State), s.ready c = true →
    let go (uses : List RegNo) (target : Word) (link : Option RegNo) : State :=
      let k := s.fed c uses
      if target.toNat % 4 = 0 && [Region.localI, .rom, .nor, .none].contains (regionOf target.toNat) then
        s.setCore c ((match link with | some r => k.wr r (k.pc + 4) | none => k).retire k.budgeted target)
      else s.raises c uses 0x03 0 target
    let long : Word := BitVec.ofNat 32 (t26.toNat * 4)
    (exec (.j c t26) s = .next (go [] long none)) ∧
    (exec (.jal c t26) s = .next (go [1] long (some 1))) ∧
    (exec (.jr c a) s = .next (go [a] ((s.fed c [a]).rd a) none)) ∧
    (exec (.jalr c d a) s = .next (go [d, a] ((s.fed c [d, a]).rd a) (some d))) ∧
    (∀ (cond : BitVec 5) (off : BitVec 16),
      let target := (s.core c).pc + 4 * off.signExtend 32
      [Region.localI, .rom, .nor, .none].contains (regionOf target.toNat) = false →
        (cond.toNat ≤ 16 → condHolds cond.toNat (s.core c).st = true → exec (.bc c cond off) s = .next (s.raises c [] 0x03 0 target)) ∧
        (cond.toNat ≤ 5 → testHolds cond.toNat ((s.fed c [a]).rd a).toInt = true →
          exec (.br c cond a off) s = .next (s.raises c [a] 0x03 0 target)))

/-- R51, R52, R94: MFC and MTC complete for every listed control register in system mode: MFC reads it, reading `cx.icount` latches
`cx.icounth` and reading `cx.lerr` clears it; MTC writes the fields it has, and nothing where it is read-only. An unlisted number raises
ILLEGAL with reason 6. R51: a task-mode access to a control register that its row does not permit raises PRIVILEGE.
Model choices: log entries 18 and 25. -/
def Obligations.ControlRegisterInstructionsComplete : Prop :=
  (∀ (c : CoreId) (d a : RegNo) (s : State), s.ready c = true → (s.core c).sys = true →
     (∀ r ∈ ([(0, fun k => k.mode), (1, fun k => k.cause), (2, fun k => k.epc), (3, fun k => k.eaddr), (4, fun k => k.est),
         (5, fun k => k.vec), (6, fun k => k.scratch0), (7, fun k => k.scratch1), (9, fun k => k.budget), (11, fun k => k.icounth),
         (12, fun k => k.sat), (14, fun k => k.st), (32, fun k => k.item), (33, fun k => k.takepc),
         (34, fun k => k.popen)] : List (Nat × (Core → Word))),
       exec (.mfc c d (BitVec.ofNat 6 r.1)) s = .next (s.retires c [d] fun k => k.wr d (r.2 k))) ∧
     exec (.mfc c d 8) s = .next (s.retires c [d] fun k =>
       k.wr d (BitVec.ofNat 32 (c.val + c.val / 6 * 2 ^ 8 + s.groupOf c * 2 ^ 12))) ∧
     exec (.mfc c d 10) s = .next (s.retires c [d] fun k =>
       ({ k with icounth := BitVec.ofNat 32 (k.icount / 2 ^ 32) } : Core).wr d (BitVec.ofNat 32 k.icount)) ∧
     exec (.mfc c d 13) s = .next (s.retires c [d] fun k => ({ k with lerr := 0 } : Core).wr d k.lerr) ∧
     ((s.fed c [d]).loads = [] → exec (.mfc c d 35) s = .next (s.retires c [d] fun k => k.wr d k.lstat)) ∧
     (∀ r ∈ ([(0, fun k v => { k with mode := v &&& 0xF ||| 1 }), (1, fun k v => { k with cause := v &&& 0xFFFF03FF }),
         (2, fun k v => { k with epc := v }), (3, fun k v => { k with eaddr := v }), (4, fun k v => { k with est := v &&& 0x1F }),
         (5, fun k v => { k with vec := v &&& 0xFFFFFF00 }), (6, fun k v => { k with scratch0 := v }),
         (7, fun k v => { k with scratch1 := v }), (8, fun k _ => k), (9, fun k v => { k with budget := v }), (10, fun k _ => k),
         (11, fun k _ => k), (12, fun k v => { k with sat := v &&& 1 }), (13, fun k _ => k), (14, fun k v => { k with st := v &&& 0x1F }),
         (32, fun k _ => k), (33, fun k _ => k), (34, fun k _ => k),
         (35, fun k v => { k with lstat := v &&& 7 })] : List (Nat × (Core → Word → Core))),
       exec (.mtc c a (BitVec.ofNat 6 r.1)) s = .next (s.retires c [a] fun k => r.2 k (k.rd a))) ∧
     (∀ n : BitVec 6, 15 ≤ n.toNat ∧ n.toNat < 32 ∨ 36 ≤ n.toNat →
       exec (.mfc c d n) s = .next (s.raises c [d] 0x01 6 0) ∧ exec (.mtc c a n) s = .next (s.raises c [a] 0x01 6 0))) ∧
  (∀ (c : CoreId) (d a : RegNo) (s : State), s.ready c = true → (s.core c).sys = false →
     (∀ n ∈ [1, 2, 3, 4, 5, 6, 7, 9, 13, 33], exec (.mfc c d (BitVec.ofNat 6 n)) s = .next (s.raises c [d] 0x02 0 0)) ∧
     (∀ n ∈ [0, 1, 2, 3, 4, 5, 6, 7, 8, 9, 10, 11, 13, 32, 33, 34],
       exec (.mtc c a (BitVec.ofNat 6 n)) s = .next (s.raises c [a] 0x02 0 0)))

/-- R85: taking an exception outside a handler, with no refused store on its way: the outstanding loads have returned, `cx.cause` holds
the code and the detail, `cx.epc` the address, `cx.eaddr` the fault's address, `cx.est` the flags, PMODE the mode; the core is in system
mode in a handler, at `cx.vec`. Its registers are what those loads leave, and no memory and no other core changes. R80, R81, R83: ERET in a handler restores the flags and
the mode and goes on at `cx.epc`; in task mode it raises PRIVILEGE, and outside a handler ILLEGAL with reason 7. TRAP retires and enters
with its code and the address of the next instruction. BREAK stops the core for an attached debugger, and raises BREAK where there is
none. Model choices: log entries 25 and 42. -/
def Obligations.ExceptionsComplete : Prop :=
  (∀ (c : CoreId) (uses : List RegNo) (code detail : Nat) (eaddr : Word) (s : State),
     (s.fed c uses).stores = [] → (s.fed c uses).exl = false → code < 2 ^ 8 → detail < 2 ^ 16 →
     let t := s.raises c uses code detail eaddr
     (t.core c).cause.toNat = code + detail * 2 ^ 16 ∧ (t.core c).epc = (s.core c).pc ∧ (t.core c).eaddr = eaddr ∧
       (t.core c).est = (s.core c).st ∧ (t.core c).st = (s.core c).st ∧ (t.core c).pc = (s.core c).vec ∧
       (t.core c).sys = true ∧ (t.core c).exl = true ∧ (t.core c).mode.getLsbD 2 = (s.core c).sys ∧
       (t.core c).mode.getLsbD 3 = (s.core c).mode.getLsbD 3 ∧ (t.core c).loads = [] ∧ (t.core c).run = .running ∧
       (t.core c).w = (s.settled c uses).w ∧ (t.core c).icount = (s.core c).icount ∧
       t.store = s.store ∧ CoresBut c s t) ∧
  (∀ (c : CoreId) (code : BitVec 10) (s : State), s.ready c = true →
     let k := s.fed c []
     (k.sys = true → k.exl = true →
       Answers (exec (.eret c) s) fun t =>
         (t.core c).pc = k.epc ∧ (t.core c).st = k.est ∧ (t.core c).sys = k.mode.getLsbD 2 ∧ (t.core c).exl = false ∧
         (t.core c).w = k.w ∧ t.store = s.store ∧ CoresBut c s t) ∧
     (k.sys = false → exec (.eret c) s = .next (s.raises c [] 0x02 0 0)) ∧
     (k.sys = true → k.exl = false → exec (.eret c) s = .next (s.raises c [] 0x01 7 0)) ∧
     (k.exl = false → k.stores = [] →
       Answers (exec (.trap c code) s) fun t =>
         (t.core c).cause.toNat = 0x0D + code.toNat * 2 ^ 16 ∧ (t.core c).epc = k.pc + 4 ∧ (t.core c).pc = k.vec ∧
         (t.core c).icount = (k.icount + 1) % 2 ^ 64 ∧ (t.core c).exl = true ∧ (t.core c).w = (s.settled c []).w ∧
         (t.core c).est = k.st ∧ (t.core c).sys = true ∧ (t.core c).mode.getLsbD 2 = k.sys ∧ (t.core c).loads = [] ∧
         t.store = s.store ∧ CoresBut c s t) ∧
     (k.attached = false → exec (.brk c) s = .next (s.raises c [] 0x0E 0 0)) ∧
     (k.attached = true →
       Answers (exec (.brk c) s) fun t => t.core c = { k with run := .debug } ∧ t.store = s.store ∧ CoresBut c s t))

/-! ### Rills -/

/-- R104, R106, R107: POP, PEEK and the rill form of TAKE complete on a rill that holds an item: the item goes to the pair, T is 1, and
POP and TAKE advance the read position. POP and PEEK complete on an empty rill with T at 0 and the idle item; TAKE then waits. R107: MARK
marks the read position; REWIND returns to a valid mark, and has T at 0 without one; RELEASE frees every slot up to the read position, and
has T at 0 where there is none. Model choices: log entry 26. -/
def Obligations.RillReadsAndMarksComplete : Prop :=
  (∀ (c : CoreId) (d : RegNo) (n : RillNo) (s : State), s.ready c = true → s.consumes c n = true → isPair d = true →
     ((s.rill n).unread ≠ 0 → s.itemClean n →
       let taken (r : Rill) : Rill := { r with nread := r.nread + 1, unread := r.unread - 1 }
       exec (.pop c d n) s = .next (s.rillStep c (both d) n true (·.wrp d (s.item n)) taken) ∧
       exec (.takeRill c d n) s = .next (s.rillStep c (both d) n true (·.wrp d (s.item n)) taken) ∧
       exec (.peek c d n) s = .next (s.rillStep c (both d) n true (·.wrp d (s.item n)) id)) ∧
     ((s.rill n).unread = 0 →
       let idle : DWord := if n.val < 4 then joinWords (s.reg (A.RILL_IDLE_HI n)) (s.reg (A.RILL_IDLE_LO n)) else 0
       exec (.pop c d n) s = .next (s.rillStep c (both d) n false (·.wrp d idle) id) ∧
       exec (.peek c d n) s = .next (s.rillStep c (both d) n false (·.wrp d idle) id) ∧
       exec (.takeRill c d n) s = .next ((s.setCore c { s.fed c (both d) with run := .rillWait d n }).setRill n
         { s.rill n with waiters := (s.rill n).waiters ++ [c] }))) ∧
  (∀ (c : CoreId) (n : RillNo) (s : State), s.ready c = true → s.consumes c n = true → s.quiet n →
     let r := s.rill n
     (exec (.mark c n) s = .next (s.rillStep c [] n true id fun r =>
       { r with mark := (r.rl + r.nread) % s.rillSize n, markOff := some r.nread })) ∧
     (∀ m, r.markOff = some m →
       exec (.rewind c n) s = .next (s.rillStep c [] n true id fun r => { r with nread := m, unread := r.unread + (r.nread - m) })) ∧
     (r.markOff = none → exec (.rewind c n) s = .next (s.rillStep c [] n false id id)) ∧
     (r.nread = 0 → exec (.release c n) s = .next (s.rillStep c [] n false id id)) ∧
     (r.nread ≠ 0 →
       Answers (exec (.release c n) s) fun t =>
         (t.rill n).rl = (r.rl + r.nread) % s.rillSize n ∧ (t.rill n).nread = 0 ∧ (t.rill n).unread = r.unread ∧
         (t.rill n).npkt = r.npkt ∧ (∀ m, r.markOff = some m → r.nread ≤ m → (t.rill n).markOff = some (m - r.nread)) ∧
         (∀ m, r.markOff = some m → m < r.nread → (t.rill n).markOff = none) ∧
         (t.core c).st.getLsbD 4 = true ∧ t.store = s.store ∧ CoresBut c s t))

/-- R108: a plain PUSH completes: with a free slot the item stands in the slot at the write position and becomes visible, with T at 1; on
a full rill nothing is written, `RILL_FULLCNTn` counts, and T is 0. No other byte of memory and no other core changes. R103, R108: an item
that is pushed while a core waits in TAKE on the rill goes to the core that has waited longest. R109 to R113: OPENP opens a packet on a
packet rill with two free slots; PUSH then appends a body word, which is not visible; CLOSEP writes the length word into the reserved slot
and makes the packet visible. An OPENP that finds less room or an open packet opens one that is broken, and a body word that finds no slot
breaks it, each counted; further words are discarded. CANCELP, and the CLOSEP of a broken packet with T at 0, give its slots back and make
nothing visible (R112, R152). Model choices: log entry 26. -/
def Obligations.RillPushesAndPacketsComplete : Prop :=
  ((∀ (c : CoreId) (n : RillNo) (a : RegNo) (s : State), s.Inv → s.ready c = true → s.produces c n = true → s.quiet n →
      s.isPacket n = false → isPair a = true → (s.core c).stores = [] → (s.core c).popen = 0 →
      let k := s.settled c (both a)
      (s.rillFree n ≠ 0 →
        Answers (exec (.push c n a) s) fun t =>
          t.store.bytes (s.slotAddr n (s.rill n).wr) 8 = leBytes 8 (storedItem n (k.rdp a)).toNat ∧
          MemBut (s.slotAddr n (s.rill n).wr) 8 s t ∧ RegsBut [A.MEM_FLIP_CFG] s t ∧
          t.rill n = { s.rill n with unread := (s.rill n).unread + 1 } ∧
          t.core c = (k.setT true).retire k.budgeted (k.pc + 4) ∧ CoresBut c s t) ∧
      (s.rillFree n = 0 →
        Answers (exec (.push c n a) s) fun t =>
          MemSame s t ∧ RegsBut [A.RILL_FULLCNT n] s t ∧ t.rill n = s.rill n ∧
          (t.reg (A.RILL_FULLCNT n)).toNat = min ((s.reg (A.RILL_FULLCNT n)).toNat + 1) (2 ^ 32 - 1) ∧
          t.core c = (k.setT false).retire k.budgeted (k.pc + 4) ∧ CoresBut c s t)) ∧
   (∀ (c w : CoreId) (ws : List CoreId) (n : RillNo) (a d : RegNo) (s : State), s.Inv → s.ready c = true → s.produces c n = true →
      s.fld (F.RILL_BRIM_HIGH n) = 0 → s.memIdle → s.isPacket n = false → isPair a = true → (s.core c).stores = [] → (s.core c).popen = 0 →
      w ≠ c → (s.rill n).waiters = w :: ws → (s.core w).run = .rillWait d n → isPair d = true → (s.rill n).unread = 0 →
      s.rillFree n ≠ 0 → s.bit F.MEM_FLIP_CFG_ARM = false →
        Answers (exec (.push c n a) s) fun t =>
          (t.core w).rdp d = storedItem n ((s.settled c (both a)).rdp a) ∧ (t.core w).st.getLsbD 4 = true ∧
          (t.core w).run = .running ∧ (t.core w).pc = (s.core w).pc + 4 ∧ (t.rill n).unread = 0 ∧ (t.rill n).waiters = ws)) ∧
  (∀ (c : CoreId) (n : RillNo) (a : RegNo) (s : State), s.Inv → s.ready c = true → s.produces c n = true → s.isPacket n = true →
     s.quiet n → (s.core c).stores = [] →
     let r := s.rill n
     let k := s.core c
     (k.popenOpen = false → r.pkt = none → 2 ≤ s.rillFree n →
       Answers (exec (.openp c n) s) fun t =>
         t.rill n = { r with npkt := 1, pkt := some (.core c) } ∧ (t.core c).popen.toNat = 1 + n.val * 2 ^ 8 ∧
         (t.core c).st.getLsbD 4 = true ∧ t.store = s.store ∧ CoresBut c s t) ∧
     (isPair a = true → k.popenOpen = true → k.popenRill = n → k.popenBroken = false → k.popenCount < 65535 → s.rillFree n ≠ 0 →
       Answers (exec (.push c n a) s) fun t =>
         t.store.bytes (s.slotAddr n r.wr) 8 = leBytes 8 (storedItem n ((s.settled c (both a)).rdp a)).toNat ∧
         MemBut (s.slotAddr n r.wr) 8 s t ∧ t.rill n = { r with npkt := r.npkt + 1 } ∧
         (t.core c).popen.toNat = 1 + n.val * 2 ^ 8 + (k.popenCount + 1) * 2 ^ 16 ∧ CoresBut c s t) ∧
     (k.popenOpen = true → k.popenRill = n → k.popenBroken = false →
       Answers (exec (.closep c n a) s) fun t =>
         t.store.bytes (s.slotAddr n r.vis) 8 =
           leBytes 8 (lengthWord k.popenCount ((s.settled c [a]).rd a)).toNat ∧
         MemBut (s.slotAddr n r.vis) 8 s t ∧
         t.rill n = { r with unread := r.unread + r.npkt, npkt := 0, pkt := none } ∧ (t.core c).popen = 0 ∧
         (t.core c).st.getLsbD 4 = true ∧ CoresBut c s t) ∧
     (k.popenOpen = false → r.pkt.isSome = true ∨ s.rillFree n < 2 →
       Answers (exec (.openp c n) s) fun t =>
         t.rill n = r ∧ (t.core c).popen.toNat = 1 + 2 + n.val * 2 ^ 8 ∧ (t.core c).st.getLsbD 4 = false ∧
         (t.core c).pc = k.pc + 4 ∧ Counts (A.RILL_FULLCNT n) 1 s t ∧ RegsBut [A.RILL_FULLCNT n] s t ∧ MemSame s t ∧ CoresBut c s t) ∧
     (isPair a = true → k.popenOpen = true → k.popenRill = n → k.popenBroken = false → k.popenCount < 65535 → s.rillFree n = 0 →
       Answers (exec (.push c n a) s) fun t =>
         t.rill n = r ∧ (t.core c).popen.toNat = 1 + 2 + n.val * 2 ^ 8 + k.popenCount * 2 ^ 16 ∧ (t.core c).pc = k.pc + 4 ∧
         Counts (A.RILL_FULLCNT n) 1 s t ∧ RegsBut [A.RILL_FULLCNT n] s t ∧ MemSame s t ∧ CoresBut c s t) ∧
     (isPair a = true → k.popenOpen = true → k.popenRill = n → k.popenBroken = true →
       Answers (exec (.push c n a) s) fun t =>
         t.rill n = r ∧ (t.core c).popen = k.popen ∧ (t.core c).pc = k.pc + 4 ∧ RegsBut [] s t ∧ MemSame s t ∧ CoresBut c s t) ∧
     (k.popenOpen = true → k.popenRill = n → k.popenBroken = true →
       Answers (exec (.closep c n a) s) fun t =>
         t.rill n = (if r.pkt = some (.core c) then { r with npkt := 0, pkt := none } else r) ∧ (t.core c).popen = 0 ∧
         (t.core c).st.getLsbD 4 = false ∧ (t.core c).pc = k.pc + 4 ∧ t.store = s.store ∧ CoresBut c s t) ∧
     (k.popenOpen = true → k.popenRill = n → r.pkt = some (.core c) →
       Answers (exec (.cancelp c n) s) fun t =>
         t.rill n = { r with npkt := 0, pkt := none } ∧ (t.core c).popen = 0 ∧ (t.core c).st.getLsbD 4 = false ∧
         t.store = s.store ∧ CoresBut c s t))

/-- R105: a rill instruction raises PRIVILEGE on a rill kept from task mode, RILL_OFF on a rill that cannot be used, and RILL_MODE for a
consumer on a feed rill, each with the rill's number in `cx.eaddr`. R108, R109, R114: a PUSH outside the core's own packet on a packet rill
and an OPENP on a plain one raise RILL_MODE, an OPENP beside an open packet PACKET_OPEN, and CLOSEP and CANCELP without one NO_PACKET. R149: a rill that is enabled is empty, armed, without a mark; a rill
that is disabled discards what it holds, which `RILL_DISCARDED` counts. Model choices: log entry 26. -/
def Obligations.RillControlCompletes : Prop :=
  (∀ (c : CoreId) (d : RegNo) (n : RillNo) (s : State), s.ready c = true → isPair d = true →
     let no : Word := BitVec.ofNat 32 n.val
     ∀ p ∈ [(Instr.pop c d n, both d), (Instr.peek c d n, both d), (Instr.takeRill c d n, both d), (Instr.mark c n, []),
         (Instr.rewind c n, []), (Instr.release c n, [])],
       ((s.core c).sys = false → s.bit (F.RILL_CFG_SYSONLY n) = true → exec p.1 s = .next (s.raises c p.2 0x02 0 no)) ∧
       ((s.core c).sys = true → s.rillOn n = false → s.ending .rill = false → exec p.1 s = .next (s.raises c p.2 0x23 0 no)) ∧
       ((s.core c).sys = true → s.rillOn n = true → s.isFeed n = true → exec p.1 s = .next (s.raises c p.2 0x22 0 no))) ∧
  (∀ (c : CoreId) (a : RegNo) (n : RillNo) (s : State), s.ready c = true → (s.core c).stores = [] →
     let no : Word := BitVec.ofNat 32 n.val
     let k := s.core c
     let holds := k.popenOpen && k.popenRill == n
     let ps := [(Instr.push c n a, both a, true), (Instr.openp c n, [], false), (Instr.closep c n a, [a], true), (Instr.cancelp c n, [], false)]
     (∀ p ∈ ps, k.sys = false → s.bit (F.RILL_CFG_SYSONLY n) = true → (p.1 = Instr.push c n a → isPair a = true) →
        exec p.1 s = .next (s.raisesSettled c p.2.1 p.2.2 0x02 no)) ∧
     (k.sys = true ∨ s.bit (F.RILL_CFG_SYSONLY n) = false →
       (k.popenOpen = true → exec (.openp c n) s = .next (s.raises c [] 0x24 0 (BitVec.ofNat 32 k.popenRill))) ∧
       (s.rillOn n = false → s.ending .rill = false →
         (isPair a = true → exec (.push c n a) s = .next (s.raisesSettled c (both a) true 0x23 no)) ∧
         (k.popenOpen = false → exec (.openp c n) s = .next (s.raises c [] 0x23 0 no)) ∧
         (holds = true ∨ s.isFeed n = false →
           exec (.closep c n a) s = .next (s.raisesSettled c [a] true 0x23 no) ∧ exec (.cancelp c n) s = .next (s.raises c [] 0x23 0 no))) ∧
       (s.rillOn n = true →
         (isPair a = true → holds = false → s.isPacket n = true →
           exec (.push c n a) s = .next (s.raisesSettled c (both a) true 0x22 no)) ∧
         (k.popenOpen = false → s.isPacket n = false → exec (.openp c n) s = .next (s.raises c [] 0x22 0 no)) ∧
         (holds = false →
           exec (.closep c n a) s = .next (s.raisesSettled c [a] true 0x25 no) ∧ exec (.cancelp c n) s = .next (s.raises c [] 0x25 0 no))))) ∧
  (∀ (n : RillNo) (s : State), s.Inv → s.powered .rill = true →
     (s.rillEn n = false →
       Answers (exec (.rillEnable n) s) fun t =>
         t.rillEn n = true ∧ (t.rill n).occ = 0 ∧ (t.rill n).rl = 0 ∧ (t.rill n).markOff = none ∧ (t.rill n).armed = true ∧
         (t.rill n).pkt = none ∧ (t.rill n).waiters = [] ∧ MemSame s t ∧ CoresSame s t ∧ RegsBut [A.RILL_EN_LO, A.RILL_EN_HI] s t) ∧
     (s.rillEn n = true → s.quiet n → (s.rill n).pkt = none →
       Answers (exec (.rillDisable n) s) fun t =>
         t.rillEn n = false ∧ (t.rill n).occ = 0 ∧ (t.rill n).markOff = none ∧
         (t.reg A.RILL_DISCARDED).toNat = min ((s.reg A.RILL_DISCARDED).toNat + (s.rill n).occ) (2 ^ 32 - 1) ∧
         MemSame s t ∧ CoresSame s t ∧ RegsBut [A.RILL_EN_LO, A.RILL_EN_HI, A.RILL_DISCARDED] s t))

/-! ### Work items, time, calls -/

/-- R98, R100, R101, R102: TAKE in system mode outside an item waits at the end of the waiting queue; DONE ends an item and goes back to its
TAKE in system mode; SPAWN of a valid descriptor in the core's local data memory is accepted with status 0 and queues the item.
Model choices: log entries 3 and 27. -/
def Obligations.WorkInstructionsComplete : Prop :=
  ∀ (c : CoreId) (d a : RegNo) (s : State), s.ready c = true → (s.core c).stores = [] →
    ((s.core c).sys = true → (s.core c).exl = false → (s.core c).item.getLsbD 0 = false →
      Answers (exec (.takeDispatch c) s) fun t =>
        t.core c = { s.settled c (List.finRange 32) with run := .takeWait, takepc := (s.core c).pc } ∧
        t.blk.weir.waiting = s.blk.weir.waiting.filter (·.1 != c) ++ [(c, if s.coreEn c then some (s.groupOf c) else none)] ∧
        t.store = s.store ∧ CoresBut c s t) ∧
    ((s.core c).item.getLsbD 0 = true → (s.core c).popen = 0 → (s.core c).work.all (!·.1.edf) = true →
      Answers (exec (.done c) s) fun t =>
        (t.core c).pc = (s.core c).takepc ∧ (t.core c).item.getLsbD 0 = false ∧ (t.core c).sys = true ∧
        (t.core c).exl = false ∧ (t.core c).work = none ∧ (t.core c).w = (s.settled c []).w ∧
        t.store = s.store ∧ CoresBut c s t) ∧
    (let k := s.settled c [d, a]
     let x := (k.rd a).toNat
     let w (i : Nat) : Nat := s.store.le (localKey c.val (x + 8 * i)) 8
     regionOf x = .localD → regionOf (x + 16) = .localD → x % 8 = 0 →
     (∀ i < 3, s.localClean c (x + 8 * i) 8) → s.running .weir = true → s.validDescriptor (BitVec.ofNat 64 (w 0)) = true →
     (k.sys = true ∨ s.bit (F.WEIR_GCFG_MODE (w 0 / 2 ^ 36 % 4)) = false) → s.blk.weir.ready.length < 4095 →
      Answers (exec (.spawn c d a) s) fun t =>
        t.core c = (k.wr d 0).retire k.budgeted (k.pc + 4) ∧
        t.blk.weir.ready = s.blk.weir.ready ++ [{
          entry := BitVec.ofNat 32 (w 0), prio := w 0 / 2 ^ 32 % 16, group := w 0 / 2 ^ 36 % 4, edf := w 0 / 2 ^ 38 % 2 == 1,
          cls := w 0 / 2 ^ 40 % 16, arg := BitVec.ofNat 64 (w 1), deadline := if w 0 / 2 ^ 38 % 2 = 1 then w 2 else 0 }] ∧
        t.store = s.store ∧ CoresBut c s t)

/-- R138, R139, R98: Weir gives the group's item that no other comes before to the group's longest-waiting core, which starts at the entry
address with the argument in p2, the deadline in p3, and zero in every other register; nothing but that core, Weir and its counters
changes. R144, R134, R155: a flush of a stopped Weir removes the ready items of the flagged groups and counts them; a feed rill's item
becomes a work item of its group, and its slot is free. Model choices: log entry 27. -/
def Obligations.WeirCommandsComplete : Prop :=
  (∀ (s : State) (g : Nat) (c : CoreId) (q : Option Nat) (i : Item) (rest : List Item), s.running .weir = true →
     s.blk.stopping.getLsbD 1 = false → s.nextGroup = some g → s.blk.weir.waiting.find? (inQueue g) = some (c, q) →
     chooseItem s.blk.weir.ready g (s.bit (F.WEIR_GCFG_ORDER g)) = some (i, rest) →
       (i.group = g ∧ i ∈ s.blk.weir.ready ∧
         ∀ j ∈ s.blk.weir.ready, j.group = g → before (s.bit (F.WEIR_GCFG_ORDER g)) j i = false) ∧
       Answers (exec .weirDispatch s) fun t =>
         (t.core c).pc = i.entry ∧ (t.core c).run = .running ∧ (t.core c).rdp 4 = i.arg ∧
         (t.core c).rdp 6 = BitVec.ofNat 64 i.deadline ∧
         (∀ r : RegNo, r.val < 4 ∨ 8 ≤ r.val → (t.core c).rd r = 0) ∧ (t.core c).item.getLsbD 0 = true ∧
         (t.core c).sys = s.bit (F.WEIR_GCFG_MODE g) ∧
         t.blk.weir.ready = rest ∧ t.blk.weir.waiting = s.blk.weir.waiting.filter (·.1 != c) ∧ t.blk.weir.lastGroup = g ∧
         CoresBut c s t ∧ MemSame s t ∧ RegsBut [A.WEIR_GDISP g, A.WEIR_PASTDUE_CNT] s t) ∧
  (∀ (s : State), s.Inv →
     (∀ groups : BitVec 4, s.powered .weir = true → s.bit F.WEIR_CTRL_RUN = false →
       Answers (exec (.weirFlush groups) s) fun t =>
         t.blk.weir.ready = s.blk.weir.ready.filter (fun i => groups.toNat / 2 ^ i.group % 2 == 0) ∧
         (t.reg A.WEIR_FLUSHED).toNat =
           min ((s.reg A.WEIR_FLUSHED).toNat + (s.blk.weir.ready.length - t.blk.weir.ready.length)) (2 ^ 32 - 1) ∧
         MemSame s t ∧ CoresSame s t ∧ RegsBut [A.WEIR_FLUSHED] s t) ∧
     (∀ n : RillNo, s.working .rill = true → s.running .weir = true → s.blk.weir.ready.length < 4095 → s.nextFeed = some n →
       s.itemClean n → s.quiet n → (s.reg (A.RILL_FEED_ENTRY n)).toNat % 4 = 0 →
       s.bit (F.WEIR_GCFG_EN (s.fld (F.RILL_FEED_FLAGS_GROUP n))) = true →
       s.fld (F.WEIR_GCFG_ORDER (s.fld (F.RILL_FEED_FLAGS_GROUP n))) = s.fld (F.RILL_FEED_FLAGS_EDF n) →
       Answers (exec .feedRillSubmit s) fun t =>
         (∃ i : Item, t.blk.weir.ready = s.blk.weir.ready ++ [i] ∧ i.entry = s.reg (A.RILL_FEED_ENTRY n) ∧ i.arg = s.item n ∧
           i.group = s.fld (F.RILL_FEED_FLAGS_GROUP n)) ∧
         (t.rill n).unread = (s.rill n).unread - 1 ∧ (t.rill n).rl = ((s.rill n).rl + 1) % s.rillSize n ∧
         MemSame s t ∧ CoresSame s t ∧ RegsBut [] s t))

/-- R33, R115 to R117: TNOW reads the time base. TWAIT and TWAITD complete at once with the lateness where the instant has come, wait
where it lies at most 2^30 ns ahead, and raise TIME_RANGE beyond; the wait ends with 0 once the time base has reached the instant. FENCE
lets fetch see every store to local instruction memory. R125 to R127: GCALL and GPOST of a defined service, with a readable call block in
Basin, complete: the Gauntlet holds the call with the block's 64 bytes, and the core waits for the status of a GCALL, and goes on with wd
0 after a GPOST. Model choices: log entries 17, 24, 25 and 37. -/
def Obligations.TimeAndCallInstructionsComplete : Prop :=
  (∀ (c : CoreId) (d a : RegNo) (s : State),
     (s.ready c = true → isPair d = true →
       exec (.tnow c d) s = .next (s.retires c (both d) fun k => k.wrp d (BitVec.ofNat 64 s.now))) ∧
     (s.ready c = true → isPair a = true →
       let uses := d :: both a
       let x := ((s.fed c uses).rdp a).toNat
       (x ≤ s.now → exec (.twait c d a) s = .next (s.retires c uses (·.wr d (BitVec.ofNat 32 (min (s.now - x) (2 ^ 32 - 1)))))) ∧
       (s.now < x → x ≤ s.now + 2 ^ 30 →
         exec (.twait c d a) s = .next (s.setCore c { s.fed c uses with run := .timeWait d x })) ∧
       (s.now + 2 ^ 30 < x → exec (.twait c d a) s = .next (s.raises c uses 0x26 0 (BitVec.ofNat 32 x))) ∧
       (2 ^ 30 < x → exec (.twaitd c d a) s = .next (s.raises c uses 0x26 0 (BitVec.ofNat 32 (s.now + x)))) ∧
       (x = 0 → exec (.twaitd c d a) s = .next (s.retires c uses (·.wr d 0))) ∧
       (0 < x → x ≤ 2 ^ 30 →
         exec (.twaitd c d a) s = .next (s.setCore c { s.fed c uses with run := .timeWait d (s.now + x) }))) ∧
     (∀ x, (s.core c).run = .timeWait d x → x ≤ s.now → s.domOn (coreDomain c) = true →
       let k := s.core c
       exec (.twaitRelease c) s = .next (s.setCore c ((k.wr d 0).retire k.budgeted (k.pc + 4))) ∧
       Answers (exec (.timedResultRelease 0) s) fun t => (t.core c).run = .running ∧ (t.core c).pc = k.pc + 4 ∧ t.store = s.store) ∧
     (s.ready c = true → (s.core c).stores = [] →
       let k := s.settled c []
       exec (.fence c) s = .next (s.setCore c (({ k with oldFetch := [] } : Core).retire k.budgeted (k.pc + 4))))) ∧
  (∀ (c : CoreId) (d a : RegNo) (n : RillNo) (service : BitVec 10) (s : State), s.ready c = true → (s.core c).stores = [] →
     let k := s.fed c [d, a]
     let x := (k.rd a).toNat
     x % 64 = 0 → regionOf x = .basin → s.domOn 9 = true → s.memIdle → (∀ j < 8, s.isValid (x + 8 * j) = true ∧ weight (s.errAt (x + 8 * j)) = 0) →
     (s.gnt.calls.length = 16 → Answers (exec (.gcall c d a service) s) fun t =>
       t.core c = { k with run := .callQueue d service.toNat x } ∧ t.gnt = s.gnt ∧ CoresBut c s t ∧ MemSame s t) ∧
     (s.gnt.calls.length < 16 → s.unqueued → s.running .gnt = true → s.blk.stopping.getLsbD 16 = false →
      svcDefined service.toNat = true →
     let call (rill : Option RillNo) : Call :=
       { svc := service.toNat, blk := x, fields := some (s.store.bytes x 64), sys := k.sys, who := c, rill := rill, answer := none,
         tried := false, told := false }
     (Answers (exec (.gcall c d a service) s) fun t =>
       t.gnt.calls = s.gnt.calls ++ [call none] ∧ t.core c = { k with run := .callWait d } ∧ CoresBut c s t ∧ MemSame s t) ∧
     (s.rillOn n = true →
       Answers (exec (.gpost c d a n service) s) fun t =>
         t.gnt.calls = s.gnt.calls ++ [call (some n)] ∧ t.core c = (k.wr d 0).retire k.budgeted (k.pc + 4) ∧
         CoresBut c s t ∧ MemSame s t)))

/-- R166, R470: a write of a curve entry through the window of a stopped lamp engine stores it, at most 65,536, and a read leaves the
curves; both advance the index, which stays at 256. A waiting event of MEM is pushed once its rill has room. R123, R170, R124: LTEMP
completes: a record without a thermal state stays as it is; one that has it takes the temperature, the time and the state that the
thresholds give, and counts an entry into FAULT. LSUB holds the batch and answers 0, or 1 while 32 are held. Model choices: log entry 28. -/
def Obligations.LampReportsAndWindowsComplete : Prop :=
  (∀ (s : State), s.Inv → 
     (∀ v : BitVec 17, s.powered .lamp = true → s.fld F.LAMP_CURVE_ADDR_INDEX ≤ 256 →
       let i := s.fld F.LAMP_CURVE_ADDR_INDEX
       let curve := s.fld F.LAMP_CURVE_ADDR_CURVE
       (s.bit F.LAMP_CTRL_RUN = false →
         Answers (exec (.lampCurveData true v) s) fun t =>
           t.fld F.LAMP_CURVE_ADDR_INDEX = min (i + 1) 256 ∧
           t.blk.lamp.curves = tput (fun k => 256 * (k % 512)) (512 * curve + i) (min v.toNat 65536) s.blk.lamp.curves ∧
           RegsBut [A.LAMP_CURVE_ADDR] s t ∧ MemSame s t) ∧
       (Answers (exec (.lampCurveData false v) s) fun t =>
           t.fld F.LAMP_CURVE_ADDR_INDEX = min (i + 1) 256 ∧ t.blk = s.blk ∧ RegsBut [A.LAMP_CURVE_ADDR] s t ∧ MemSame s t)) ∧
     (∀ (v : DWord) (vs : List DWord), s.powered .mem = true → s.evq .mem = v :: vs → s.bit F.MEM_EVT_EN = true →
       let n := rillNo (s.fld F.MEM_EVT_RILL)
       s.rillOn n = true → s.isPacket n = false → (s.rill n).pkt = none → s.rillFree n ≠ 0 → s.quiet n →
       Answers (exec (.eventQueueDrain 18) s) fun t =>
         t.evq .mem = vs ∧ t.rill n = { s.rill n with unread := (s.rill n).unread + 1 } ∧
         t.store.bytes (s.slotAddr n (s.rill n).wr) 8 = leBytes 8 (storedItem n v).toNat ∧
         MemBut (s.slotAddr n (s.rill n).wr) 8 s t ∧ CoresSame s t)) ∧
  (∀ (c : CoreId) (d a b : RegNo) (s : State), s.Inv → s.ready c = true →
     (let k := s.fed c [a, b]
      let i := (k.rd a).toNat
      let T := ((k.rd b).setWidth 16).toInt
      let fault := s.recS i 0x28
      let core := ({ k with loads := k.loads ++ [⟨[], .shared, 0⟩] } : Core).retire k.budgeted (k.pc + 4)
      s.lampTakes = true → i < 2 ^ 16 → (k.rd b).toNat < 2 ^ 16 → s.lampClean i → k.loads.length < 8 →
      (s.setCore c k).transactions < 192 →
       (s.therm i = none → exec (.ltemp c a b) s = .next (s.setCore c core)) ∧
       (∀ old, s.therm i = some old → s.bit F.LAMP_EVT_CFG_EN = false → s.fld F.LAMP_FAULT_NOW_COUNT < 2 ^ 17 - 1 →
         let stays : Prop := old.state = 2 ∧ fault - s.recU i 0x2A 2 < T
         let state := if stays ∨ fault ≤ T then 2 else if s.recS i 0x26 < T then 1 else 0
         Answers (exec (.ltemp c a b) s) fun t =>
           t.therm i = some { state := state, temp := some ((k.rd b).setWidth 16), since := s.now,
                              faults := if state = 2 ∧ old.state ≠ 2 then min (old.faults + 1) (2 ^ 32 - 1) else old.faults } ∧
           (∀ j, j ≠ i → t.therm j = s.therm j) ∧ t.core c = core ∧ CoresBut c s t ∧ MemSame s t ∧
           RegsBut [A.LAMP_FAULT_CNT, A.LAMP_FAULT_NOW, A.REC_DROPPED] s t ∧
           Counts A.LAMP_FAULT_CNT (if state = 2 ∧ old.state ≠ 2 then 1 else 0) s t ∧
           (state = 2 → old.state ≠ 2 → t.fld F.LAMP_FAULT_NOW_COUNT = s.fld F.LAMP_FAULT_NOW_COUNT + 1) ∧
           (state ≠ 2 → old.state = 2 → t.fld F.LAMP_FAULT_NOW_COUNT = s.fld F.LAMP_FAULT_NOW_COUNT - 1))) ∧
     (let k := s.fed c [d, a]
      let held := s.blk.lamp.held.length + (if s.blk.lamp.cur.isSome then 1 else 0)
      k.stores = [] → (k.rd a).toNat % 64 = 0 → s.reaches (k.rd a).toNat = true → s.powered .lamp = true →
       exec (.lsub c d a) s = .next
         (if held < 32 then
           let t := s.setCore c ((k.wr d 0).retire k.budgeted (k.pc + 4))
           { t with blk := { t.blk with lamp := { s.blk.lamp with held := s.blk.lamp.held ++ [k.rd a] } } }
          else s.setCore c ((k.wr d 1).retire k.budgeted (k.pc + 4)))))

/-! ### The lamp engine -/

/-- R119 to R121, R167 to R169, R171: LMIX and LMIXN of a usable record complete: the drive values and the flags of the conversion are
outstanding, an aged record is STALE, and the counters count a conversion in STALE and one that clamped. Nothing else changes. R174, R176,
R179, R181, R182: an entry of a CONVERT, FADE or STEPS batch whose input is readable, whose record is usable and whose output lies in
Basin or DRAM completes: its output stands there, and the batch counts it, with its flags. Model choices: log entry 28. -/
def Obligations.LampEntriesComplete : Prop :=
  (∀ (c : CoreId) (d a b : RegNo) (noderate : Bool) (s : State), s.Inv → s.ready c = true → s.lampTakes = true →
     isPair d = true → isPair b = true →
     let k := s.fed c (both d ++ a :: both b)
     let i := (k.rd a).toNat
     let th := (s.therm i).map (s.aged i)
     let r := s.convert i th (k.rdp b) noderate
     i < 2 ^ 16 → s.lampClean i → k.loads.length < 8 → (s.setCore c k).transactions < 192 →
     Answers (exec (if noderate then .lmixn c d a b else .lmix c d a b) s) fun t =>
       Only { (s.setCore c (({ k with loads := k.loads ++ [⟨[(d, hiWord r.drive), (d + 1, loWord r.drive)], .lamp,
           (if r.clamp then 1 else 0) + (if r.derate then 2 else 0) + (if r.tfault then 4 else 0)⟩] } : Core).retire
           k.budgeted (k.pc + 4))).blk with
           lamp := { s.blk.lamp with therm := tput (fun _ => none) i th s.blk.lamp.therm } }
         [A.LAMP_STALE_CNT, A.LAMP_CLAMP_CNT] s t ∧
       Counts A.LAMP_STALE_CNT (if th.any (·.state == 3) then 1 else 0) s t ∧ Counts A.LAMP_CLAMP_CNT (if r.clamp then 1 else 0) s t) ∧
  (∀ (s : State) (b : Batch), s.Inv → s.lampTakes = true → s.blk.lamp.cur = some b → b.status = none →
     let after (flags : Nat) : Option Batch := some { b with
       idx := b.idx + 1, flags := b.flags ||| flags,
       status := if b.idx + 1 = b.count then some (if b.errors = 0 then 0 else 1) else none }
     let through (i : Nat) (colour : DWord) : Converted := s.convert i ((s.therm i).map (s.aged i)) colour (b.bflags % 2 == 1)
     let list (dst n i D : Nat) (colour : Nat → DWord) (dwell : Nat → Nat) (t : State) : Prop :=
       let flags := (List.range n).foldl (fun f j => f ||| (through i (colour j)).bits) 0
       t.store.le dst 8 = n + flags * 2 ^ 8 + i * 2 ^ 16 + D * 2 ^ 32 ∧
       (∀ j < 16, t.store.w64 (dst + 8 + 8 * j) = if j < n then (through i (colour j)).drive else 0) ∧
       (∀ j < 16, t.store.le (dst + 0x88 + 2 * j) 2 = if j < n then dwell j else 0) ∧
       MemBut dst 168 s t ∧ CoresSame s t ∧ t.blk.lamp.cur = after flags
     (b.op = 1 →
       let a := b.src + 16 * b.idx
       let i := (s.dword (a + 8)).toNat
       let r := through i (s.dword a)
       s.readable a → s.readable (a + 8) → i < 2 ^ 16 → s.lampClean i → s.reaches (b.dst + 8 * b.idx) = true →
       Answers (exec (.convert 1) s) fun t =>
         t.store.w64 (b.dst + 8 * b.idx) = r.drive ∧ MemBut (b.dst + 8 * b.idx) 8 s t ∧ CoresSame s t ∧
         t.blk.lamp.cur = after r.bits) ∧
     (b.op = 2 →
       let a := b.src + 32 * b.idx
       let w := (s.dword (a + 16)).toNat
       let n := w / 2 ^ 16 % 2 ^ 5
       let D := w / 2 ^ 32
       (∀ j < 4, s.readable (a + 8 * j)) → w / 2 ^ 21 % 2 ^ 11 = 0 → s.dword (a + 24) = 0 → 1 ≤ n → n ≤ 16 →
       (∀ j < n, fadeDwell D n j ≤ 65535) → s.lampClean (w % 2 ^ 16) → (∀ j < 21, s.reaches (b.dst + 168 * b.idx + 8 * j) = true) →
       Answers (exec (.fade 1) s)
         (list (b.dst + 168 * b.idx) n (w % 2 ^ 16) D (fadeColour (s.dword a) (s.dword (a + 8)) n) (fadeDwell D n))) ∧
     (b.op = 3 →
       let a := b.src + 168 * b.idx
       let h := (s.dword a).toNat
       let n := h % 2 ^ 5
       let dwell (j : Nat) : Nat := (s.dword (a + 0x88 + 8 * (j / 4))).toNat / 2 ^ (16 * (j % 4)) % 2 ^ 16
       (∀ j < 21, s.readable (a + 8 * j)) → h / 2 ^ 5 % 2 ^ 3 = 0 → 1 ≤ n → n ≤ 16 →
       (∀ j < 16, n ≤ j → s.dword (a + 8 + 8 * j) = 0 ∧ dwell j = 0) → s.lampClean (h / 2 ^ 16 % 2 ^ 16) →
       (∀ j < 21, s.reaches (b.dst + 168 * b.idx + 8 * j) = true) →
       Answers (exec (.steps 1) s)
         (list (b.dst + 168 * b.idx) n (h / 2 ^ 16 % 2 ^ 16) (h / 2 ^ 32) (fun j => s.dword (a + 8 + 8 * j)) dwell)))

/-- R167 to R169: what a conversion gives. A channel that the record does not have gives 0; a channel it has gives the matrix sum, the
level, the gain, the compensation and the derating, each in full width, rounded once, and clamps above full scale. LMIXN leaves derating
out, and a record without a thermal state is neither compensated nor derated. R182: the last colour of a fade is its end, each field goes
there in equal steps rounded to the nearest, and the dwells add up to the time of the steps before the last. -/
def Obligations.ConversionResults : Prop :=
  (∀ (s : State) (i k : Nat) (th : Option Therm) (colour : DWord) (noderate : Bool), k < 4 →
     let r := s.convert i th colour noderate
     let chans := s.recU i 1 1 % 8
     let q16 (v : Nat) : Nat := (v * 65537 + 32768) / 2 ^ 16
     let decoded (j : Nat) : Nat :=
       let e := q16 (colour.toNat / 2 ^ (32 - 16 * j) % 2 ^ 16)
       let c := s.recU i 1 1 / 2 ^ 4 % 4
       if c = 0 then e else s.decodeCurve c e
     let sum : Int := s.recS i (4 + 6 * k) * decoded 0 + s.recS i (6 + 6 * k) * decoded 1 + s.recS i (8 + 6 * k) * decoded 2
     let mixed := (max 0 (min ((sum + 8192) / 2 ^ 14) 262143)).toNat
     let ck := match th with | some t => s.compensation i k t | none => 65536
     let dr := match th with | some t => if noderate then 65536 else s.derating i t | none => 65536
     let v := (mixed * q16 (colour.toNat / 2 ^ 48) * s.recU i 2 2 * ck * dr + 2 ^ 62) / 2 ^ 63
     r.drive.toNat / 2 ^ (16 * k) % 2 ^ 16 = (if chans ≤ k then 0 else if 65536 ≤ v then 65535 else v) ∧
     (65536 < v → k < chans → r.clamp = true) ∧ (noderate = true → r.derate = false ∧ r.tfault = false) ∧
     (noderate = false → (r.derate = true ↔ dr < 65536) ∧ (r.tfault = true ↔ th.any (·.state == 2)))) ∧
  (∀ (x y : DWord) (D n : Nat), 1 ≤ n → n ≤ 16 →
     fadeColour x y n (n - 1) = y ∧
     (∀ j < n, ∀ m < 4,
       let a : Int := (x.extractLsb' (16 * m) 16).toNat
       let b : Int := (y.extractLsb' (16 * m) 16).toNat
       (((fadeColour x y n j).extractLsb' (16 * m) 16).toNat : Int) = a + ((b - a) * (j + 1) * 2 + n) / (2 * n)) ∧
     ((List.range n).map (fadeDwell D n)).sum = D * (n - 1) / n)

/-- R161, R165, R174, R177, R178: a LOAD entry stores its record whole, valid or not, with the thermal state that KEEPTHERM leaves it; a
READ entry writes a record's 64 bytes and its two state doublewords. R176: a finished batch writes its RESULT, pushes its completion item
into its rill, and leaves the engine. Model choices: log entries 2 and 28. -/
def Obligations.LampMemoryAndBatchesComplete : Prop :=
  (∀ (s : State) (b : Batch), s.Inv → s.lampTakes = true → s.blk.lamp.cur = some b → b.status = none →
     let i := b.first + b.idx
     let after (errors : Nat) : Option Batch := some { b with
       idx := b.idx + 1, errors := errors, status := if b.idx + 1 = b.count then some (if errors = 0 then 0 else 1) else none }
     i < s.fld F.LAMP_RECCNT_COUNT →
     (b.op = 4 →
       let a := b.src + 64 * b.idx
       let bytes := (List.range 8).flatMap fun j => leBytes 8 (s.dword (a + 8 * j)).toNat
       let flags := (s.dword a).toNat % 4
       let put := tput (fun _ => none) i
       a % 8 = 0 → (∀ j < 8, s.readable (a + 8 * j)) → (s.therm i).all (·.state != 2) = true →
       Answers (exec (.lampLoad 1) s) fun t =>
         t.store.bytes (recKey i) 64 = bytes ∧ MemBut (recKey i) 64 s t ∧ RegsBut [] s t ∧ CoresSame s t ∧
         t.recValid i = (recordAccepted bytes && flags % 2 == 1) ∧
         t.blk.lamp.therm = (if recordAccepted bytes ∧ flags = 3 ∧ b.bflags / 2 % 2 = 1 ∧ (s.therm i).isSome then s.blk.lamp.therm
           else put (if recordAccepted bytes && flags == 3 then some { state := 3, temp := none, since := 0, faults := 0 } else none)
             (put none s.blk.lamp.therm)) ∧
         t.blk.lamp.cur = after (if recordAccepted bytes then b.errors else b.errors + 1)) ∧
     (b.op = 5 →
       let dst := b.dst + 80 * b.idx
       let valid := if s.recValid i then 2 ^ 8 else 0
       (∀ j < 8, s.recErr i j = 0) → (∀ j < 10, s.reaches (dst + 8 * j) = true) →
       Answers (exec (.lampRead 1) s) fun t =>
         t.store.bytes dst 64 = s.store.bytes (recKey i) 64 ∧ MemBut dst 80 s t ∧ CoresSame s t ∧
         (s.therm i = none → t.store.le (dst + 64) 8 = valid + 0x8000 * 2 ^ 16 + 0xFFFFFFFF * 2 ^ 32 ∧ t.store.le (dst + 72) 8 = 0) ∧
         (∀ th, s.therm i = some th → th.state < 4 → th.faults < 2 ^ 32 →
           t.store.le (dst + 72) 8 = th.faults ∧
           t.store.le (dst + 64) 8 = th.state + valid + 2 ^ 9 +
             (match th.temp with
               | some x => x.toNat * 2 ^ 16 + min ((s.now - th.since) / 10 ^ 9) (2 ^ 32 - 1) * 2 ^ 32
               | none => 0x8000 * 2 ^ 16 + 0xFFFFFFFF * 2 ^ 32)) ∧
         t.blk.lamp.cur = after b.errors)) ∧
  (∀ (s : State) (b : Batch) (st : Nat), s.Inv → s.blk.lamp.cur = some b → b.status = some st → b.written = false →
     4 ≤ b.rill → b.rill ≤ 63 → s.reaches (b.desc + 0x20) = true →
     let n := rillNo b.rill
     s.rillOn n = true → s.isPacket n = false → (s.rill n).pkt = none → s.rillFree n ≠ 0 → s.quiet n →
     Answers (exec .batchCompletion s) fun t =>
       t.store.bytes (b.desc + 0x20) 8 = leBytes 8 (st + b.flags * 2 ^ 8 + min b.errors 65535 * 2 ^ 16 + b.idx * 2 ^ 32) ∧
       t.store.bytes (s.slotAddr n (s.rill n).wr) 8 = leBytes 8 (storedItem n (BitVec.ofNat 64 (b.desc + st * 2 ^ 32))).toNat ∧
       t.rill n = { s.rill n with unread := (s.rill n).unread + 1 } ∧ t.blk.lamp.cur = none ∧
       Counts A.LAMP_BATCH_DONE 1 s t ∧ RegsBut [A.LAMP_BATCH_DONE, A.MEM_FLIP_CFG] s t ∧ CoresSame s t)

/-! ### Street services -/

/-- R201, R203, R204: an update writes the elevation and the azimuth of every enabled site and takes each site across its thresholds, with
one item for a crossing or a first state. A query runs until its result stands in `CORR_SOL_QEL`; a second one collides. R195, R196: a
load whose five parts can be read and whose records are all accepted puts the image in force and sets `RUN`. R202: from 2020 to 2099 the
elevation is within 0.05° of the true one, the azimuth within 0.1° while the sun stands below 80°, and refraction is added above −1° alone.
Model choices: log entries 5 and 29. -/
def Obligations.TablesAndSolarCommandsComplete : Prop :=
  (∀ (s : State) (v : Word), s.Inv →
     (let second := s.now / 10 ^ 9 * 10 ^ 9
      let on (n : Nat) : Bool := s.fld F.CORR_SOL_CFG_SITE_EN / 2 ^ n % 2 == 1
      let el (n : Nat) : Int := (s.sun n (s.utc second * 10 ^ 9)).1
      let state (n : Nat) : Nat := s.fld (F.CORR_SITE_STATE_STATE n)
      let falls (n : Nat) : Bool := if state n = 1 then el n < (s.reg (A.CORR_SITE_DUSK n)).toInt else el n ≤ (s.reg (A.CORR_SITE_DUSK n)).toInt
      let rises (n : Nat) : Bool := (s.reg (A.CORR_SITE_DAWN n)).toInt < el n
      let next (n : Nat) : Nat := if state n = 2 then (if rises n then 1 else 2) else if falls n then 2 else 1
      let item (n : Nat) : Option DWord :=
        let kind := if state n = 1 then (if falls n then 1 else 0) else if state n = 2 then (if rises n then 2 else 0)
          else if falls n then 4 else 3
        if on n && kind != 0 then some (BitVec.ofNat 64 (kind + n * 2 ^ 8 + (BitVec.ofInt 32 (el n)).toNat * 2 ^ 16)) else none
      s.corrWorks = true → s.bit F.CORR_CTRL_SOL_EN = true → s.timeSet = true →
      s.utc second % (s.fld F.CORR_SOL_CFG_PERIOD : Int) = 0 → s.rillOn (rillNo (s.fld F.CORR_SOL_CFG_RILL)) = false →
      Answers (exec .solarUpdate s) fun t =>
        (∀ n < 4, on n = true → t.reg (A.CORR_SITE_EL n) = BitVec.ofInt 32 (el n) ∧ t.fld (F.CORR_SITE_STATE_STATE n) = next n ∧
          t.blk.corr.azimuth[n]? = some (s.sun n (s.utc second * 10 ^ 9)).2) ∧
        t.blk.corr.items = s.blk.corr.items ++ (List.range 4).filterMap item ∧
        RegsBut ((List.range 4).flatMap fun n => [A.CORR_SITE_EL n, A.CORR_SITE_STATE n]) s t ∧ MemSame s t ∧ CoresSame s t) ∧
     (s.powered .corr = true → s.blk.corr.query = none →
       Answers (exec (.solarQuery v) s) fun t =>
         t.blk.corr.query = some (v.toNat * 2 ^ 32 + (s.reg A.CORR_SOL_QT_LO).toNat, s.fld F.CORR_SOL_QCTL_SITE) ∧
         t.bit F.CORR_SOL_QSTAT_BUSY = true ∧ t.bit F.CORR_SOL_QSTAT_DONE = false ∧ t.reg A.CORR_SOL_QT_HI = v ∧
         RegsBut [A.CORR_SOL_QT_HI, A.CORR_SOL_QSTAT] s t ∧ MemSame s t ∧ CoresSame s t) ∧
     (s.powered .corr = true → s.blk.corr.query.isSome = true →
       Answers (exec (.solarQuery v) s) fun t =>
         Only s.blk [A.CORR_SOL_QSTAT] s t ∧ t.bit F.CORR_SOL_QSTAT_COLLIDE = true) ∧
     (∀ q, s.blk.corr.query = some q → s.powered .corr = true →
       let sun := s.sun q.2 ((q.1 : Int) - s.taiUtc * 10 ^ 9)
       Answers (exec .solarQueryDone s) fun t =>
         Only { s.blk with corr := { s.blk.corr with query := none, queryAz := sun.2 } } [A.CORR_SOL_QEL, A.CORR_SOL_QSTAT] s t ∧
         t.reg A.CORR_SOL_QEL = BitVec.ofInt 32 sun.1 ∧ t.bit F.CORR_SOL_QSTAT_BUSY = false ∧ t.bit F.CORR_SOL_QSTAT_DONE = true)) ∧
  (∀ (s : State) (n : Nat) (utc : Int), 1577836800 * 10 ^ 9 ≤ utc → utc < 4102444800 * 10 ^ 9 →
     let high := Config.trueElevation (s.reg (A.CORR_SITE_LAT n)) (s.reg (A.CORR_SITE_LON n)) utc
     let around : Int := (Config.trueAzimuth (s.reg (A.CORR_SITE_LAT n)) (s.reg (A.CORR_SITE_LON n)) utc).val
     (∃ g : Int, (g - high).natAbs ≤ 50 ∧
       (s.sun n utc).1 = if s.bit F.CORR_SOL_CFG_REFR = true ∧ -1000 < g then g + Config.refraction g else g) ∧
     (80000 ≤ high ∨ (((s.sun n utc).2.toNat : Int) - around + 100) % 360000 ≤ 200)) ∧
  (∀ (s : State), s.Inv → s.powered .corr = true → s.bit F.CORR_STAT_LOADING = true →
     let at' (off n : Nat) : List DWord := (List.range n).map fun j => s.dword ((s.reg A.CORR_TBL_BASE).toNat + off + 8 * j)
     let nn := s.fld F.CORR_TBL_CNT1_NODES
     let ne := s.fld F.CORR_TBL_CNT1_EDGES
     let sizes := [(0, nn), (0x10000, (ne + 1) / 2), (0x30000, 2 * s.fld F.CORR_TBL_CNT2_SCHED), (0x31000, s.fld F.CORR_TBL_CNT2_HOL),
       (0x31400, 2 * s.fld F.CORR_TBL_CNT2_OFFS)]
     let nodes := at' 0 nn
     let edges := ((at' 0x10000 ((ne + 1) / 2)).flatMap fun d : DWord => [d.setWidth 32, (d >>> 32).setWidth 32]).take ne
     let sched := pairsOf (at' 0x30000 (2 * s.fld F.CORR_TBL_CNT2_SCHED))
     let hols := at' 0x31000 (s.fld F.CORR_TBL_CNT2_HOL)
     let offs := pairsOf (at' 0x31400 (2 * s.fld F.CORR_TBL_CNT2_OFFS))
     (∀ p ∈ sizes, ∀ j < p.2, s.readable ((s.reg A.CORR_TBL_BASE).toNat + p.1 + 8 * j)) →
     nodes.all (nodeOk ne) = true → edges.all (edgeOk nodes) = true → sched.all (schedOk (s.fld F.CORR_SOL_CFG_SITE_EN)) = true →
     hols.all holidayOk = true → (List.range offs.length).all (offsetOk offs) = true →
     Answers (exec .tableImageLoad s) fun t =>
       t.blk.corr.image = some ⟨nodes, edges, sched, hols, offs⟩ ∧ t.bit F.CORR_STAT_LOADED = true ∧ t.bit F.CORR_STAT_LOADING = false ∧
       t.bit F.CORR_CTRL_RUN = true ∧ t.blk = { s.blk with corr := t.blk.corr } ∧ RegsBut [A.CORR_STAT, A.CORR_CTRL] s t ∧ MemSame s t)

/-- R209, R211: an accepted presence event is consumed, and raises every node of its walk that does not pass through: a level never falls
and a hold never ends earlier. R211: a walk settles at most 256 nodes, its own node first, each once, and none behind the traffic but its
own. Model choices: log entry 29. -/
def Obligations.PresenceCompletes : Prop :=
  (∀ (s : State) (im : Image), s.Inv → s.blk.corr.image = some im → s.corrWorks = true → s.bit F.CORR_CTRL_COR_EN = true →
     s.blk.corr.held = none →
     let inn := rillNo (s.fld F.CORR_RILLS_EVT_IN)
     let out := rillNo (s.fld F.CORR_RILLS_COR_OUT)
     let v := (s.item inn).toNat
     let n := v / 2 ^ 6 % 2 ^ 14
     let r := im.nodes.getD n 0
     let prof := if v / 2 ^ 47 % 2 = 1 then v / 2 ^ 43 % 2 ^ 4 else nodeProfile r
     let level := s.fld (F.CORR_PROF_A_LEVEL prof)
     let hold := s.now + s.fld (F.CORR_PROF_B_HOLD prof) * 10 ^ 9
     let behind := if v / 2 ^ 42 % 2 = 1 then [] else ((im.edgesOf n).map (·.1)).filter fun m =>
       match (s.node m).seen with | some w => s.now ≤ w + s.fld F.CORR_TRACK_SECONDS * 10 ^ 9 | none => false
     let raised := (walk im behind (s.fld (F.CORR_PROF_A_LEAD prof)) 256 [(n, 0)] []).1.filter fun m =>
       match im.nodes[m]? with | some q => !(nodePass q) | none => false
     s.rillOn inn = true → (s.rill inn).unread ≠ 0 → s.itemClean inn → s.quiet inn → inn ≠ out → s.rillOn out = false →
     v / 2 ^ 30 % 2 ^ 12 = s.fld F.CORR_SEG_DS_SEGMENT → n < im.nodes.length → nodeValid r = true →
     v / 2 ^ 20 % 2 ^ 10 = 0x3FF ∨ v / 2 ^ 20 % 2 ^ 10 = nodeGroup r → v / 2 ^ 48 % 2 ^ 15 = 0 → level ≠ 0 →
     Answers (exec .presenceEvent s) fun t =>
       (t.rill inn).unread = (s.rill inn).unread - 1 ∧ Counts A.CORR_WALKS 1 s t ∧ (t.node n).seen = some s.now ∧
       (∀ m, m ≠ n → (t.node m).seen = (s.node m).seen) ∧
       (∀ m < 8192, (t.node m).lvl = (if m ∈ raised then max (s.node m).lvl level else (s.node m).lvl) ∧
         (t.node m).hold = (if m ∈ raised then max (s.node m).hold hold else (s.node m).hold)) ∧
       (t.blk.corr.held.isSome ↔ raised.any (fun m => (s.node m).lvl < level) = true) ∧
       RegsBut [A.CORR_WALKS, A.CORR_TRUNC, A.CORR_OUT_WAIT] s t ∧ MemSame s t ∧ CoresSame s t) ∧
  (∀ (im : Image) (behind : List Nat) (lead n : Nat),
     let settled := (walk im behind lead 256 [(n, 0)] []).1
     settled.length ≤ 256 ∧ settled.head? = some n ∧ settled.Nodup ∧ ∀ m ∈ settled.tail, m ∉ behind)

/-- R215, R216, R218: a report that CORR consumes coalesces with an open entry of its code and subject within the window, opens an entry
elsewhere, and counts as malformed where it is no report; FLT_FLUSH and a window that has passed close entries at the next tick. R206,
R212, R214, R216, R219: a tick lowers every node whose hold has ended and closes every fault entry that is flushed or whose window has
passed, in the order in which they were opened; what an output rill takes leaves the waiting items, on the rill sampled at the
write that set RUN (R195, R221). Model choices: log entry 29. -/
def Obligations.FaultsAndTicksComplete : Prop :=
  (∀ (s : State) (a b : DWord), s.Inv →
     (let inn := rillNo (s.fld F.CORR_RILLS_FLT_IN)
      let out := rillNo (s.fld F.CORR_RILLS_FLT_OUT)
      let slot (j : Nat) : Nat := s.slotAddr inn ((s.rill inn).rd + j)
      let v := a.toNat
      let code := v % 2 ^ 16
      let subj := b.toNat % 2 ^ 63 + v / 2 ^ 34 % 2 * 2 ^ 63
      let sev := v / 2 ^ 16 % 2 ^ 4
      let consumed (t : State) : Prop := (t.rill inn).unread = (s.rill inn).unread - 3 ∧ MemSame s t ∧ CoresSame s t
      s.corrWorks = true → s.bit F.CORR_CTRL_FLT_EN = true → s.rillOn inn = true → 3 ≤ (s.rill inn).unread → s.quiet inn → inn ≠ out →
      s.rillOn out = false → (∀ j < 3, s.isValid (slot j) = true ∧ weight (s.errAt (slot j)) = 0) →
      (s.store.w64 (slot 0)).toNat % 2 ^ 16 = 2 → s.store.w64 (slot 1) = a → s.store.w64 (slot 2) = b →
       (∀ e, s.blk.corr.faults.find? (fun e => e.phase == 0 && e.code == code && e.subj == subj) = some e → code ≠ 0 →
         v / 2 ^ 35 % 2 ^ 28 = 0 → s.now < e.opened + s.fld F.CORR_FLT_WIN_MS * 10 ^ 6 →
         Answers (exec .faultReport s) fun t =>
           consumed t ∧ Counts A.CORR_FLT_REPORTS 1 s t ∧ RegsBut [A.CORR_FLT_REPORTS] s t ∧
           t.blk.corr.faults = s.blk.corr.faults.map fun f =>
             if f.id = e.id then
               { f with
                 count := min (f.count + 1) (2 ^ 32 - 1), first := min f.first s.now, last := max f.last s.now, sev := max f.sev sev }
             else f) ∧
       (s.blk.corr.faults.find? (fun e => e.phase == 0 && e.code == code && e.subj == subj) = none → code ≠ 0 →
         v / 2 ^ 35 % 2 ^ 28 = 0 → s.blk.corr.faults.length < 4096 →
         Answers (exec .faultReport s) fun t =>
           consumed t ∧ Counts A.CORR_FLT_REPORTS 1 s t ∧ RegsBut [A.CORR_FLT_REPORTS, A.CORR_FLT_EVLOST] s t ∧
           t.blk.corr.faults = s.blk.corr.faults ++
             [⟨s.blk.corr.nextId, code, subj, sev, v / 2 ^ 20 % 2 ^ 14, 1, s.now, s.now, s.now, 0⟩]) ∧
       (code = 0 ∨ v / 2 ^ 35 % 2 ^ 28 ≠ 0 →
         Answers (exec .faultReport s) fun t =>
           consumed t ∧ Counts A.CORR_FLT_BADIN 1 s t ∧ RegsBut [A.CORR_FLT_BADIN] s t ∧ t.blk.corr = s.blk.corr)) ∧
     (s.powered .corr = true →
       Answers (exec .corrFltFlush s) fun t =>
         Only { s.blk with corr := { s.blk.corr with
           faults := s.blk.corr.faults.map fun e => if e.phase = 0 then { e with phase := 1 } else e } } [] s t)) ∧
  (∀ (s : State), s.Inv →
     (let tick := s.now / 10 ^ 7 * 10 ^ 7
      let ends (e : FaultEntry) : Bool := e.phase != 2 && (e.phase == 1 || e.opened + s.fld F.CORR_FLT_WIN_MS * 10 ^ 6 ≤ tick)
      s.corrWorks = true → s.blk.corr.held = none → s.bit F.CORR_CTRL_SCHED_EN = false →
      tick % 10 ^ 9 ≠ 0 ∨ s.bit F.CORR_CTRL_SOL_EN = false →
      s.rillOn (rillNo (s.fld F.CORR_RILLS_COR_OUT)) = false → s.rillOn (rillNo (s.fld F.CORR_RILLS_FLT_OUT)) = false →
      Answers (exec .corrTick s) fun t =>
        (s.bit F.CORR_CTRL_COR_EN = true → s.timeSet = true → ∀ m < 8192,
          t.node m = if (m, true) ∈ s.blk.corr.nodes.map (fun e => (e.1, e.2.any fun n => n.lvl != 0 && n.hold ≤ tick))
            then { s.node m with lvl := 0 } else s.node m) ∧
        (s.bit F.CORR_CTRL_COR_EN = false → t.blk.corr.nodes = s.blk.corr.nodes) ∧
        (s.bit F.CORR_CTRL_FLT_EN = true →
          t.blk.corr.faults = s.blk.corr.faults.map (fun e => if ends e then { e with phase := 2 } else e) ∧
          t.blk.corr.events = s.blk.corr.events ++ (s.blk.corr.faults.filter ends).map fun e => .summary e.id) ∧
        RegsBut [A.CORR_OUT_WAIT] s t ∧ MemSame s t ∧ CoresSame s t) ∧
     (∀ v, s.blk.corr.items = [v] → s.powered .corr = true → s.blk.corr.held = none → s.blk.corr.events = [] →
       let n := s.corrRill F.CORR_SOL_CFG_RILL
       s.rillOn n = true → s.isPacket n = false → (s.rill n).pkt = none → s.rillFree n ≠ 0 → s.quiet n →
       Answers (exec .corrResultPush s) fun t =>
         t.blk.corr.items = [] ∧ t.rill n = { s.rill n with unread := (s.rill n).unread + 1 } ∧
         t.store.bytes (s.slotAddr n (s.rill n).wr) 8 = leBytes 8 (storedItem n v).toNat ∧
         MemBut (s.slotAddr n (s.rill n).wr) 8 s t ∧ RegsBut [A.MEM_FLIP_CFG] s t ∧ CoresSame s t))

/-! ### Show services -/

/-- R226, R238 to R245: at T − L a walk starts for the next instant, with the newest frames. It maps the points of an output entry of a
pixel port: each is sampled from its stream's frame, converted through its lamp record at the level in force, and its bytes stand in the
port's back buffer in list order. R235 to R237: PMAP stores the row data of a packet in the buffer that no walk holds and that is not the
newest; the marker ends the frame, which becomes the newest. A packet that finds no room is dropped and counted. Model choices: log entry
30. -/
def Obligations.WalksAndVideoComplete : Prop :=
  (∀ (s : State) (T k : Nat) (p : Fin 16), s.Inv → s.flk.next = some (T, k) → s.running .flk = true → s.working .pmap = true →
     s.blk.shows.walk = none → s.blk.shows.walked ≠ some k → T ≤ s.now + (s.reg A.FLK_LAT).toNat → s.now ≤ T →
     s.bit F.FLK_SYNC_EN = false → s.bit F.PMAP_CTRL_PXP_EN = true → s.powered .pxp = true → s.lampTakes = true →
     let bank := s.fld F.PMAP_BANK_NEXT
     let table := (s.reg (A.PMAP_OTAB bank)).toNat
     let point (j : Nat) : Nat := (s.reg (A.PMAP_PLIST bank)).toNat + 8 * j
     let e := outEntry (s.dword table) (s.dword (table + 8))
     let stream (j : Nat) : Fin 2 := Fin.ofNat 2 ((s.dword (point j)).toNat / 2 ^ 48)
     let record (j : Nat) : Nat := (s.dword (point j)).toNat / 2 ^ 32 % 2 ^ 16
     let frame (n : Fin 2) : Nat := (s.ingest n).newest.getD 0
     let codes (j : Nat) : List Nat :=
       s.sampled (stream j) (frame (stream j)) ((s.dword (point j)).toNat % 2 ^ 16) ((s.dword (point j)).toNat / 2 ^ 16 % 2 ^ 16)
     let level := s.fld F.PMAP_LEVEL_LEVEL
     let drive (j : Nat) : DWord := (s.convert (record j) ((s.therm (record j)).map (s.aged (record j)))
       (BitVec.ofNat 64 (level * 2 ^ 48 + (codes j).getD 0 0 * 2 ^ 32 + (codes j).getD 1 0 * 2 ^ 16 + (codes j).getD 2 0)) false).drive
     s.readable table → s.readable (table + 8) → s.fld (F.PMAP_OCNT_COUNT bank) = 1 → s.fld (F.PMAP_PCNT_COUNT bank) = e.count → e.count ≤ 2097152 →
     e.ok = true → e.kind = 2 → e.dest = p.val → e.count * e.size ≤ 16384 →
     (∀ j < e.count, s.readable (point j) ∧ s.vidOn (stream j) = true ∧ (s.ingest (stream j)).newest.isSome = true ∧
       s.lampClean (record j)) →
     (∀ n : Fin 2, s.vidOn n = true → 16 ≤ s.vidW n ∧ 16 ≤ s.vidH n ∧ (s.vidRgb n = true ∨ s.vidW n % 2 = 0) ∧
       ∀ j < s.vidSize n / 8, s.readable (s.vidBuf n (frame n) / 8 * 8 + 8 * j)) →
     (∀ n : Fin 2, s.vidBuf n (frame n) % 8 = 0) →
     Answers (exec .walkStart s) fun t =>
       t.store.bytes (portKey p (1 - (s.port p).front) 0) (e.count * e.size) = (List.range e.count).flatMap (fun j => e.bytes (drive j)) ∧
       MemBut (portKey p (1 - (s.port p).front) 0) (e.count * e.size) s t ∧ (t.port p).back = e.count * e.size ∧
       t.blk.shows.walk = some ⟨k, s.now, bank, level, e.count, 1, 0, 1, none, 0, false, false, true, none⟩ ∧
       t.blk.shows.walked = some k ∧ t.bit F.PMAP_STAT_WALK = true ∧ t.fld F.PMAP_STAT_BANK = bank ∧
       (∀ n : Fin 2, s.vidOn n = true → (t.ingest n).held = (s.ingest n).newest ∧ (t.ingest n).new = false) ∧ CoresSame s t) ∧
  (∀ (s : State) (n : Fin 2) (rtp : List Byte) (buf : Nat), s.Inv → s.working .pmap = true → s.vidOn n = true →
     (Answers (exec (.videoPacket n rtp true) s) fun t =>
         Counts (A.PMAP_IN_DROP n) 1 s t ∧ RegsBut [A.PMAP_IN_DROP n, A.PMAP_IN_FRAMES n, A.PMAP_IN_GAPS n] s t ∧ MemSame s t ∧ CoresSame s t) ∧
     (let len := beAt 14 2 rtp
      let line := beAt 16 2 rtp % 2 ^ 15
      let off := beAt 18 2 rtp
      let seq := beAt 12 2 rtp * 2 ^ 16 + beAt 2 2 rtp
      let a := s.vidBuf n buf + line * s.vidStride n + (if s.vidRgb n then 3 * off else 5 * off / 2)
      rtp.length = 20 + len → beAt 0 1 rtp % 16 = 0 → off < 2 ^ 15 → line < s.vidH n →
      pixelBytes (s.vidRgb n) off + len ≤ pixelBytes (s.vidRgb n) (s.vidW n) → (s.ingest n).cur = none → (s.ingest n).expect.getD seq = seq →
      buf < 3 → (s.ingest n).held ≠ some buf → (s.ingest n).newest ≠ some buf →
      (∀ b < buf, (s.ingest n).held = some b ∨ (s.ingest n).newest = some b) → (∀ j < len / 8 + 2, s.reaches (a / 8 * 8 + 8 * j) = true) →
      Answers (exec (.videoPacket n rtp false) s) fun t =>
        t.store.bytes a len = rtp.drop 20 ∧ MemBut a (wholeFrom a len) s t ∧ CoresSame s t ∧
        (beAt 1 1 rtp < 128 → t.ingest n = { s.ingest n with cur := some (buf, beAt 4 4 rtp, seq, [0], false) }) ∧
        (128 ≤ beAt 1 1 rtp → Counts (A.PMAP_IN_FRAMES n) 1 s t ∧
          t.ingest n = { s.ingest n with newest := some buf, new := true, expect := some ((seq + 1) % 2 ^ 32) })))

/-- R246, R247: a walk that waits for the send ring goes on once its record fits. In the ring stand the header of a UDP packet and the data
packet's layers as the template holds them, but for the three lengths, the count of property values and the synchronization address, and
from offset 256 the slots of its universes; ETHB's show queue holds the send, with the sequence number of the frame. R227: a walk that is mapped is done once its last data packet has left. R249: once 10 s have
passed since the last, universe discovery sends the universes of the bank in use in rising order, 512 to a page; a page longer than `MAXLEN` has
status 2 (R311).
Model choices: log entries 6 and 30. -/
def Obligations.ShowNetworkCompletes : Prop :=
  (∀ (s : State) (w : Walk), s.Inv → s.blk.shows.walk = some w →
     (∀ g, w.gather = some g → w.waiting = true → s.running .pmap = true → w.mapped = false → s.fld (F.PMAP_OCNT_COUNT w.bank) ≤ w.entry →
       s.fld (F.PMAP_PCNT_COUNT w.bank) ≤ w.point →
       let size := (256 + g.body.length + 63) / 64 * 64
       let o := if w.head + size ≤ 0x800000 then w.head else 0
       let a := (s.reg A.PMAP_SACN_BUF).toNat + o
       let tpl := (s.reg A.PMAP_SACN_TPL).toNat
       s.ringFree o size = true → s.working .ethb = true → s.gated 3 = false → g.slots ≤ 512 → g.body.length ≤ 262144 →
       (∀ j < 17, s.readable (tpl / 8 * 8 + 8 * j)) → (∀ j < size / 8, s.reaches (a + 8 * j) = true) →
       Answers (exec .sendRingSpace s) fun t =>
         (t.eth 1).shows.dropLast = (s.eth 1).shows ∧ (t.eth 1).shows.length = (s.eth 1).shows.length + 1 ∧
         (∀ x, (t.eth 1).shows.getLast? = some x → x.d.kind = 2 ∧ x.d.hdr = a ∧ x.d.body = a + 256 ∧ x.d.blen = g.body.length ∧
           x.d.seg = g.slots + 1 ∧ x.d.paStart = g.univ ∧ x.d.pbValue = w.frame % 256 ∧ x.sent = 0) ∧
         (let hdr := t.store.bytes (a + 42) 125
          beAt 16 2 hdr = 0x7000 + 110 + g.slots ∧ beAt 38 2 hdr = 0x7000 + 88 + g.slots ∧ beAt 115 2 hdr = 0x7000 + 11 + g.slots ∧
          beAt 123 2 hdr = g.slots + 1 ∧ beAt 109 2 hdr = s.fld F.FLK_SYNC_UNIV ∧
          ∀ i < 125, [16, 17, 38, 39, 109, 110, 115, 116, 123, 124].contains i = false →
            hdr[i]? = some (BitVec.ofNat 8 (s.byteAt (tpl + i)))) ∧
         beAt 12 2 (t.store.bytes a 42) = 0x0800 ∧ t.store.byte (a + 14) = 0x45 ∧ t.store.byte (a + 23) = 17 ∧
         t.store.bytes (a + 256) g.body.length = g.body ∧ MemBut a size s t ∧ CoresSame s t ∧
         t.blk.shows.walk = some { w with gather := none, waiting := false, head := o + size, mapped := true }) ∧
     (w.mapped = true → w.done = none → (s.eth 1).shows.all (fun d => d.status.isSome || !(d.raw.isEmpty)) = true →
       Answers (exec .walkDone s) fun t =>
         Only { s.blk with shows := { s.blk.shows with walk := some { w with done := some s.now } } } [A.PMAP_WALK_MAX] s t ∧
         (t.reg A.PMAP_WALK_MAX).toNat = max (s.reg A.PMAP_WALK_MAX).toNat (min (s.now - w.start) (2 ^ 32 - 1)))) ∧
  (∀ (s : State), s.Inv → s.working .pmap = true → s.bit F.PMAP_SACN_CFG_DISC_EN = true → s.blk.shows.disc + 10 ^ 10 ≤ s.now →
     s.working .ethb = true → s.gated 3 = false →
     let bank := s.fld F.PMAP_STAT_BANK
     let table := (s.reg (A.PMAP_OTAB bank)).toNat
     let tpl := (s.reg A.PMAP_SACN_TPL).toNat + 0x100
     let entry (j : Nat) : OutEntry := outEntry (s.dword (table + 16 * j)) (s.dword (table + 16 * j + 8))
     let universes := (List.range (s.fld (F.PMAP_OCNT_COUNT bank))).filterMap fun j =>
       if (entry j).ok && (entry j).kind == 1 then some (entry j).dest else none
     let order := sorted universes
     let pages := (universes.length + 511) / 512
     (∀ j < 2 * s.fld (F.PMAP_OCNT_COUNT bank), s.readable (table + 8 * j)) → tpl % 8 = 0 → (∀ j < 14, s.readable (tpl + 8 * j)) →
     Answers (exec .universeDiscovery s) fun t =>
       t.blk.shows.disc = s.now ∧ t.store = s.store ∧ CoresSame s t ∧
       order.Perm universes ∧ order.Pairwise (· ≤ ·) ∧
       (t.eth 1).shows = (s.eth 1).shows ++ (List.range pages).map fun i =>
         ⟨0, sendDescOf [], discoveryPage ((List.range 112).map fun j => BitVec.ofNat 8 (s.byteAt (tpl + j))) i (pages - 1)
           ((order.drop (512 * i)).take 512), 0, 0,
           if 162 + 2 * ((order.drop (512 * i)).take 512).length + 4 ≤ s.fld (F.ETH_CFG_MAXLEN 1) then none else some 2, false⟩)

/-- R227, R228, R254: at the instant of a frame whose walk was done in time FLK commits it: every port that transmits and is free swaps
its buffers and sends. A frame that is late is counted, and the ports send their last frame again. R250, R254, R255: a port's frame ends
once its time is over. A request is queued unless one is in hand; the port sends it after a DMX frame where there is time for it; a
captured response is stored 0x200 above the request, and its result waits for its rill. Inputs reach their block while their pad bank is usable (R519).
Model choices: log entry 30. -/
def Obligations.ShowOutputCompletes : Prop :=
  (∀ (s : State) (T k : Nat), s.Inv → s.flk.next = some (T, k) → s.working .flk = true → T ≤ s.now → s.bit F.FLK_EVT_EN = false →
     s.bit F.FLK_SYNC_EN = false → s.flk.after = false → s.blk.oxb.showHold = none → (s.eth 0).waiting = [] → (s.eth 1).waiting = [] →
     let onTime := s.blk.shows.walk.any fun w => w.frame == k && w.done.any fun d => d + (s.reg A.FLK_GUARD).toNat ≤ T
     let sends (p : Fin 16) : Bool := s.transmits p k && !(s.port p).busy
     let n (p : Fin 16) : Nat := if onTime then (s.port p).back else s.fld (F.PXP_LEN_BYTES p)
     Answers (exec .commitInstant s) fun t =>
       (∀ p : Fin 16, t.port p = if sends p then
         { s.port p with
           front := if onTime then 1 - (s.port p).front else (s.port p).front
           back := if onTime then 0 else (s.port p).back
           sends := some (s.now + s.portTime p (n p))
           began := s.now
           wire := s.portFrame p (if onTime then 1 - (s.port p).front else (s.port p).front) (n p)
           dmxEnded := false } else s.port p) ∧
       (∀ p : Fin 16, sends p = true → n p < 2 ^ 15 → t.fld (F.PXP_LEN_BYTES p) = n p) ∧
       (∀ p : Fin 16, Counts (A.PXP_OVERRUN p) (if s.transmits p k && (s.port p).busy then 1 else 0) s t) ∧
       Counts A.FLK_LATE (if onTime then 0 else 1) s t ∧ t.flk.frame = (if onTime then k else s.flk.frame) ∧
       t.flk.used = some k ∧ t.flk.last = T ∧ t.blk.shows.walk = none ∧ MemSame s t ∧ CoresSame s t ∧
       RegsBut ([A.PXP_STAT, A.PMAP_STAT, A.FLK_LATE] ++ (List.range 16).flatMap fun p => [(F.PXP_LEN_BYTES p).addr, A.PXP_OVERRUN p]) s t) ∧
  (∀ (s : State) (p : Fin 16) (v : Word) (kind : BitVec 2) (bytes : List Byte), s.Inv → s.powered .pxp = true →
     let q := s.port p
     let withPort (q : Port) : Blocks := { s.blk with shows := { s.blk.shows with ports := s.blk.shows.ports.set p q } }
     (∀ e, q.sends = some e → e ≤ s.now →
       Answers (exec (.portFrameEnd p) s) fun t =>
         Only (withPort { q with sends := none, dmxEnded := s.fld (F.PXP_CFG_MODE p) == 2 }) [A.PXP_STAT] s t ∧
         (t.reg A.PXP_STAT).getLsbD p = false) ∧
     (q.rdm = .idle →
       Answers (exec (.rdmRequest p v) s) fun t =>
         Only (if v.getLsbD 31 then withPort { q with rdm := .queued } else s.blk) [A.PXP_RDM_CTL p] s t ∧
         t.fld (F.PXP_RDM_CTL_LEN p) = v.toNat % 2 ^ 9 ∧ t.fld (F.PXP_RDM_CTL_RILL p) = v.toNat / 2 ^ 16 % 2 ^ 6) ∧
     (q.rdm ≠ .idle →
       Answers (exec (.rdmRequest p v) s) fun t => Only s.blk [A.PXP_ERR] s t ∧ t.bit F.PXP_ERR_RDMBUSY = true) ∧
     (let n := s.fld (F.PXP_RDM_CTL_LEN p)
      let a := (s.reg (A.PXP_RDM_ADDR p)).toNat
      q.rdm = .queued → s.working .pxp = true → s.gated 2 = false → q.dmxEnded = true → q.sends = none →
      (s.portNext p).all ((192 + 44 * n + 2800 + 11500) * 1000 ≤ ·) = true → (∀ j < n / 8 + 2, s.readable (a / 8 * 8 + 8 * j)) →
       Answers (exec (.rdmStart p) s) fun t =>
         let time := (s.fld (F.PXP_DMX_BREAK p) + s.fld (F.PXP_DMX_MAB p) + 44 * n) * 1000
         Only (withPort { q with rdm := .running (s.now + time), began := s.now, wire := (List.range n).map fun j => BitVec.ofNat 8 (s.byteAt (a + j)),
                                 dmxEnded := false }) [A.PXP_STAT] s t ∧ (t.reg A.PXP_STAT).getLsbD p = true) ∧
     (let a := (s.reg (A.PXP_RDM_ADDR p)).toNat + 0x200
      ∀ fin, q.rdm = .running fin → rdmEndFrom fin kind ≤ s.now → (kind = 2 ∨ s.bankB = true) → (kind = 2 → bytes = []) → bytes.length ≤ 257 → s.memIdle →
      s.rillOn (rillNo (s.fld (F.PXP_RDM_CTL_RILL p))) = false →
      (∀ j < bytes.length / 8 + 2, s.reaches (a / 8 * 8 + 8 * j) = true) →
       Answers (exec (.rdmResponseEnd p kind bytes) s) fun t =>
         t.store.bytes a bytes.length = bytes ∧ MemBut a (wholeFrom a bytes.length) s t ∧
         t.port p = { q with rdm := .result (BitVec.ofNat 64 (kind.toNat + bytes.length * 4 + p.val * 2 ^ 12)) } ∧
         (t.reg A.PXP_STAT).getLsbD p = false ∧ RegsBut [A.PXP_STAT, A.MEM_FLIP_CFG] s t ∧ CoresSame s t))

/-- R230, R231: a request is kept until its source is ready; a switch takes the source at once, or after the walk in progress. An edge
within 2 % of the period is accepted, another is not; a miss puts the source in use into holdover, and the eighth loses it. R256 to R259:
a valid frame of timecode gives its count; the decoder locks at the second and unlocks after four frame times without one. From the second
on, a frame that follows the last fires every cue that it reaches, in table order. Inputs reach their block while their pad bank is usable (R519).
Model choices: log entry 30. -/
def Obligations.FrameLockCompletes : Prop :=
  (∀ (s : State) (n : Nat) (r : BitVec 2) (ltc : Bool), s.Inv → s.working .flk = true →
     (r ≠ 3 →
       Answers (exec (.sourceRequest r) s) fun t =>
         t.fld F.FLK_SRC_REQ = r.toNat ∧ t.flk.want = (if r.toNat = s.flkSrc then none else some r.toNat) ∧
         t.bit F.FLK_STAT_PENDING = (r.toNat != s.flkSrc && !(s.sourceReady r.toNat)) ∧
         RegsBut [A.FLK_SRC, A.FLK_STAT] s t ∧ MemSame s t ∧ CoresSame s t) ∧
     (Answers (exec (.sourceRequest 3) s) fun t =>
         t.bit F.FLK_ERR_SRCREQ = true ∧ t.flk = s.flk ∧ RegsBut [A.FLK_ERR, A.REC_DROPPED] s t ∧ MemSame s t ∧ CoresSame s t) ∧
     (n < 3 → s.flk.want = some n → s.sourceReady n = true →
       (s.blk.shows.walk = none →
         Answers (exec .sourceSwitch s) fun t =>
           t.fld F.FLK_STAT_SRC = n ∧ t.bit F.FLK_STAT_PENDING = false ∧ t.bit F.FLK_STAT_HOLDOVER = false ∧ t.flk.want = none ∧
           t.flk.first = true ∧ Counts A.FLK_SWITCHES 1 s t ∧ RegsBut [A.FLK_STAT, A.FLK_SWITCHES] s t ∧ MemSame s t ∧ CoresSame s t) ∧
       (s.blk.shows.walk.isSome = true →
         Answers (exec .sourceSwitch s) fun t =>
           Only { s.blk with shows := { s.blk.shows with flk := { s.flk with after := true } } } [] s t)) ∧
     (s.flkSrc ≠ 1 → s.flk.want = none → s.bankA = true →
       (s.flk.gen.edge = none →
         Answers (exec .genlockEdge s) fun t =>
           t.flk = { s.flk with gen := { s.flk.gen with edge := some s.now } } ∧ t.store = s.store ∧ CoresSame s t) ∧
       (∀ e, s.flk.gen.edge = some e →
         let off : Int := ((s.now - e) * s.fld F.FLK_RATE_NUM : Nat) - (s.fld F.FLK_RATE_DEN * 10 ^ 9 : Nat)
         Answers (exec .genlockEdge s) fun t =>
           t.store = s.store ∧ CoresSame s t ∧
           t.flk.gen =
             (if 50 * off.natAbs ≤ s.fld F.FLK_RATE_DEN * 10 ^ 9 then
               { edge := some s.now, stamp := some s.now, ivals := ((s.now - e) :: s.flk.gen.ivals).take 8,
                 good := min (s.flk.gen.good + 1) 4, misses := 0, locked := s.flk.gen.locked || s.flk.gen.good == 3 }
              else { s.flk.gen with edge := some s.now, good := 0 }))) ∧
     (let src := if ltc then 2 else 1
      let track := s.flkTrack src
      let period := s.flkPm track
      track.locked = true → (track.stamp.getD 0) * 100 * period.2 + (100 * track.misses + 102) * period.1 ≤ s.now * 100 * period.2 →
       (track.misses < 7 →
         Answers (exec (.sourceMiss ltc) s) fun t =>
           t.flkTrack src = { track with misses := track.misses + 1 } ∧ Counts A.FLK_SRC_MISS 1 s t ∧
           (s.flkSrc = src → t.bit F.FLK_STAT_HOLDOVER = true) ∧ RegsBut [A.FLK_SRC_MISS, A.FLK_STAT] s t ∧ MemSame s t ∧ CoresSame s t) ∧
       (track.misses = 7 → s.flkSrc = src →
         Answers (exec (.sourceMiss ltc) s) fun t =>
           t.flkTrack src = { track with misses := 8, locked := false, good := 0 } ∧ t.flk.want = some (s.fld F.FLK_SRC_FALLBACK) ∧
           t.bit F.FLK_ERR_SRCLOST = true ∧ t.bit F.FLK_STAT_HOLDOVER = false ∧ Counts A.FLK_SRC_MISS 1 s t ∧ MemSame s t ∧ CoresSame s t))) ∧
  (∀ (s : State) (hh mm ss ff : BitVec 6) (reverse : Bool), s.Inv → s.flkSrc ≠ 2 → s.flk.want = none →
     (let rate := s.fld F.FLK_LTC_CFG_RATE
      let tm := 60 * hh.toNat + mm.toNat
      let fps := if rate = 0 then 24 else if rate = 1 then 25 else 30
      let c := fps * (3600 * hh.toNat + 60 * mm.toNat + ss.toNat) + ff.toNat - (if rate = 2 then 2 * (tm - tm / 10) else 0)
      s.bankA = true → s.working .flk = true → s.bit F.FLK_LTC_CFG_EN = true → c < 2 ^ 24 →
       (s.bit F.FLK_STAT_LTC_LOCK = false → s.ltcFollows = false →
         Answers (exec (.ltcFrame hh mm ss ff reverse) s) fun t =>
           t.fld F.FLK_LTC_COUNT_COUNT = c ∧ t.bit F.FLK_LTC_COUNT_REV = reverse ∧ t.flk.valid = 1 ∧ t.flk.ltcStamp = s.now ∧
           t.flk.ltc.edge = some s.now ∧ RegsBut [A.FLK_LTC_COUNT, A.FLK_STAT] s t ∧ MemSame s t ∧ CoresSame s t) ∧
       (∀ p, s.flk.cPrev = some p → s.bit F.FLK_STAT_LTC_LOCK = true ∨ s.ltcFollows = true → reverse = false → s.flk.newLock = false → p < c → c ≤ p + 2 →
         s.bit F.FLK_CUE_RILL_EN = true → s.rillOn (rillNo (s.fld F.FLK_CUE_RILL_RILL)) = false →
         let fired := s.flk.cues.filter fun q => p < q.toNat % 2 ^ 24 && q.toNat % 2 ^ 24 ≤ c
         (s.evq .flk).length + fired.length ≤ 16 → fired.all (!·.getLsbD 24) = true →
         Answers (exec (.ltcFrame hh mm ss ff reverse) s) fun t =>
           t.fld F.FLK_LTC_COUNT_COUNT = c ∧ t.bit F.FLK_STAT_LTC_LOCK = true ∧ t.flk.cPrev = some c ∧
           t.evq .flk = s.evq .flk ++ fired.map (fun q =>
             BitVec.ofNat 64 (q.toNat % 2 ^ 24 + q.toNat / 2 ^ 32 % 2 ^ 16 * 2 ^ 32 + s.nextWalkFrame % 2 ^ 15 * 2 ^ 48)) ∧
           RegsBut [A.FLK_LTC_COUNT, A.FLK_STAT] s t ∧ MemSame s t ∧ CoresSame s t)) ∧
     (let period := ltcPeriod (s.fld F.FLK_LTC_CFG_RATE)
      s.running .flk = true → s.bit F.FLK_STAT_LTC_LOCK = true → s.flk.ltcStamp * period.2 + 4 * period.1 ≤ s.now * period.2 →
       Answers (exec .ltcUnlock s) fun t =>
         t.flk = { s.flk with valid := 0, newLock := true } ∧ t.bit F.FLK_STAT_LTC_LOCK = false ∧ Counts A.FLK_LTC_LOST 1 s t ∧
         RegsBut [A.FLK_STAT, A.FLK_LTC_LOST] s t ∧ MemSame s t ∧ CoresSame s t))

/-! ### The mesh radio -/

/-- R281, R283, R284: a read fills the window from the selected entry; command 2 writes the configuration and leaves what RAD has learned,
command 3 writes the whole entry but its reserved bytes, command 4 clears it. `NEWKEY` frees the counter slots of its entry and leaves it
without a counter; a block is armed where it lies above the ceiling in force and is not empty. Model choices: log entries 11 and 31. -/
def Obligations.RadioCommandsComplete : Prop :=
  ∀ (s : State) (k : Fin 8) (v : Word), s.Inv → s.powered .rad = true →
    let sel := s.fld F.RAD_NBR_SEL_INDEX
    let entry := nbrKey sel 0
    let window (o n : Nat) : List Byte := (((List.range 16).flatMap fun w => leBytes 4 (s.reg (A.RAD_NBR_D w)).toNat).drop o).take n
    let flags := leNat (window 0x0C 2)
    (Answers (exec .nbrRead s) fun t =>
      Only s.blk ((List.range 16).map A.RAD_NBR_D) s t ∧ ∀ w < 16, (t.reg (A.RAD_NBR_D w)).toNat = s.nbr sel (4 * w) 4) ∧
    (Answers (exec .nbrWriteConfig s) fun t =>
      t.store.bytes entry 0x0C = window 0 0x0C ∧ t.nbr sel 0x0C 2 = flags % 8 + s.nbr sel 0x0C 2 / 8 % 4 * 8 ∧
      t.store.bytes (entry + 0x0E) 4 = window 0x0E 4 ∧ MemBut entry 0x12 s t ∧ t.blk = s.blk ∧ RegsBut [] s t) ∧
    (Answers (exec .nbrWriteAll s) fun t =>
      t.store.bytes entry 0x0C = window 0 0x0C ∧ t.nbr sel 0x0C 2 = flags % 32 ∧ t.store.bytes (entry + 0x0E) 0x26 = window 0x0E 0x26 ∧
      t.nbr sel 0x34 4 = 0 ∧ t.store.bytes (entry + 0x38) 8 = window 0x38 8 ∧ MemBut entry 64 s t ∧ t.blk = s.blk ∧ RegsBut [] s t) ∧
    (s.blk.rad.queue.all (·.nbr != sel) = true → sel < 512 →
      Answers (exec .nbrClear s) fun t =>
        (∀ o < 64, t.nbr sel o 1 = if o = 0x12 ∨ o = 0x13 then 0xFF else 0) ∧ MemBut entry 64 s t ∧ t.blk = s.blk ∧ RegsBut [] s t) ∧
    (s.blk.rad.queue.all (·.key != k.val) = true → v.toNat % 16 = k.val + 8 →
      Answers (exec (.newkey v) s) fun t =>
        (∀ i < 512, ∀ o ∈ [0x12, 0x13], t.nbr i o 1 = if s.nbr i o 1 = k.val then 0xFF else s.nbr i o 1) ∧
        MemOutside ((List.range 512).map fun i => (nbrKey i 0x12, 2)) s t ∧ t.reg (A.RAD_KEY_FC k) = 0 ∧ t.reg (A.RAD_KEY_CEIL k) = 0 ∧
        t.blk.rad.armed.getLsbD k = false ∧ t.blk.rad.stalled.getLsbD k = false ∧
        RegsBut [A.RAD_KEY_FC k, A.RAD_KEY_CEIL k, A.RAD_STAT] s t ∧ CoresSame s t) ∧
    (let base := (s.reg (A.RAD_KEY_NEXT_BASE k)).toNat
     (s.blk.rad.armed.getLsbD k = false → s.blk.rad.stalled.getLsbD k = false → (s.reg (A.RAD_KEY_CEIL k)).toNat ≤ base → base < v.toNat →
       Answers (exec (.keyBlockArm k v) s) fun t =>
         t.blk.rad.armed = s.blk.rad.armed ||| BitVec.twoPow 8 k ∧ t.reg (A.RAD_KEY_NEXT_CEIL k) = v ∧
         RegsBut [A.RAD_KEY_NEXT_CEIL k] s t ∧ MemSame s t ∧ CoresSame s t) ∧
     (s.blk.rad.armed.getLsbD k = true ∨ base < (s.reg (A.RAD_KEY_CEIL k)).toNat ∨ v.toNat ≤ base →
       Answers (exec (.keyBlockArm k v) s) fun t => Only s.blk [A.RAD_ERR] s t ∧ t.bit F.RAD_ERR_CEIL = true))

/-- R275, R277, R278, R290: RAD accepts a descriptor that keeps its ranges and whose header agrees with it, and queues the frame. A frame
whose EXPIRE passes, or that is too old for a sleepy neighbour, leaves the queue with status 2, its RESULT and its item. A lent buffer is in
hand. Model choices: log entries 7, 11 and 31. -/
def Obligations.RadioQueuesComplete : Prop :=
  ∀ (s : State) (desc : Word) (f : RadFrame), s.Inv →
    (let n := rillNo (s.fld F.RAD_RILLS_TXREQ)
     let a := (s.item n).toNat % 2 ^ 32
     let at' (x m : Nat) : List Byte := (List.range m).map fun j => BitVec.ofNat 8 (s.byteAt (x + j))
     let u (o w : Nat) : Nat := leNat (at' (a + o) w)
     let g : RadFrame := { desc := a, nbr := u 0 2, key := u 2 1, level := u 3 1, flags := u 4 1, retries := u 5 1, expire := u 0x10 8,
                           hdr := at' (u 8 4) (u 0x0C 2), payload := at' (u 8 4 + u 0x0C 2) (u 0x0E 2), since := s.now, tries := 0,
                           fc := none, seq := none }
     s.working .rad = true → s.blk.rad.done = [] → s.rillFree (rillNo (s.fld F.RAD_RILLS_TXDONE)) ≠ 0 →
     s.blk.rad.queue.length < 1024 → s.rillOn n = true → (s.rill n).unread ≠ 0 →
     s.itemClean n → s.quiet n → a % 64 = 0 → (∀ j < 8, s.readable (a + 8 * j)) →
     (∀ j < (u 0x0C 2 + u 0x0E 2) / 8 + 2, s.readable (u 8 4 / 8 * 8 + 8 * j)) → radDescOk (at' a 64) = true →
     s.headerOk g.key g.level g.hdr.length g.hdr = true →
     ((s.radiosTo g.nbr).isEmpty = true ∨ (s.radiosTo g.nbr).any (fun r => s.frameLen g r ≤ s.frameLimit r) = true) →
     Answers (exec .txRequest s) fun t =>
       t.blk.rad = { s.blk.rad with queue := s.blk.rad.queue ++ [g] } ∧ (t.rill n).unread = (s.rill n).unread - 1 ∧ MemSame s t ∧
       RegsBut [] s t ∧ CoresSame s t) ∧
    (let txdone := rillNo (s.fld F.RAD_RILLS_TXDONE)
     let done (t : State) : Prop :=
       t.blk.rad.queue = s.blk.rad.queue.erase f ∧
       t.store.bytes (desc.toNat + 0x20) 8 = leBytes 8 (2 + f.tries % 8 * 2 ^ 8 + f.fc.getD 0 * 2 ^ 32) ∧
       Pushed txdone (BitVec.ofNat 64 (desc.toNat + 2 * 2 ^ 32 + f.tries % 8 * 2 ^ 40)) s t ∧
       MemOutside [(desc.toNat + 0x20, 8), (s.nextSlot txdone, 8)] s t ∧ RegsBut [A.MEM_FLIP_CFG] s t ∧ CoresSame s t
     s.powered .rad = true → s.waitingFrame desc.toNat = some f → f.desc = desc.toNat → desc.toNat % 64 = 0 →
     s.reaches (desc.toNat + 0x20) = true → s.blk.rad.done = [] → s.takes txdone →
      (f.expire ≠ 0 → f.expire < s.now → Answers (exec (.frameExpire desc) s) done) ∧
      (s.nbrFlag f.nbr 2 = true → f.since + s.fld F.RAD_SLEEPY_MAXAGE * 10 ^ 9 < s.now → Answers (exec (.sleepyMaxage desc) s) done)) ∧
    (let n := rillNo (s.fld F.RAD_RILLS_RXFREE)
     s.working .rad = true → s.rillOn n = true → (s.rill n).unread ≠ 0 → s.itemClean n → s.quiet n →
     Answers (exec .rxfreeBuffer s) fun t =>
       t.blk.rad.bufs = (if (s.item n).toNat < s.fld F.RAD_RXBUF_CNT_COUNT then s.blk.rad.bufs ++ [(s.item n).toNat] else s.blk.rad.bufs) ∧
       Counts A.RAD_RX_NOBUF (if (s.item n).toNat < s.fld F.RAD_RXBUF_CNT_COUNT then 0 else 1) s t ∧
       (t.rill n).unread = (s.rill n).unread - 1 ∧ RegsBut [A.RAD_RX_NOBUF] s t ∧ MemSame s t ∧ CoresSame s t)

/-- R269, R270, R286 to R288, R292: a bank is requested; one whose header and cells are accepted waits for its switch. A dwell of the scan
goes on to the next channel; a neighbour unheard for 3 × KA is adrift; firmware adopts a time parent; a recalibration runs with the grant
and reports its end. Model choices: log entries 11 and 31. -/
def Obligations.RadioScheduleComplete : Prop :=
  ∀ (s : State) (next : Bool) (n : Fin 512) (p : BitVec 10) (radio : BitVec 2), s.Inv →
    (s.powered .rad = true →
      Answers (exec (.scheduleBankRequest next) s) fun t =>
        Only { s.blk with rad := { s.blk.rad with loading := some (if next then 1 else 0), next := none } }
          [A.RAD_SCHED_BANK, A.RAD_STAT] s t ∧ t.fld F.RAD_SCHED_BANK_NEXT = (if next then 1 else 0) ∧
        t.bit F.RAD_STAT_SWITCHPEND = true) ∧
    (∀ b, s.blk.rad.loading = some b →
      let a := (s.reg (if b = 0 then A.RAD_SCHED_BASE0 else A.RAD_SCHED_BASE1)).toNat
      let w := (s.dword a).toNat
      let hops (o m : Nat) : List Nat := (List.range m).map fun j => s.byteAt (a + o + j)
      let sub := hops 0x40 (w % 2 ^ 8)
      let ghz := hops 0xC0 (w / 2 ^ 8 % 2 ^ 5)
      let frames := (List.range 4).map fun i => (s.dword (a + 8 + 8 * i)).toNat
      let cells := (List.range (w / 2 ^ 16 % 2 ^ 12)).map fun j => s.dword (a + 0x100 + 8 * j)
      s.powered .rad = true → a % 64 = 0 → w / 2 ^ 13 % 2 ^ 3 = 0 → w / 2 ^ 28 = 0 → sub ≠ [] → sub.length ≤ 128 → ghz ≠ [] →
      ghz.length ≤ 16 → cells.length ≤ 2048 → (∀ c ∈ sub, c < 128) → (∀ c ∈ ghz, 11 ≤ c ∧ c ≤ 26) → (∀ l ∈ frames, l < 2 ^ 16) →
      (∀ j < 32 + cells.length, s.readable (a + 8 * j)) → cells.all (cellOk frames) = true →
      Answers (exec .scheduleBankLoaded s) fun t =>
        Only { s.blk with rad := { s.blk.rad with loading := none, next := some (b, ⟨sub, ghz, frames, cells⟩) } } [] s t) ∧
    (∀ bank, s.blk.rad.bank = some bank → s.running .rad = true → s.bit F.RAD_STAT_SCANNING = true →
      s.blk.rad.scanSince + s.fld F.RAD_SCAN_DWELL * 10 ^ 6 ≤ s.now → bank.sub ≠ [] →
      Answers (exec .scanDwell s) fun t =>
        Only { s.blk with rad := { s.blk.rad with scanCh := (s.blk.rad.scanCh + 1) % bank.sub.length, scanSince := s.now } } [] s t) ∧
    (let ka := s.nbr n 0x10 2
     let evt := rillNo (s.fld F.RAD_RILLS_EVT)
     s.running .rad = true → s.bit F.RAD_CTRL_ROLE = false → s.nbrFlag n 0 = true → s.nbrFlag n 3 = false → ka ≠ 0 →
     s.nbr n 0x38 8 + 3 * ka * 10 ^ 8 ≤ s.now → s.takes evt → s.evq .rad = [] →
     Answers (exec (.neighbourAdrift n) s) fun t =>
       t.nbrFlag n 3 = true ∧ Pushed evt (BitVec.ofNat 64 (1 + n.val * 2 ^ 8)) s t ∧
       MemOutside [(nbrKey n 0x0C, 2), (s.nextSlot evt, 8)] s t ∧ RegsBut [A.MEM_FLIP_CFG] s t ∧ CoresSame s t) ∧
    (s.powered .rad = true → s.blk.rad.asn = s.slotNow → p.toNat < 512 → s.fld F.RAD_SYNC_PARENT < 512 →
      Answers (exec (.parentAdopt p) s) fun t =>
        t.fld F.RAD_SYNC_PARENT = p.toNat ∧ t.fld F.RAD_SYNC_MISS = 0 ∧ t.nbrFlag p.toNat 4 = true ∧
        (p.toNat ≠ s.parent → t.nbrFlag s.parent 4 = false) ∧ t.blk.rad.base = (if p.toNat = s.parent then s.blk.rad.base else s.ownBase s.now) ∧
        MemOutside [(nbrKey p.toNat 0x0C, 2), (nbrKey s.parent 0x0C, 2)] s t ∧ RegsBut [A.RAD_SYNC] s t ∧ CoresSame s t) ∧
    (s.powered .rad = true → s.bit F.RAD_STAT_CALBUSY = false → s.fld F.MEM_MAINT_STAT_GRANT = 0 → (∀ a ∈ [1, 2, 3], s.maintQueued a = false) →
      Answers (exec (.recalRequest radio) s) fun t =>
        Only { s.blk with rad := { s.blk.rad with cal := radio.toNat, calRuns := true } } [A.RAD_CAL, A.RAD_STAT, A.MEM_MAINT_STAT] s t ∧
        t.bit F.RAD_STAT_CALBUSY = true ∧ t.fld F.MEM_MAINT_STAT_GRANT = 4) ∧
    (let evt := rillNo (s.fld F.RAD_RILLS_EVT)
     s.powered .rad = true → s.blk.rad.calRuns = true → s.fld F.MEM_MAINT_STAT_GRANT = 4 → s.blk.rad.cal < 4 → s.takes evt →
     s.evq .rad = [] →
     Answers (exec .recalEnd s) fun t =>
       t.blk.rad.calRuns = false ∧ t.bit F.RAD_STAT_CALBUSY = false ∧ t.fld F.MEM_MAINT_STAT_GRANT = 0 ∧
       Pushed evt (BitVec.ofNat 64 (10 + s.blk.rad.cal * 2 ^ 32)) s t ∧ MemBut (s.nextSlot evt) 8 s t ∧
       RegsBut [A.RAD_STAT, A.MEM_MAINT_STAT, A.MEM_FLIP_CFG] s t ∧ CoresSame s t)

/-- R269 to R271, R277: a slot whose only cell in use is a transmit cell of radio 0 sends the first frame of its queue on the channel that
the hopping sequence gives, once; an unsecured frame that asks for no acknowledgement completes with status 0. R278, R280: an unsecured
data frame for the module that comes in the window of a listening radio, from a sender that is no neighbour, goes into the oldest lent
buffer behind its record, and its item into the rill of frames without a class. Model choices: log entries 7, 11 and 31. -/
def Obligations.RadioAirCompletes : Prop :=
  (∀ (s : State) (late : BitVec 3) (bank : Bank) (slot : Nat) (c : DWord) (f : RadFrame), s.Inv →
     let asn := slot % 2 ^ 40
     let hop := if c.toNat / 2 ^ 26 % 4 = 2 then bank.ghz else bank.sub
     let chan := hop.getD ((asn + c.toNat / 2 ^ 16 % 2 ^ 7) % max 1 hop.length) 0
     let sof : Int := s.ownBase s.now + (slot : Int) * s.slotNs + s.fld F.RAD_TMPL_A_TXOFF * 1000
     let txdone := rillNo (s.fld F.RAD_RILLS_TXDONE)
     s.working .rad = true → s.bit F.RAD_CTRL_ROLE = false → s.slotNow = some slot → s.blk.rad.asn ≠ some slot →
     s.blk.rad.acts = Vector.replicate 3 .idle → s.blk.rad.done = [] → s.blk.rad.next = none → s.blk.rad.bank = some bank →
     s.bit F.OXB_CFG_AUTOSAFE = false → s.fld F.RAD_CTRL_RADIO_EN = 1 → s.gated 0 = false → s.blk.rad.calRuns = false →
     late.getLsbD 0 = false → (bank.cellsAt asn 0).head? = some c → cellTx c = true → cellShared c = false → cellPolled c = false →
     cellAdv c = false → s.blk.rad.queue.find? (·.nbr == cellNbr c) = some f → f.key = 0xFF → f.flags = 0 → s.nbrFlag f.nbr 2 = false →
     f.expire = 0 → s.frameLen f 0 ≤ s.frameLimit 0 → (bank.cellsAt asn 0).all (fun d => !(cellTx d && cellShared d)) = true →
     s.reaches (f.desc / 8 * 8 + 0x20) = true → s.takes txdone → f.desc < 2 ^ 32 →
     Answers (exec (.radioSlot late) s) fun t =>
       t.blk.rad.asn = some slot ∧ t.blk.rad.sent[0] = some ⟨f.hdr ++ f.payload ++ fcsOf (s.fcsLen 0) (f.hdr ++ f.payload), chan, sof⟩ ∧
       t.blk.rad.queue.length + 1 = s.blk.rad.queue.length ∧ Counts A.RAD_TX_OK 1 s t ∧
       Pushed txdone (BitVec.ofNat 64 (f.desc + (f.tries + 1) % 8 * 2 ^ 40)) s t ∧
       MemOutside [(f.desc / 8 * 8 + 0x20, 8), (s.nextSlot txdone, 8)] s t ∧ RegsBut [A.RAD_TX_OK, A.MEM_FLIP_CFG] s t ∧ CoresSame s t) ∧
  (∀ (s : State) (r : Fin 3) (psdu : List Byte) (sof : BitVec 64) (rssi : BitVec 16) (lqi : BitVec 8) (m : Mhr) (buf : Nat) (bufs : List Nat),
     s.Inv → s.running .rad = true → s.bit F.RAD_STAT_SCANNING = false → sof.toNat ≤ s.now → s.blk.rad.bufs = buf :: bufs →
     psdu.length + s.fcsLen r ≤ s.frameLimit r →
     parseMhr none psdu = some m → m.version = 2 → m.ftype = 1 → m.sec = false → m.ackReq = false → s.forUs m = true → s.sender m = none →
     s.classOf 1 (psdu.drop m.len) = none → m.len ≤ psdu.length →
     let rill := rillNo (s.fld F.RAD_RX_CFG_DEFRILL)
     s.blk.rad.arrived.all (·.rill != s.fld F.RAD_RX_CFG_DEFRILL) = true →
     let a := (s.reg A.RAD_RXBUF_BASE).toNat + 2112 * buf
     s.takes rill → (∀ j < 64 + psdu.length, s.reaches (a + j) = true) →
     ∀ listen ∈ (match s.blk.rad.acts[r] with
       | .listens _ chan centre half _ _ _ _ got => [(chan, centre, half, got)]
       | _ => []),
     listen.2.2.2 = false → ((sof.toNat : Int) - listen.2.1).natAbs ≤ listen.2.2.1 → buf < 2 ^ 16 →
     Answers (exec (.radioFrameReceive r psdu true sof rssi lqi) s) fun t =>
       t.store.bytes (a + 64) psdu.length = psdu ∧ t.store.le a 8 = sof.toNat ∧ t.store.le (a + 0x18) 2 = 0x3FF ∧
       t.store.le (a + 0x1A) 2 = m.len % 2 ^ 16 ∧ t.store.le (a + 0x1C) 2 = (psdu.length - m.len) % 2 ^ 16 ∧
       t.store.le (a + 0x1F) 1 = listen.1 % 2 ^ 8 ∧ t.store.le (a + 0x20) 2 = rssi.toNat ∧ t.store.le (a + 0x22) 1 = lqi.toNat ∧
       Pushed rill (BitVec.ofNat 64 (buf + psdu.length % 2 ^ 12 * 2 ^ 16 + 15 * 2 ^ 28 + 0x3FF * 2 ^ 32)) s t ∧
       t.blk.rad.bufs = bufs ∧ Counts A.RAD_RX_OK 1 s t ∧ MemOutside [(a, (64 + psdu.length + 7) / 8 * 8), (s.nextSlot rill, 8)] s t ∧
       RegsBut [A.RAD_RX_OK, A.MEM_FLIP_CFG] s t ∧ CoresSame s t)

/-! ### Ethernet and network time -/

/-- R297, R299, R300, R305 to R309, R313: the next frame of a send leaves, padded and stamped: the frame of a kind 0 descriptor, or a
segment of a TCP or UDP send. A send that has ended writes RESULT and its item. A pause ends after its time; a link that goes up takes the
speed of its interface, and one that goes down ends the sends in the middle of which it goes down; the MDIO master runs one operation at a
time; an address of the bridge that has not been seen for `AGE` leaves the table. R298, R299, R301, R303: a frame that is too short or too
long, or whose FCS is wrong, counts and is dropped; a pause frame pauses the port; a frame that no filter lets in counts. A frame to the
port's own address that no rule takes goes behind its record into the buffer that queue 0 has in hand, and its item into the queue's rill. Inputs reach their block while their pad bank is usable (R519);
an MDIO read then returns ones, which is the model's deduction from the idle level (log entry 44). Model choices: log entries 32 and 44. -/
def Obligations.EthernetCompletes : Prop :=
  (∀ (s : State) (x : Fin 2) (q : Fin 4) (d : Send) (n : Nat) (speed : BitVec 2) (v : Word) (data : BitVec 16), s.Inv →
     let p := s.eth x
     let port (f : EthPort → EthPort) : Blocks :=
       { s.blk with net := { s.blk.net with ports := s.blk.net.ports.set x (f p) } }
     let bytes (a n : Nat) : List Byte := (List.range n).map fun j => BitVec.ofNat 8 (s.byteAt (a + j))
     let stamp := s.now + s.fld (F.ETH_TSLAT_TX x)
     let frame := match d.d.kind with
       | 0 => singleFrame d.d (bytes d.d.hdr d.d.hlen) (bytes d.d.body d.d.blen)
       | 1 => tcpSegment d.d d.sent (bytes d.d.hdr d.d.hlen) (bytes (d.d.body + d.sent * d.d.seg) (min d.d.seg (d.d.blen - d.sent * d.d.seg)))
       | _ => udpSegment d.d d.sent (bytes d.d.hdr d.d.hlen) (bytes (d.d.body + d.sent * d.d.seg) (min d.d.seg (d.d.blen - d.sent * d.d.seg)))
     let wire := finishFrame d.d stamp frame
     (∀ c ∈ [(Instr.ethSingleFrame x q.castSucc, 0), (.tcpSegmentation x q 1, 1), (.udpSegmentation x q.castSucc 1, 2)],
       d.d.kind = c.2 → p.tx[q] = some d → d.status = none → d.raw = [] → d.sent < d.d.frames → s.running (ethBlock x) = true →
       s.linkUp x = true → s.paused x = false → s.txFirst x (.queue q) = true → p.launch = none →
       (s.eth 0).waiting = [] → (s.eth 1).waiting = [] →
       (∀ j < d.d.hlen / 8 + 2, s.readable (d.d.hdr / 8 * 8 + 8 * j)) →
       (∀ j < d.d.blen / 8 + 2, s.readable (d.d.body / 8 * 8 + 8 * j)) →
       Answers (exec c.1 s) fun t =>
         Only (port fun p => { p with
           last := some ⟨wire ++ List.replicate (60 - wire.length) 0, stamp, false⟩
           tx := p.tx.set q (some { d with
             sent := d.sent + 1
             stamp := if d.sent = 0 then stamp else d.stamp
             status := if d.sent + 1 = d.d.frames then some 0 else none }) }) [A.ETH_TX_FRAMES x] s t ∧
         Counts (A.ETH_TX_FRAMES x) 1 s t) ∧
     (∀ st, d.status = some st →
       let done := rillNo (s.fld (F.ETH_TQ_CFG_DONE x q))
       p.tx[q] = some d → d.written = false → d.d.flag 3 = false → s.powered (ethBlock x) = true → d.addr % 64 = 0 → d.addr < 2 ^ 32 →
       s.reaches (d.addr + 0x30) = true → s.takes done → (s.eth 0).waiting = [] → (s.eth 1).waiting = [] →
       Answers (exec (.ethTxComplete x q.castSucc) s) fun t =>
         (t.eth x) = { p with tx := p.tx.set q none } ∧
         t.store.bytes (d.addr + 0x30) 8 = leBytes 8 (BitVec.ofNat 64 (st + d.sent * 2 ^ 32)).toNat ∧
         Pushed done (BitVec.ofNat 64 (d.addr + st * 2 ^ 32)) s t ∧
         MemOutside [(d.addr + 0x30, 8), (s.nextSlot done, 8)] s t ∧ RegsBut [A.MEM_FLIP_CFG] s t ∧ CoresSame s t) ∧
     (s.powered (ethBlock x) = true → s.paused x = true → p.pauseEnd ≤ s.now → p.launchLate = [] →
       (s.eth 0).waiting = [] → (s.eth 1).waiting = [] →
       Answers (exec (.pauseEnd x) s) fun t => Only s.blk [A.ETH_STAT x] s t ∧ t.paused x = false ∧ t.linkUp x = s.linkUp x) ∧
     (s.powered (ethBlock x) = true → s.fld (F.ETH_CFG_IF x) ≠ 0 → (s.eth 0).waiting = [] → (s.eth 1).waiting = [] →
       Answers (exec (.linkChange x true speed) s) fun t =>
         Only s.blk [A.ETH_STAT x] s t ∧ t.linkUp x = true ∧ t.paused x = s.paused x ∧
         t.fld (F.ETH_STAT_SPEED x) =
           (if s.fld (F.ETH_CFG_IF x) = 1 then 3 else if s.fld (F.ETH_CFG_IF x) = 2 then 2 else min speed.toNat 2)) ∧
     (s.powered (ethBlock x) = true →
       let cut (e : Send) : Send := if e.status = none ∧ 0 < e.sent then { e with status := some 1 } else e
       Answers (exec (.linkChange x false speed) s) fun t =>
         Only (port fun p => { p with tx := p.tx.map (·.map cut), shows := p.shows.map cut }) [A.ETH_STAT x] s t ∧ t.linkUp x = false) ∧
     (s.powered .etha = true →
       Answers (exec (.mdioOperation v) s) fun t =>
         if s.bit F.ETHA_MDIO_STAT_BUSY = true then t = s
         else Only s.blk [A.ETHA_MDIO_CMD, A.ETHA_MDIO_STAT] s t ∧ t.fld F.ETHA_MDIO_CMD_DATA = v.toNat % 2 ^ 16 ∧
           t.fld F.ETHA_MDIO_CMD_REG = v.toNat / 2 ^ 16 % 2 ^ 5 ∧ t.fld F.ETHA_MDIO_CMD_PHY = v.toNat / 2 ^ 21 % 2 ^ 5 ∧
           t.fld F.ETHA_MDIO_CMD_OP = v.toNat / 2 ^ 26 % 4 ∧ t.fld F.ETHA_MDIO_CMD_C45 = v.toNat / 2 ^ 28 % 2 ∧
           t.bit F.ETHA_MDIO_STAT_BUSY = v.getLsbD 31) ∧
     (s.powered .etha = true → s.bit F.ETHA_MDIO_STAT_BUSY = true →
       Answers (exec (.mdioDone data) s) fun t =>
         Only s.blk [A.ETHA_MDIO_STAT] s t ∧ t.bit F.ETHA_MDIO_STAT_BUSY = false ∧ t.bit F.ETHA_MDIO_STAT_DONE = true ∧
         t.fld F.ETHA_MDIO_STAT_DATA =
           if s.fld F.ETHA_MDIO_CMD_OP = 2 then (if s.bankA then data.toNat else 0xFFFF) else s.fld F.ETHA_MDIO_STAT_DATA) ∧
     (s.powered .etha = true →
       Answers (exec .bridgeAge s) fun t =>
         Only { s.blk with net := { s.blk.net with
           table := s.blk.net.table.filter fun e => s.now < e.seen + s.fld F.ETHA_BR_CFG_AGE * 10 ^ 9 } } [] s t)) ∧
  (∀ (s : State) (x : Fin 2) (f : List Byte) (full : Bool) (i : Nat), s.Inv → s.working (ethBlock x) = true →
     let be (o n : Nat) : Nat := ((f.drop o).take n).foldl (fun v b => 256 * v + b.toNat) 0
     let own := s.fld (F.ETH_MAC_HI_ADDR x) * 2 ^ 32 + s.fld (F.ETH_MAC_LO_ADDR x)
     let fits := 60 ≤ f.length ∧ f.length + 4 ≤ s.fld (F.ETH_CFG_MAXLEN x)
     let counts (o : Host.Outcome State Fault Refusal) (a : Nat) : Prop := Answers o fun t => Only s.blk [a] s t ∧ Counts a 1 s t
     (f.length < 60 → ∀ good, counts (exec (.ethFrameReceive x f good full) s) (A.ETH_RX_RUNT x)) ∧
     (60 ≤ f.length → s.fld (F.ETH_CFG_MAXLEN x) < f.length + 4 → ∀ good,
       counts (exec (.ethFrameReceive x f good full) s) (A.ETH_RX_TOOLONG x)) ∧
     (fits → s.bit F.ETHA_BR_CFG_FWD = false → counts (exec (.ethFrameReceive x f false full) s) (A.ETH_RX_FCS x)) ∧
     (fits → be 12 2 = 0x8808 → full = true → counts (exec (.ethFrameReceive x f true full) s) (A.ETH_RX_FIFO x)) ∧
     (fits → be 12 2 = 0x8808 → full = false → be 14 2 = 1 → be 0 6 = 0x0180C2000001 →
       (be 16 2 = 0 → (s.eth x).launchLate = [] ∧ (s.eth 0).waiting = [] ∧ (s.eth 1).waiting = []) →
       Answers (exec (.ethFrameReceive x f true full) s) fun t =>
         Only { s.blk with net := { s.blk.net with ports := s.blk.net.ports.set x { s.eth x with
           pauseEnd := s.now + be 16 2 * 64 * s.byteTime x / 10 } } } [A.ETH_STAT x] s t ∧
         (t.paused x = true ↔ be 16 2 ≠ 0) ∧ t.linkUp x = s.linkUp x) ∧
     (fits → be 12 2 ≠ 0x8808 → be 12 2 ≠ 0x8100 → s.bit F.ETHA_BR_CFG_FWD = false →
       (be 0 6 ≠ own → be 0 6 / 2 ^ 40 % 2 = 0 →
         counts (exec (.ethFrameReceive x f true full) s) (A.ETH_RX_FILTERED x)) ∧
       (be 0 6 = own → own / 2 ^ 40 % 2 = 0 → be 12 2 ≠ 0x0800 → s.bit (F.ETH_PTPQ_EN x) = false →
         (∀ r < 16, s.bit (F.ETH_RULE_A_EN x r) = false) → s.bit (F.ETH_RQ_CFG_EN x 0) = true → (s.eth x).inHand[0] = some i →
         full = false → f.length + 32 ≤ 2048 → (s.eth x).items.all (·.1 != 0) = true →
         let done := rillNo (s.fld (F.ETH_RQ_CFG_DONE x 0))
         let a := (s.reg (A.ETH_RQ_BASE x 0)).toNat + i * (if s.bit (F.ETH_RQ_CFG_BIG x 0) then 10240 else 2048)
         s.takes done → (∀ j < 32 + f.length, s.reaches (a + j) = true) → a % 8 = 0 →
         Answers (exec (.ethFrameReceive x f true full) s) fun t =>
           t.store.bytes (a + 32) f.length = f ∧ t.store.le a 8 = (s.now - s.fld (F.ETH_TSLAT_RX x)) % 2 ^ 64 ∧
           t.store.le (a + 8) 2 = f.length ∧ t.store.le (a + 10) 6 = x.val * 2 ^ 32 + 0xFF * 2 ^ 40 ∧
           (t.eth x) = { s.eth x with inHand := (s.eth x).inHand.set 0 none } ∧
           Pushed done (BitVec.ofNat 64 (i % 2 ^ 16 + f.length * 2 ^ 16 + x.val * 2 ^ 33)) s t ∧
           Counts (A.ETH_RX_FRAMES x) 1 s t ∧ MemOutside [(a, (32 + f.length + 7) / 8 * 8), (s.nextSlot done, 8)] s t ∧
           RegsBut [A.ETH_RX_FRAMES x, A.MEM_FLIP_CFG] s t ∧ CoresSame s t)))

/-- R318 to R326: `SET` and `STEP` move the time base and the offset of every tracker. The first measurement of a tracker gives its offset; a
later one corrects offset and rate by the residual and, of the tracker in use, steers the time base. Sources are switched or waited for; a
tracker without measurements holds over; the edges on the pulse pins are taken and given. Inputs reach their block while their pad bank is usable (R519).
Model choices: log entry 32. -/
def Obligations.NetworkTimeCompletes : Prop :=
  ∀ (s : State) (k : Fin 3) (hi : Word) (sel : BitVec 2), s.Inv → s.powered .tsu = true → s.bit F.TSU_EVT_EN = false →
    let tsu (f : Tsu → Tsu) : Blocks := { s.blk with net := { s.blk.net with tsu := f s.blk.net.tsu } }
    let shown := [A.TSU_STAT, A.TSU_RATE] ++ [0, 1, 2].flatMap fun j => [A.TSU_T_X j, A.TSU_T_Y j, A.TSU_T_N j]
    let clamp (m z : Int) : Int := max (-m) (min z m)
    let q := s.tsu.trk[k]
    let st := s.fld ⟨A.TSU_STAT, 8 + 3 * k.val, 3⟩
    let state (t : State) : Nat := t.fld ⟨A.TSU_STAT, 8 + 3 * k.val, 3⟩
    let using_ := s.fld F.TSU_STAT_SEL
    let arg : Nat := (s.reg A.TSU_ARG_HI).toNat * 2 ^ 32 + (s.reg A.TSU_ARG_LO).toNat
    let entered (v : Nat) : Tracker := if st = v then q else { q with inside := 0, outside := 0 }
    let alone := s.met.interval = none ∧ s.running .flk = false ∧ s.bit F.BON_CFG_FOLLOW = false ∧
      ∀ c : CoreId, (match (s.core c).run with | .timeWait _ _ => false | _ => true) = true
    let moved (z : Int) (t : State) : Prop :=
      t.now = ((s.now : Int) + z).toNat % 2 ^ 64 ∧ Counts A.TSU_STEPS 1 s t ∧
      (∀ j : Fin 3, t.tsu.trk[j] = { s.tsu.trk[j] with
        x := s.tsu.trk[j].x + z * 65536
        seen := (max 0 ((s.tsu.trk[j].seen : Int) + z)).toNat }) ∧
      t.tsu.a = s.tsu.a ∧ RegsBut (shown ++ [A.TSU_STEPS, A.RAD_ASN_EPOCH_LO, A.RAD_ASN_EPOCH_HI]) s t ∧ MemSame s t ∧ CoresSame s t
    (alone → Answers (exec .timeSet s) fun t => moved ((arg : Int) - s.now) t ∧ t.now = arg ∧ t.bit F.TSU_STAT_SET = true) ∧
    (alone → 0 ≤ (s.now : Int) + (BitVec.ofNat 64 arg).toInt → (s.now : Int) + (BitVec.ofNat 64 arg).toInt < 2 ^ 64 →
      Answers (exec .timeStep s) fun t => moved (BitVec.ofNat 64 arg).toInt t ∧ t.bit F.TSU_STAT_SET = s.bit F.TSU_STAT_SET) ∧
    (using_ = k.val + 1 → q.n = 0 →
      Answers (exec .trackerAcquire s) fun t =>
        Only (tsu fun u => { u with trk := u.trk.set k (entered 1) }) shown s t ∧ state t = 1 ∧ t.fld F.TSU_STAT_SEL = using_) ∧
    (let o := (BitVec.ofNat 64 (hi.toNat * 2 ^ 32 + (s.reg (A.TSU_T_MO_LO k)).toNat)).toInt
     let at' : Nat := (s.reg (A.TSU_T_MT_HI k)).toNat * 2 ^ 32 + (s.reg (A.TSU_T_MT_LO k)).toNat
     let dt := (at' : Int) - q.t
     let pred := q.x + (q.y * dt).tdiv (10 ^ 9)
     let r := o * 65536 - pred
     let x := pred + r / 2 ^ s.fld F.TSU_SERVO_KP
     let y := q.y + ((r * 10 ^ 9).tdiv dt) / 2 ^ s.fld F.TSU_SERVO_KI
     let win := s.fld F.TSU_LOCK_NS * 65536
     let inside := if r.natAbs ≤ win ∧ x.natAbs ≤ win then min (q.inside + 1) 15 else 0
     let outside := if s.fld F.TSU_LOCK_UNNS * 65536 < x.natAbs then min (q.outside + 1) 3 else 0
     let a := clamp (min (s.fld F.TSU_LIMITS_RATEMAX) 500 * 1000 * 65536)
       (s.tsu.a - y - clamp (s.fld F.TSU_LIMITS_PHMAX * 65536) (x.tdiv (max 1 (s.fld F.TSU_SERVO_TAU))))
     s.running .tsu = true → k.val ≠ 2 → s.tsu.want = none →
      (q.n = 0 → st = 0 → using_ ≠ k.val + 1 → 1 < s.fld F.TSU_LOCK_N →
        Answers (exec (.measurementSubmit k hi) s) fun t =>
          Only (tsu fun u => { u with trk := u.trk.set k { entered 1 with x := o * 65536, y := 0, t := at', n := 1, seen := s.now } })
            (A.TSU_T_MO_HI k :: shown) s t ∧ state t = 1 ∧ t.reg (A.TSU_T_MO_HI k) = hi) ∧
      (q.n ≠ 0 → q.t < at' → st = 2 → using_ = k.val + 1 →
        Answers (exec (.measurementSubmit k hi) s) fun t =>
          t.tsu.a = a ∧ t.tsu.trk[k] = { q with x := x, y := y + (a - s.tsu.a), t := at', n := min (q.n + 1) 65535, inside := inside,
                                                outside := outside, seen := s.now } ∧
          (∀ j : Fin 3, j ≠ k → t.tsu.trk[j] = { s.tsu.trk[j] with y := s.tsu.trk[j].y + (a - s.tsu.a) }) ∧
          state t = (if s.fld F.TSU_LOCK_N ≤ inside then 3 else 2) ∧
          (t.bit F.TSU_STAT_LOCKED = true ↔ s.fld F.TSU_LOCK_N ≤ inside) ∧
          RegsBut (A.TSU_T_MO_HI k :: shown) s t ∧ MemSame s t ∧ CoresSame s t) ∧
      (q.n ≠ 0 → at' ≤ q.t →
        Answers (exec (.measurementSubmit k hi) s) fun t =>
          Only s.blk [A.TSU_T_MO_HI k, A.TSU_ERR] s t ∧ t.bit F.TSU_ERR_MEASORDER = true)) ∧
    (s.running .tsu = true → st ≠ 0 → st ≠ 4 → q.seen + s.fld (F.TSU_T_CFG_TIMEOUT k) * 10 ^ 6 ≤ s.now →
      using_ ≠ k.val + 1 ∨ s.bit F.TSU_SRC_AUTO = false →
      Answers (exec (.trackerTimeout k) s) fun t =>
        Only (tsu fun u => { u with trk := u.trk.set k (entered 4) }) shown s t ∧ state t = 4 ∧ t.fld F.TSU_STAT_SEL = using_) ∧
    (sel.toNat = using_ ∨ s.running .tsu = false →
      Answers (exec (.sourceSelect sel) s) fun t =>
        t.fld F.TSU_SRC_SEL = sel.toNat ∧ t.fld F.TSU_STAT_SEL = using_ ∧
        (s.running .tsu = true → t.tsu.want = none ∧ t.bit F.TSU_STAT_SWPEND = false) ∧
        RegsBut [A.TSU_SRC, A.TSU_STAT] s t ∧ MemSame s t ∧ CoresSame s t) ∧
    (s.running .tsu = true → sel = 0 → using_ ≠ 0 →
      Answers (exec (.sourceSelect sel) s) fun t =>
        t.fld F.TSU_STAT_SEL = 0 ∧ t.tsu.want = none ∧ t.bit F.TSU_STAT_LOCKED = false ∧ (using_ = k.val + 1 → st = 3 → state t = 2) ∧
        RegsBut (A.TSU_SRC :: shown) s t ∧ MemSame s t ∧ CoresSame s t) ∧
    (s.running .tsu = true → sel.toNat = k.val + 1 → using_ ≠ 0 → using_ ≠ k.val + 1 → st ≠ 2 → st ≠ 3 →
      Answers (exec (.sourceSelect sel) s) fun t =>
        Only (tsu fun u => { u with want := some sel.toNat }) [A.TSU_SRC, A.TSU_STAT] s t ∧ t.fld F.TSU_STAT_SEL = using_ ∧
        t.bit F.TSU_STAT_SWPEND = true) ∧
    (s.bankA = true → s.running .tsu = false → s.bit F.TSU_PPSI_EN = true →
      s.tsu.ppsEdge.all (· + 5 * 10 ^ 8 ≤ s.now) = true →
      Answers (exec .ppsInEdge s) (Only (tsu fun u => { u with ppsEdge := some s.now, ppsRef := s.now }) [] s)) ∧
    (let z := s.tsu.trk[(2 : Fin 3)]
     s.bankA = true → s.running .tsu = true → s.bit F.TSU_PPSI_EN = true → s.tsu.ppsEdge = none → z.n = 0 → s.fld F.TSU_STAT_ST2 = 0 →
     using_ ≠ 3 → s.tsu.want = none → 1 < s.fld F.TSU_LOCK_N → s.now < 2 ^ 64 →
     Answers (exec .ppsInEdge s) fun t =>
       let o : Int := ((s.now : Int) - s.fld F.TSU_PPSI_DELAY + 5 * 10 ^ 8) % 10 ^ 9 - 5 * 10 ^ 8
       Only (tsu fun u => { u with
         ppsEdge := some s.now
         ppsRef := s.now
         trk := u.trk.set 2 { x := o * 65536, y := 0, t := s.now, n := 1, inside := 0, outside := 0, seen := s.now } })
         (shown ++ [A.TSU_T_MT_LO 2, A.TSU_T_MT_HI 2, A.TSU_T_MO_LO 2, A.TSU_T_MO_HI 2]) s t ∧ t.fld F.TSU_STAT_ST2 = 1 ∧
       t.reg (A.TSU_T_MT_LO 2) = BitVec.ofNat 32 s.now ∧ t.reg (A.TSU_T_MO_LO 2) = BitVec.ofInt 32 o) ∧
    (s.bit F.TSU_PPSI_EN = true → s.tsu.ppsRef + 10 ^ 9 ≤ s.now →
      Answers (exec .ppsMiss s) fun t =>
        Only (tsu fun u => { u with ppsRef := u.ppsRef + 10 ^ 9 }) [A.TSU_PPS_MISS] s t ∧ Counts A.TSU_PPS_MISS 1 s t) ∧
    (s.bit F.TSU_STAT_SET = true → s.bit F.TSU_PPSO_EN = true → ((s.now : Int) - (s.reg A.TSU_PPSO_OFS).toInt) % 10 ^ 9 < 5 →
      Answers (exec .ppsOutEdge s) (Only (tsu fun u => { u with ppsOut := some s.now }) [] s)) ∧
    (∀ rise, s.tsu.ppsOut = some rise → rise + s.fld F.TSU_PPSO_WIDTH * 10 ^ 6 ≤ s.now →
      Answers (exec .ppsOutFall s) (Only (tsu fun u => { u with ppsOut := none }) [] s))

/-! ### The cabinet bus -/

/-- R336 to R339: entries that are requested are pending; CAN chooses the pending entry with the lowest arbitration field, the lower
number among equals, and starts its frame (R335); where it starts none, it receives the frame that another node starts. A frame that becomes valid completes its entry with status 1, one that loses arbitration stays
pending; a cancelled entry completes with status 2, the one on the bus is marked. R340 to R344: a frame that no filter takes counts; one
that a filter keeps goes into the lowest free entry, and its item into its rill. A detected error counts, and moves the counters and the
error state, up to bus-off; recovery clears them. Inputs reach their block while their pad bank is usable (R519).
Model choices: log entries 12, 13 and 33. -/
def Obligations.CabinetBusCompletes : Prop :=
  (∀ (s : State) (e : Fin 32) (v : Word) (sof : Nat) (other : Bool), s.Inv → s.powered .can = true →
     let can (f : Can → Can) : Blocks := { s.blk with can := f s.blk.can }
     let word1 := txEntry e.val + 4
     let done := rillNo (s.fld F.CAN_RILLS_TXDONE)
     let completes (status : Nat) (t : State) : Prop :=
       t.reg A.CAN_TX_PEND = s.reg A.CAN_TX_PEND &&& ~~~ BitVec.twoPow 32 e.val ∧
       (t.store.le word1 4) = s.store.le word1 4 % 2 ^ 16 + status * 2 ^ 16 + s.store.le word1 4 / 2 ^ 19 * 2 ^ 19 ∧
       t.store.le (txEntry e.val + 8) 8 = sof % 2 ^ 64 ∧ Pushed done (BitVec.ofNat 64 (e.val + status * 2 ^ 8)) s t ∧
       MemOutside [(word1, 12), (s.nextSlot done, 8)] s t ∧ CoresSame s t
     let hasItem := s.takes done ∧ s.blk.can.items = [] ∧ s.blk.can.sof = [(e.val, sof)]
     (s.bankA = true → s.receives = true → s.mayStart = false ∨ s.blk.can.cur = none →
       Answers (exec (.canIntermission true true) s) fun t => Only s.blk [A.CAN_STAT] s t ∧ t.bit F.CAN_STAT_RXING = true) ∧
     ((∀ i < 32, v.getLsbD i = true → s.txPending i = true ∨ s.txBad i = false) →
       Answers (exec (.canTxRequest v) s) fun t =>
         Only s.blk [A.CAN_TX_PEND] s t ∧ t.reg A.CAN_TX_PEND = s.reg A.CAN_TX_PEND ||| v) ∧
     (s.mayStart = true → s.txPending e = true →
       (∀ i < 32, s.txPending i = true → s.arbitration e < s.arbitration i ∨ (s.arbitration e = s.arbitration i ∧ e.val ≤ i)) →
       Answers (exec (.canIntermission false other) s) (Only (can fun c => { c with cur := some e.val, cancel := false }) [] s)) ∧
     (s.mayStart = true → s.blk.can.cur = some e.val →
       Answers (exec (.canIntermission true other) s) fun t =>
         t.blk = can (fun c => { c with sof := (e.val, s.now) :: c.sof.filter (·.1 != e.val), sent := some (s.txFrame e) }) ∧ t.bit F.CAN_STAT_TXING = true ∧
         t.store.le word1 4 = s.store.le word1 4 % 2 ^ 6 + s.fld F.CAN_STAT_STATE % 2 * 2 ^ 6 + s.store.le word1 4 / 2 ^ 7 * 2 ^ 7 ∧
         MemBut word1 4 s t ∧ RegsBut [A.CAN_STAT] s t) ∧
     (s.bankA = true → s.bit F.CAN_STAT_TXING = true → s.blk.can.cur = some e.val →
       (s.fld F.CAN_STAT_STATE = 0 → hasItem →
         Answers (exec (.canTxComplete false) s) fun t =>
           completes 1 t ∧ t.bit F.CAN_STAT_TXING = false ∧ t.blk.can = { s.blk.can with cur := none, cancel := false, sent := none, sof := [] } ∧
           t.fld F.CAN_ECNT_TEC = s.fld F.CAN_ECNT_TEC - 1 ∧ Counts A.CAN_TX_FRAMES 1 s t ∧
           RegsBut [A.CAN_TX_PEND, A.CAN_STAT, A.CAN_ECNT, A.CAN_TX_FRAMES, A.MEM_FLIP_CFG] s t) ∧
       (s.blk.can.cancel = false → s.txFld e 1 7 1 = 0 →
         Answers (exec (.canTxComplete true) s) fun t =>
           Only (can fun c => { c with cur := none, cancel := false }) [A.CAN_STAT, A.CAN_ARB_LOST] s t ∧
           t.bit F.CAN_STAT_TXING = false ∧ t.bit F.CAN_STAT_RXING = true ∧ Counts A.CAN_ARB_LOST 1 s t)) ∧
     (s.reg A.CAN_TX_PEND = BitVec.twoPow 32 e.val → v = BitVec.twoPow 32 e.val → ∀ c ∈ [Instr.canTxCancel v, .abortall],
       (s.blk.can.cur ≠ some e.val → hasItem →
         Answers (exec c s) fun t =>
           completes 2 t ∧ t.blk.can = { s.blk.can with sof := [] } ∧ RegsBut [A.CAN_TX_PEND, A.MEM_FLIP_CFG] s t) ∧
       (s.blk.can.cur = some e.val → s.bit F.CAN_STAT_TXING = true →
         Answers (exec c s) (Only (can fun c => { c with cancel := true }) [] s)))) ∧
  (∀ (s : State) (f : CanFrame) (sof : BitVec 64) (n : Fin 32) (e : Fin 64) (tx hi data : Bool) (code : BitVec 3) (weight : BitVec 2)
     (v : Word), s.Inv → s.powered .can = true →
     let can (f : Can → Can) : Blocks := { s.blk with can := f s.blk.can }
     let receive := Instr.canFrameReceive f.id f.xtd f.rtr f.dlc f.fdf f.brs f.esi f.res f.data sof
     let full := if e.val < 32 then A.CAN_RX_FULL_LO else A.CAN_RX_FULL_HI
     let rill := rillNo (s.fld F.CAN_RILLS_RX)
     let evt := rillNo (s.fld F.CAN_RILLS_EVT)
     let hears := s.onBus = true ∧ s.busOff = false
     let matches' (i : Nat) : Bool := s.bit (F.CAN_FLT_ID_EN i) &&
       (f.id.toNat ^^^ s.fld (F.CAN_FLT_ID_ID i)) &&& s.fld (F.CAN_FLT_MASK_MASK i) == 0 &&
       (!(s.bit (F.CAN_FLT_MASK_MXTD i)) || s.bit (F.CAN_FLT_ID_XTD i) == f.xtd)
     (s.bankA = true → hears → s.bit F.CAN_STAT_TXING = false → f.res = false → f.fdf = false ∨ s.bit F.CAN_CFG_FDEN = true →
       s.fld F.CAN_ECNT_REC ≤ 127 → s.fld F.CAN_ECNT_TEC ≤ 127 → s.fld F.CAN_STAT_STATE = 0 →
       ((∀ i < 32, matches' i = false) → s.bit F.CAN_CFG_DEFACC = false →
         Answers (exec receive s) fun t =>
           Only (can fun c => { c with cur := none, cancel := false })
             [A.CAN_STAT, A.CAN_ECNT, A.CAN_RX_FRAMES, A.CAN_RX_FILTERED] s t ∧
           Counts A.CAN_RX_FRAMES 1 s t ∧ Counts A.CAN_RX_FILTERED 1 s t ∧ t.fld F.CAN_ECNT_REC = s.fld F.CAN_ECNT_REC - 1 ∧
           t.bit F.CAN_STAT_RXING = false) ∧
       (matches' n = true → (∀ i < n.val, matches' i = false) → s.bit (F.CAN_FLT_ID_REJECT n) = false →
         (∀ i < 64, i < e.val → ((if i < 32 then s.reg A.CAN_RX_FULL_LO else s.reg A.CAN_RX_FULL_HI).getLsbD (i % 32)) = true) →
         ((if e.val < 32 then s.reg A.CAN_RX_FULL_LO else s.reg A.CAN_RX_FULL_HI).getLsbD (e.val % 32)) = false →
         s.takes rill → s.blk.can.items = [] → f.data.length = dlcBytes f.fdf f.rtr f.dlc.toNat →
         Answers (exec receive s) fun t =>
           t.store.le (rxEntry e.val) 4 =
             (if f.xtd = true then f.id.toNat + 2 ^ 29 else f.id.toNat / 2 ^ 18 * 2 ^ 18) + (if f.rtr = true then 2 ^ 30 else 0) ∧
           t.store.le (rxEntry e.val + 4) 4 = f.dlc.toNat + (if f.fdf = true then 2 ^ 4 else 0) + (if f.brs = true then 2 ^ 5 else 0) +
             (if f.esi = true then 2 ^ 6 else 0) + n.val * 2 ^ 8 ∧
           t.store.le (rxEntry e.val + 8) 8 = sof.toNat ∧ t.store.bytes (rxEntry e.val + 16) f.data.length = f.data ∧
           t.reg full = s.reg full ||| BitVec.twoPow 32 (e.val % 32) ∧
           Pushed rill (BitVec.ofNat 64 (e.val + n.val * 2 ^ 8)) s t ∧ Counts A.CAN_RX_FRAMES 1 s t ∧
           MemOutside [(rxEntry e.val, 80), (s.nextSlot rill, 8)] s t ∧
           RegsBut [A.CAN_STAT, A.CAN_ECNT, A.CAN_RX_FRAMES, full, A.MEM_FLIP_CFG] s t ∧ CoresSame s t)) ∧
     (let add := if weight = 0 then (if tx then 8 else 1) else if weight = 1 then 8 else 0
      let tec := if tx then min 511 (s.fld F.CAN_ECNT_TEC + add) else s.fld F.CAN_ECNT_TEC
      let rec' := if tx then s.fld F.CAN_ECNT_REC else min 255 (s.fld F.CAN_ECNT_REC + add)
      hears → s.bit F.CAN_STAT_TXING = false → s.blk.can.items = [] → s.working .rill = true → s.rillEn evt = false →
      Answers (exec (.canError tx code data weight) s) fun t =>
        t.fld F.CAN_LEC_CODE = code.toNat ∧ t.bit F.CAN_LEC_DATA = data ∧ Counts A.CAN_ERR_FRAMES 1 s t ∧ t.fld F.CAN_ECNT_TEC = tec ∧
        t.fld F.CAN_ECNT_REC = rec' ∧ t.fld F.CAN_STAT_STATE = (if 255 < tec then 2 else if 127 < tec ∨ 127 < rec' then 1 else 0) ∧
        Counts A.CAN_BUSOFF_CNT (if 255 < tec then 1 else 0) s t ∧
        (255 < tec → s.bit F.CAN_STAT_RECOVERING = false → t.bit F.CAN_STAT_RECOVERING = s.bit F.CAN_CFG_AUTOREC) ∧
        t.blk.can = s.blk.can ∧ MemSame s t ∧ CoresSame s t ∧
        RegsBut [A.CAN_LEC, A.CAN_ERR_FRAMES, A.CAN_STAT, A.CAN_ECNT, A.CAN_BUSOFF_CNT, A.CAN_EVT_LOST, A.REC_DROPPED] s t) ∧
     (s.busOff = true → Answers (exec .recover s) fun t => Only s.blk [A.CAN_STAT] s t ∧ t.bit F.CAN_STAT_RECOVERING = true) ∧
     (s.onBus = true → s.bit F.CAN_STAT_RECOVERING = true → s.blk.can.items = [] → s.working .rill = true → s.rillEn evt = false →
       Answers (exec .recoveryEnd s) fun t =>
         t.bit F.CAN_STAT_RECOVERING = false ∧ t.reg A.CAN_ECNT = 0 ∧ t.fld F.CAN_STAT_STATE = 0 ∧ Counts A.CAN_EVT_LOST 2 s t ∧
         t.blk = { s.blk with rcd := s.logs 0x22 Block.can.num 0 4 } ∧ MemSame s t ∧
         RegsBut [A.CAN_STAT, A.CAN_ECNT, A.CAN_EVT_LOST, A.REC_DROPPED] s t) ∧
     (Answers (exec (.canRxReturn hi v) s) fun t =>
       let a := if hi then A.CAN_RX_FULL_HI else A.CAN_RX_FULL_LO
       Only s.blk [a] s t ∧ t.reg a = s.reg a &&& ~~~ v) ∧
     (s.running .can = true →
       Answers (exec .busIntegration s) fun t =>
         Only s.blk [A.CAN_STAT] s t ∧ t.bit F.CAN_STAT_SYNCED = true ∧ t.bit F.CAN_STAT_PXE = false))

/-! ### Feeder metering -/

/-- R351, R354 to R358, R364 to R367: a sample is counted while MET settles, and repeats what the one before it added where it is lost. A
measured sample joins the history as its calibrated codes, and, as long as no whole cycle has been seen, is measured over 160 samples: the
energy of a phase grows by its power, each RMS register shows its window, and a residual current above its level counts; each code counts as extreme or normal density. R351, R353, R358
to R363, R366, R367, R371: settling ends after 20 ms; modulator faults and theft are recorded once; a snapshot is due; a preset sets its
register; an interval that ends gives its record, which is pushed as a packet; the newer valid image is restored.
Model choices: log entries 14, 15 and 34. -/
def Obligations.MeteringCompletes : Prop :=
  (∀ (s : State) (raw : Vector (BitVec 24) 8) (c : Fin 8) (p : Fin 3), s.Inv → s.running .met = true →
     s.bit F.MET_STAT_BATT = false → s.blk.pwr.vinGood = true →
     let m := s.met
     let met (f : Met → Met) : Blocks := { s.blk with met := f s.blk.met }
     let snapped (f : Met → Met) (b : Met) : Met :=
       let n := f b
       { n with num := n.num + 1, snap := false, bank := if m.snap then n.regs.map (· / 2 ^ 32) else n.bank }
     let snapReg (t : State) : Prop := m.snap = true → (t.reg A.MET_SNAP_NUM).toNat = m.num % 2 ^ 32
     let code : Int := raw[c].toInt
     let density (t : State) : Prop :=
       t.blk.met.extreme[c] = (if 998 * 2 ^ 23 < 1000 * code then max 0 m.extreme[c] + 1
         else if 1000 * code < -998 * 2 ^ 23 then min 0 m.extreme[c] - 1 else 0) ∧
       t.blk.met.calm[c] = (if 998 * 2 ^ 23 < 1000 * code ∨ 1000 * code < -998 * 2 ^ 23 then 0 else m.calm[c] + 1)
     (s.bit F.MET_STAT_SETTLING = true →
       (Answers (exec (.metSample raw false) s) fun t =>
         Only (met (snapped fun m => { m with
           settle := m.settle + 1, cutHeld := 0, cutTold := false, residHeld := 0, residTold := false
           regs := t.blk.met.regs, extreme := t.blk.met.extreme, calm := t.blk.met.calm })) [A.MET_THEFT_STAT, A.MET_SNAP_NUM] s t ∧
         density t ∧
         snapReg t ∧ (∀ i < 36, t.blk.met.regs[i]? = m.regs[i]?) ∧ t.bit F.MET_THEFT_STAT_SUPPLYNOW = false ∧
         t.bit F.MET_THEFT_STAT_RESIDNOW = false) ∧
       (m.added = [] → s.bit F.MET_RILLS_EVT_EN = false → (s.evq .met).length < 16 →
         Answers (exec (.metSample raw true) s) fun t =>
           Counts A.MET_SAMP_LOST 1 s t ∧ t.evq .met = s.evq .met ++ [8] ∧ t.blk.met.settle = m.settle + 1 ∧
           t.blk.met.num = m.num + 1 ∧ density t ∧ (∀ i < 36, t.blk.met.regs[i]? = m.regs[i]?) ∧
           RegsBut [A.MET_SAMP_LOST, A.MET_THEFT_STAT, A.MET_SNAP_NUM] s t ∧ MemSame s t ∧ CoresSame s t)) ∧
     (s.bit F.MET_STAT_SETTLING = false →
       (∀ e, m.added = [e] → e.1 < 36 → s.bit F.MET_RILLS_EVT_EN = false → (s.evq .met).length < 16 →
         Answers (exec (.metSample raw true) s) fun t =>
           Counts A.MET_SAMP_LOST 1 s t ∧ t.blk.met.regs[e.1]? = some ((m.regs.toList.getD e.1 0 + e.2) % 2 ^ 96) ∧
           t.blk.met.interval = m.interval.map (fun i => { i with lost := true }) ∧ t.blk.met.num = m.num + 1 ∧
           t.evq .met = s.evq .met ++ [8] ∧ snapReg t ∧ t.blk.met.hist = m.hist ∧ density t ∧
           RegsBut [A.MET_SAMP_LOST, A.MET_THEFT_STAT, A.MET_SNAP_NUM] s t ∧ MemSame s t ∧ CoresSame s t) ∧
       (let live (k : Fin 8) : Bool := s.chen k && natBits (s.fld F.MET_MODFAULT_NOW) k 1 == 0
        let code (k : Fin 8) : Int := raw[k].toInt - (BitVec.ofNat 24 (s.fld (F.MET_CAL_OFF_OFF k))).toInt
        let calibrated : Vector Int 8 := Vector.ofFn fun k =>
          if live k then
            ((256 * code k - (BitVec.ofNat 8 (s.fld (F.MET_CAL_PHASE_PHASE k))).toInt * (code k - m.last[k].2)) *
              (s.reg (A.MET_CAL_GAIN k)).toInt + 2 ^ 31) / 2 ^ 32
          else 0
        let h := (calibrated :: m.hist).take 256
        let v := histAt h (voltCh p)
        let i := histAt h (ampCh p)
        let P := windowSum 160 fun k => v k * i k
        let joules (x : Nat) : Nat := (2 * (x * 125 * 2 ^ 32) + 160 * 36 * 10 ^ 15) / (2 * (160 * 36 * 10 ^ 15))
        let energy (k : Nat) : Nat := m.regs.toList.getD (8 * p.val + k) 0
        let resid (k : Nat) : Int := histAt h 3 k + histAt h 4 k + histAt h 5 k + histAt h 6 k
        let rms (q : Nat → Int) : Nat := isqrt (squares 160 q / 160) / 1000
        s.bit F.MET_CTRL_HPF = false → m.cross = none → m.cycle = none → 0 ≤ histAt m.hist s.refCh 0 →
        (∀ k : Fin 38, m.regs[k] < 2 ^ 96) →
        Answers (exec (.metSample raw false) s) fun t =>
          t.blk.met.hist = h ∧ t.bit F.MET_STAT_FREQOK = false ∧ t.fld F.MET_FREQ_MHZ = 0 ∧ t.blk.met.num = m.num + 1 ∧
          (s.chen p.val = true → s.chen (p.val + 3) = true →
            t.blk.met.regs[8 * p.val]? = some ((energy 0 + if 0 ≤ P then joules P.natAbs else 0) % 2 ^ 96) ∧
            t.blk.met.regs[8 * p.val + 1]? = some ((energy 1 + if P < 0 then joules P.natAbs else 0) % 2 ^ 96)) ∧
          (t.reg (A.MET_RMS c)).toNat = rms (histAt h c) % 2 ^ 32 ∧ (t.reg (A.MET_RMS 8)).toNat = rms resid % 2 ^ 32 ∧ density t ∧
          (t.bit F.MET_THEFT_STAT_RESIDNOW = true ↔ s.fld F.MET_RESID_LEVEL ≠ 0 ∧ s.chen 6 = true ∧
            s.fld F.MET_RESID_LEVEL * 10 < rms resid) ∧
          t.bit F.MET_THEFT_STAT_SUPPLYNOW = false ∧ snapReg t ∧
          RegsBut ([A.MET_STAT, A.MET_FREQ, A.MET_THEFT_STAT, A.MET_SNAP_NUM] ++ (List.range 9).map A.MET_RMS) s t ∧ MemSame s t ∧
          CoresSame s t))) ∧
  (∀ (s : State) (c : Fin 8), s.Inv → s.powered .met = true →
     let m := s.met
     let met (f : Met → Met) : Blocks := { s.blk with met := f s.blk.met }
     let queued (v : Nat) (b : Blocks) : Blocks :=
       { b with evq := b.evq.setIfInBounds Block.met.num (s.evq .met ++ [BitVec.ofNat 64 v]) }
     let waits := s.bit F.MET_RILLS_EVT_EN = false ∧ (s.evq .met).length < 16
     (160 ≤ m.settle → Answers (exec .settlingEnd s) fun t => Only s.blk [A.MET_STAT] s t ∧ t.bit F.MET_STAT_SETTLING = false) ∧
     (waits → s.running .met = true → s.chanLive c = true → 8 ≤ m.extreme[c].natAbs →
       Answers (exec (.modulatorFault c) s) fun t =>
         Only (queued (5 + c.val * 2 ^ 8) s.blk) [A.MET_MODFAULT, A.MET_MODFAULT_CNT] s t ∧
         natBits (t.fld F.MET_MODFAULT_NOW) c 1 = 1 ∧ natBits (t.fld F.MET_MODFAULT_SEEN) c 1 = 1 ∧ Counts A.MET_MODFAULT_CNT 1 s t) ∧
     (waits → s.running .met = true → natBits (s.fld F.MET_MODFAULT_NOW) c 1 = 1 → 80 ≤ m.calm[c] →
       Answers (exec (.modulatorRecover c) s) fun t =>
         Only (queued (6 + c.val * 2 ^ 8) s.blk) [A.MET_MODFAULT] s t ∧ natBits (t.fld F.MET_MODFAULT_NOW) c 1 = 0 ∧
         t.fld F.MET_MODFAULT_SEEN = s.fld F.MET_MODFAULT_SEEN) ∧
     (waits → s.running .met = true → m.cutTold = false → s.fld F.MET_THEFT_HOLD * 8000 ≤ m.cutHeld →
       Answers (exec .supplyCutTheft s) fun t =>
         Only (queued 3 (met fun m => { m with cutTold := true })) [A.MET_THEFT_STAT] s t ∧
         t.bit F.MET_THEFT_STAT_SUPPLYCUT = true) ∧
     (waits → s.running .met = true → m.residTold = false → s.fld F.MET_RESID_HOLD * 8000 ≤ m.residHeld →
       Answers (exec .residualTheft s) fun t =>
         Only (queued 4 (met fun m => { m with residTold := true })) [A.MET_THEFT_STAT] s t ∧ t.bit F.MET_THEFT_STAT_RESIDUAL = true) ∧
     (Answers (exec .snap s) (Only (met fun m => { m with snap := true }) [] s)) ∧
     (waits → s.bit F.MET_CTRL_RUN = false →
       let k : Fin 38 := Fin.ofNat 38 (min 37 (s.fld F.MET_ESEL_INDEX))
       Answers (exec .preset s) fun t =>
         t.met.regs = m.regs.set k (((s.reg A.MET_PSET_HI).toNat * 2 ^ 32 + (s.reg A.MET_PSET_LO).toNat) * 2 ^ 32) ∧
         t.evq .met = s.evq .met ++ [BitVec.ofNat 64 (9 + k.val * 2 ^ 8)] ∧ RegsBut [A.REC_DROPPED] s t ∧ MemSame s t ∧ CoresSame s t) ∧
     (s.bit F.MET_CTRL_RUN = true →
       Answers (exec .preset s) fun t =>
         t.met = m ∧ (s.reg A.MET_ERR ||| 1) = t.reg A.MET_ERR ∧ RegsBut [A.MET_ERR, A.REC_DROPPED] s t ∧ MemSame s t) ∧
     (∀ i, m.interval = some i →
       let len : Int := ([1, 5, 10, 15, 30, 60].getD (s.fld F.MET_DMD_LEN) 60) * 60 * 10 ^ 9
       let off : Int := s.fld F.MET_TAI_UTC_SECONDS * 10 ^ 9
       let bound := ((((i.start : Int) - off) / len + 1) * len + off).toNat
       s.running .met = true → bound ≤ s.now →
       let next : Met → Met := fun m => { m with
         interval := some ⟨bound, m.regs.map (· / 2 ^ 32), false, false, false, !s.timeSet⟩, number := m.number + 1, fresh := false }
       (s.bit F.MET_RILLS_DMD_EN = false → Answers (exec .demandIntervalEnd s) (Only (met next) [] s)) ∧
       (s.bit F.MET_RILLS_DMD_EN = true → m.records ≠ [] → m.records.length < 8 →
         Answers (exec .demandIntervalEnd s) fun t =>
           Only (met fun m => { next m with records := m.records ++ [s.demandBody i false bound] }) [A.MET_STAT] s t ∧
           t.bit F.MET_STAT_DMDWAIT = true)) ∧
     (∀ r, m.records = [r] →
       let n := rillNo (s.fld F.MET_RILLS_DMD)
       s.bit F.MET_RILLS_DMD_EN = true → s.rillOn n = true → s.isPacket n = true → (s.rill n).pkt = none → r.length = 16 →
       17 ≤ s.rillFree n → s.quiet n →
       Answers (exec .demandRecordPush s) fun t =>
         t.met.records = [] ∧ t.bit F.MET_STAT_DMDWAIT = false ∧ (t.rill n).unread = (s.rill n).unread + 17 ∧ (t.rill n).pkt = none ∧
         (t.store.w64 (s.slotAddr n (s.rill n).wr)).toNat = 16 + 2 ^ 16 + 2 ^ 63 ∧
         (∀ j < 16, t.store.bytes (s.slotAddr n ((s.rill n).wr + 1 + j)) 8 = leBytes 8 (storedItem n (r.getD j 0)).toNat) ∧
         MemOutside ((List.range 17).map fun j => (s.slotAddr n ((s.rill n).wr + j), 8)) s t ∧
         RegsBut [A.MET_STAT, A.MEM_FLIP_CFG] s t ∧ CoresSame s t) ∧
     (let image (o : Nat) : List Byte := s.store.bytes (csKey o) 512
      waits → m.restore = true → (∀ j < 256, weight (s.errAt (csKey (4 * j))) = 0) →
       (metSeq (some (image 0)) = none → metSeq (some (image 0x200)) = none →
         Answers (exec .metRestore s) fun t =>
           Only (queued 10 (met fun m => { m with restore := false })) [A.MET_STAT] s t ∧ t.bit F.MET_STAT_RESTFAIL = true) ∧
       (∀ o ∈ [0, 0x200], ∀ a, metSeq (some (image o)) = some a →
         (metSeq (some (image (0x200 - o)))).all (fun b => b < a ∨ (o = 0 ∧ b = a)) = true →
         Answers (exec .metRestore s) fun t =>
           t.met.restore = false ∧ t.met.fresh = true ∧ t.met.seq = a ∧ t.bit F.MET_STAT_RESTORED = true ∧
           (∀ r : Fin 38, t.met.regs[r] = s.store.le (csKey (o + 12 * r.val)) 12) ∧
           RegsBut [A.MET_STAT, A.MET_THEFT_STAT, A.MET_MODFAULT] s t ∧ MemSame s t ∧ CoresSame s t)))

/-! ### Oxbow pairing -/

/-- R379 to R381, R384, R386 to R390: an edge of the partner, the loss of its ownership, the end of WAIT, of a claim and of its guard move
the state machine; the owner yields on command, at a safe point when it is ready to revert, on a condition while its partner is ready, and
when its watchdog expires; reports go out; a self-test runs in standby. R382 to R385, R391, R392, R394, R395: on a link that is up, a
report, a mark, a message, an answer of the partner takes effect; a mark that changes is durable, in the copy that is not the newest;
reservations and clears wait for their answer or end after 20 ms; a message is sent and its buffers returned; frames in error count, and
300 ms without one lose the link. Inputs reach their block while their pad bank is usable (R519).
Model choices: log entries 15 and 35. -/
def Obligations.OxbowCompletes : Prop :=
  (∀ (s : State) (b : Fin 8) (fail : BitVec 5) (periods : BitVec 16) (samePos linkDown : Bool), s.Inv → s.powered .oxb = true →
     s.evq .oxb = [] → s.working .rill = true →
     s.rillEn (rillNo (s.fld F.OXB_RILLS_EVT)) = false →
     let o := s.oxb
     let st := s.fld F.OXB_STAT_STATE
     let ms (p n : Nat) : Prop := n * 32768 ≤ (s.pulses - p) * 1000
     let heard (p : Option Nat) (n : Nat) : Prop := p.any (fun p => decide ((s.pulses - p) * 1000 < n * 32768)) = true
     let quiet := ¬ heard o.edge (s.fld F.OXB_TIMES_LOSS)
     let seen := o.edge.filter (o.watch ≤ ·)
     let lost := ms (seen.getD o.watch) (s.fld F.OXB_TIMES_LOSS) ∧ (st = 2 ∨ seen.isSome = true)
     let recent := o.report.any (fun p => decide ((s.pulses - p) * 1000 ≤ 250 * 32768)) = true
     let wire (type : Nat) (l : List Byte) : List Byte :=
       let body := leBytes 1 type ++ leBytes 1 o.frameSeq ++ leBytes 2 l.length ++ l
       body ++ leBytes 4 (crc32 (body.map (·.toNat)))
     let alive := ¬ ms o.kick (s.fld F.OXB_WDOG_MS)
     let free := o.clash = false ∧ alive ∧ ¬ heard o.ownerRep 250 ∧ s.bit F.OXB_STAT_STBUSY = false
     let same (t : State) : Prop := MemSame s t ∧ CoresSame s t
     let claimed (t : State) : Prop :=
       t.fld F.OXB_STAT_STATE = 3 ∧ t.oxb.since = s.pulses ∧ t.oxb.retry = none ∧ t.oxb.yielded = false ∧
       t.oxb.toggles = s.pulses ∧ RegsBut [A.OXB_STAT, A.OXB_EVT_LOST, A.REC_DROPPED] s t ∧ same t
     let yields (l : List Nat) (t : State) : Prop :=
       t.oxb = { o with since := s.pulses, showHold := none, revert := none, fwDropped := false, watch := s.pulses, lossTold := false,
                        sent := wire 2 [], frameSeq := (o.frameSeq + 1) % 256 } ∧
       t.fld F.OXB_STAT_STATE = 2 ∧ t.bit F.OXB_STAT_REVERTREADY = false ∧ Counts A.OXB_YIELDS 1 s t ∧
       RegsBut ([A.OXB_STAT, A.OXB_YIELDS, A.OXB_EVT_LOST, A.REC_DROPPED] ++ l) s t ∧ same t
     (periods.toNat < 2 ∨ s.bankA = false → exec (.ownBEdge periods samePos) s = .next s) ∧
     (2 ≤ periods.toNat → s.bankA = true → Answers (exec (.ownBEdge periods samePos) s) fun t =>
       let primary := s.bit F.OXB_CFG_POS
       t.oxb.edge = some s.pulses ∧ t.oxb.yielded = o.yielded ∧ t.oxb.lossTold = false ∧
       t.fld F.OXB_STAT_STATE = (if st = 3 ∧ (samePos = true ∨ primary = false) then 2 else st) ∧
       (st = 3 → samePos = true → Counts A.OXB_CLAIM_CLASH 1 s t ∧
         t.oxb.retry.any (fun p => s.pulses + 164 ≤ p && p ≤ s.pulses + 491) = true) ∧
       RegsBut [A.OXB_STAT, A.OXB_CLAIM_CLASH, A.OXB_EVT_LOST] s t ∧ same t) ∧
     (st = 1 ∨ st = 2 → free → o.retry = none → lost → Answers (exec .ownershipLoss s) fun t => claimed t ∧ t.oxb.lossTold = true) ∧
     (st = 1 → ms o.since (s.fld F.OXB_TIMES_START) →
       (quiet → free → o.retry = none → Answers (exec .waitEnd s) claimed) ∧
       (¬ quiet → Answers (exec .waitEnd s) fun t =>
         Only { s.blk with oxb := { o with since := s.pulses } } [A.OXB_STAT] s t ∧ t.fld F.OXB_STAT_STATE = 2)) ∧
     (∀ p, o.retry = some p → st = 2 → p ≤ s.pulses → quiet → free → Answers (exec .claimRetry s) claimed) ∧
     (st = 3 → alive → ms o.since (s.fld F.OXB_TIMES_GUARD) → (∀ k < 8, s.bit (F.RAD_KEY_CFG_VALID k) = false) →
       Answers (exec (.guardEnd linkDown) s) fun t =>
         t.oxb = { o with since := s.pulses, showHold := some s.now, revert := none, fwDropped := false } ∧
         t.fld F.OXB_STAT_STATE = 4 ∧ Counts A.OXB_TAKEOVERS 1 s t ∧
         RegsBut [A.OXB_STAT, A.OXB_TAKEOVERS, A.OXB_EVT_LOST, A.REC_DROPPED] s t ∧ same t) ∧
     (st = 4 →
       Answers (exec .yieldCmd s) (yields []) ∧
       (s.bit F.OXB_STAT_REVERTREADY = true → recent → Answers (exec .safepoint s) (yields [])) ∧
       (natBits (s.fld F.OXB_YIELD_EN) b 1 = 1 → s.condition b = true →
         (2 ≤ b.val → b.val ≤ 5 → o.cond[b].any (fun p => 1000 * 32768 ≤ (s.pulses - p) * 1000) = true) →
         (heard o.report 250 → natBits (s.fld F.OXB_PEER_FLAGS) 1 1 = 1 → Answers (exec (.yieldCondition b) s) (yields [])) ∧
         (¬ heard o.report 250 → o.held.getLsbD b = false →
           Answers (exec (.yieldCondition b) s) fun t =>
             Only { s.blk with oxb := { o with held := o.held ||| BitVec.twoPow 8 b } } [A.OXB_YIELD_HELD, A.OXB_EVT_LOST] s t ∧
             Counts A.OXB_YIELD_HELD 1 s t)) ∧
       (ms o.kick (s.fld F.OXB_WDOG_MS) →
         Answers (exec .oxbWatchdogExpire s) fun t => yields [A.OXB_WDOG_EXP] t ∧ Counts A.OXB_WDOG_EXP 1 s t) ∧
       (s.bit F.OXB_CFG_POS = false → s.bit F.OXB_CFG_REVERT = true → s.bit F.OXB_STAT_REVERTREADY = false → recent →
         o.revert.any (fun p => s.fld F.OXB_REVERT_SECONDS * 1000 * 32768 ≤ (s.pulses - p) * 1000) = true →
         Answers (exec .revertReady s) fun t =>
           Only s.blk [A.OXB_STAT, A.OXB_EVT_LOST] s t ∧ t.bit F.OXB_STAT_REVERTREADY = true)) ∧
     (st = 3 → ms o.kick (s.fld F.OXB_WDOG_MS) →
       Answers (exec .oxbWatchdogExpire s) fun t =>
         Only { s.blk with oxb := { o with since := s.pulses, watch := s.pulses, lossTold := false } } [A.OXB_STAT] s t ∧ t.fld F.OXB_STAT_STATE = 2) ∧
     (Answers (exec .oxbKick s) (Only { s.blk with oxb := { o with kick := s.pulses } } [] s)) ∧
     (st ≠ 0 → o.health.all (fun p => 99 * 32768 ≤ (s.pulses - p) * 1000) = true →
       Answers (exec .healthSend s) (Only { s.blk with oxb := { o with
         sent := wire 1 s.healthReport
         frameSeq := (o.frameSeq + 1) % 256
         health := some s.pulses
         reportSeq := (o.reportSeq + 1) % 2 ^ 32 } } [] s)) ∧
     (st = 2 → s.bit F.OXB_STAT_STBUSY = false → s.fld F.MEM_MAINT_STAT_GRANT = 0 → (∀ a ∈ [1, 2, 3], s.maintQueued a = false) →
       let started (o : Oxb) (t : State) : Prop :=
         Only { s.blk with oxb := o } [A.OXB_STAT, A.MEM_MAINT_STAT] s t ∧ t.bit F.OXB_STAT_STBUSY = true ∧
         t.fld F.MEM_MAINT_STAT_GRANT = 5
       Answers (exec (.standbySelfTestRequest true) s) (started o) ∧
       (s.bit F.OXB_CTRL_RUN = true → s.fld F.OXB_ST_PERIOD ≠ 0 → ms o.tested (s.fld F.OXB_ST_PERIOD * 60000) →
         Answers (exec (.standbySelfTestRequest false) s) (started { o with tested := s.pulses }))) ∧
     (s.pending = [] → s.blk.clk.frac < 1000000000 → 1000000000 ≤ s.blk.clk.frac + 131072 → s.domOn 0 = true →
       Answers (step s) fun t =>
         (∀ i : Fin 8, t.oxb.cond[i] = if t.condition i then some (o.cond[i].getD t.pulses) else none) ∧
         (∀ i : Fin 8, t.oxb.held.getLsbD i = (o.held.getLsbD i && t.condition i)) ∧
         (∀ r, o.reserving = some r → o.clearing = none → 5 * 32768 ≤ (s.pulses + 1 - r.2.2.2) * 1000 →
           (s.pulses + 1 - r.2.2.1) * 1000 < 20 * 32768 →
           t.oxb.sent = wire 3 (leBytes 4 r.1 ++ leBytes 4 (r.2.1 + 4096)) ∧
           t.oxb.reserving = some (r.1, r.2.1, r.2.2.1, s.pulses + 1)) ∧
         (∀ r, o.clearing = some r → o.reserving = none → 5 * 32768 ≤ (s.pulses + 1 - r.2.2) * 1000 →
           (s.pulses + 1 - r.2.1) * 1000 < 20 * 32768 →
           t.oxb.sent = wire 7 (leBytes 1 r.1) ∧ t.oxb.clearing = some (r.1, r.2.1, s.pulses + 1))) ∧
     (s.bit F.OXB_STAT_STBUSY = true → s.fld F.MEM_MAINT_STAT_GRANT = 5 →
       Answers (exec (.standbySelfTestEnd fail) s) fun t =>
         Only s.blk [A.OXB_STAT, A.OXB_ST_RES, A.MEM_MAINT_STAT, A.OXB_EVT_LOST] s t ∧ t.bit F.OXB_STAT_STBUSY = false ∧
         t.fld F.OXB_ST_RES_FAIL = fail.toNat ∧ t.fld F.MEM_MAINT_STAT_GRANT = 0)) ∧
  (∀ (s : State) (k : Fin 8) (p : List Byte) (mark v : Word) (marks : Vector Word 8) (tx app : Bool), s.Inv → s.powered .oxb = true →
     s.evq .oxb = [] → s.working .rill = true → s.rillEn (rillNo (s.fld F.OXB_RILLS_EVT)) = false →
     let o := s.oxb
     let up := s.bankA = true ∧ s.fld F.OXB_STAT_STATE ≠ 0 ∧ o.linkUp = true ∧ o.linkLost = false
     let ms (p n : Nat) : Prop := n * 32768 ≤ (s.pulses - p) * 1000
     let hwm := (s.reg (A.OXB_HWM k)).toNat
     let oxb (f : Oxb → Oxb) : Blocks := { s.blk with oxb := f s.blk.oxb }
     let frame (f : Oxb → Oxb) : Blocks := { s.blk with oxb := f { o with frame := s.pulses } }
     let wire (type : Nat) (l : List Byte) : List Byte :=
       let body := leBytes 1 type ++ leBytes 1 o.frameSeq ++ leBytes 2 l.length ++ l
       body ++ leBytes 4 (crc32 (body.map (·.toNat)))
     let sends (type : Nat) (l : List Byte) (q : Oxb) : Oxb := { q with sent := wire type l, frameSeq := (q.frameSeq + 1) % 256 }
     let pay (mark : Nat) : List Byte := leBytes 4 k.val ++ leBytes 4 mark
     let copy := match s.hwmNewest with
       | some (second, n) => (if second then 0x480 else 0x4C0, n + 1)
       | none => (0x480, 1)
     let kept (new : Nat) (t : State) : Prop :=
       (t.reg (A.OXB_HWM k)).toNat = new ∧ t.store.bytes (csKey copy.1) 64 = hwmCopy t.marks copy.2 ∧ MemBut (csKey copy.1) 64 s t
     let idle := s.bit F.BON_STAT_COMMIT_BUSY = false
     let free := s.bit F.OXB_RES_BUSY = false
     let u (at' n : Nat) : Nat := leNat ((p.drop at').take n)
     (up → p.length = 64 → (natBits (u 2 1) 0 1 = 1 ↔ s.bit F.OXB_CFG_POS = false) → (∀ j : Fin 8, u (0x20 + 4 * j) 4 ≤ (s.reg (A.OXB_HWM j)).toNat) →
       s.fld F.OXB_STAT_STATE ≠ 4 →
       Answers (exec (.healthFrame p) s) fun t =>
         Only (frame fun o => { o with
             report := some s.pulses, ownerRep := if u 1 1 = 4 then some s.pulses else o.ownerRep
             yielded := if u 1 1 = 4 then false else o.yielded })
           [A.OXB_PEER, A.OXB_PEER_SCORE, A.OXB_STAT] s t ∧
         t.fld F.OXB_PEER_STATE = u 1 1 % 8 ∧ t.fld F.OXB_PEER_FLAGS = u 2 1 ∧ t.fld F.OXB_PEER_SCORE_SCORE = u 0x12 2 ∧
         t.fld F.OXB_PEER_SCORE_COND = u 0x10 2 ∧
         (t.bit F.OXB_STAT_STALE = true ↔
           s.bit F.OXB_STAT_STALE = true ∨ natBits (u 2 1) 5 1 = 1 ∧ s.fld F.OXB_STAT_STATE = 2)) ∧
     (∀ e, o.edge = some e → up → ¬ ms e 1 → Answers (exec .yieldFrame s) (Only (frame fun o => { o with yielded := true }) [] s)) ∧
     (up →
       (s.bit F.BON_STAT_COMMIT_BUSY = true → mark.toNat ≤ hwm →
         Answers (exec (.reserveFrame k mark) s)
           (Only (frame fun o => { o with acts := o.acts ++ [.resAck k.val mark.toNat] }) [] s)) ∧
       (mark.toNat ≤ hwm → idle → Answers (exec (.reserveFrame k mark) s) (Only (frame (sends 4 (pay mark.toNat))) [] s)) ∧
       (hwm < mark.toNat → idle →
         Answers (exec (.reserveFrame k mark) s) fun t =>
           kept mark.toNat t ∧ t.blk = frame (sends 4 (pay mark.toNat)) ∧ RegsBut [A.OXB_HWM k] s t) ∧
       (∀ r, o.reserving = some r → r.1 = k.val → mark.toNat = r.2.1 + 4096 → s.powered .rad = true → s.blk.rad.armed.getLsbD k = false →
         s.blk.rad.stalled.getLsbD k = false → (s.reg (A.RAD_KEY_CEIL k)).toNat ≤ r.2.1 →
         Answers (exec (.resAckFrame k mark) s) fun t =>
           t.blk.rad.armed = s.blk.rad.armed ||| BitVec.twoPow 8 k ∧ (t.reg (A.RAD_KEY_NEXT_BASE k)).toNat = r.2.1 ∧
           t.reg (A.RAD_KEY_NEXT_CEIL k) = mark ∧ (t.reg A.OXB_RES_BASE).toNat = r.2.1 ∧ t.fld F.OXB_RES_STATUS = 0 ∧
           t.bit F.OXB_RES_BUSY = false ∧ t.oxb = { o with frame := s.pulses, reserving := none } ∧
           RegsBut [A.RAD_KEY_NEXT_BASE k, A.RAD_KEY_NEXT_CEIL k, A.OXB_RES_BASE, A.OXB_RES, A.OXB_EVT_LOST] s t ∧ MemSame s t ∧
           CoresSame s t) ∧
       ((∀ j : Fin 8, marks[j].toNat ≤ (s.reg (A.OXB_HWM j)).toNat) → o.syncSent = true →
         Answers (exec (.syncFrame marks) s) fun t =>
           Only (frame fun o => { o with syncSent := false }) [A.OXB_STAT, A.OXB_SOLO] s t ∧ t.bit F.OXB_STAT_PEERLOST = false ∧ t.bit F.OXB_STAT_STALE = false ∧
           t.bit F.OXB_STAT_HWMLOST = false ∧ t.fld F.OXB_SOLO_USED = 0) ∧
       ((∀ j : Fin 8, marks[j].toNat ≤ (s.reg (A.OXB_HWM j)).toNat) → o.syncSent = false →
         Answers (exec (.syncFrame marks) s) fun t =>
           Only (frame (sends 5 ((List.range 8).flatMap fun j => leBytes 4 (s.reg (A.OXB_HWM j)).toNat))) [A.OXB_STAT, A.OXB_SOLO] s t ∧
           t.bit F.OXB_STAT_PEERLOST = false ∧ t.bit F.OXB_STAT_STALE = false) ∧
       (let rill := rillNo (s.fld F.OXB_RILLS_RX)
        let i := k.val
        let a := (s.reg A.OXB_RXBUF).toNat + 1024 * i
        1 ≤ p.length → p.length ≤ 1024 → natBits (s.fld F.OXB_RX_FULL_BUFS) i 1 = 0 →
        (∀ j < i, natBits (s.fld F.OXB_RX_FULL_BUFS) j 1 = 1) → s.takes rill → o.items = [] → (∀ j < p.length, s.reaches (a + j) = true) →
        a % 8 = 0 →
        Answers (exec (.appFrame p) s) fun t =>
          t.store.bytes a p.length = p ∧ natBits (t.fld F.OXB_RX_FULL_BUFS) i 1 = 1 ∧ Pushed rill (BitVec.ofNat 64 (i + p.length * 2 ^ 16)) s t ∧
          t.oxb = { o with frame := s.pulses } ∧ MemOutside [(a, (p.length + 7) / 8 * 8), (s.nextSlot rill, 8)] s t ∧
          RegsBut [A.OXB_RX_FULL, A.MEM_FLIP_CFG] s t ∧ CoresSame s t) ∧
       (hwm ≠ 0 → idle → Answers (exec (.clearFrame k) s) fun t =>
         kept 0 t ∧ t.oxb = sends 8 (leBytes 1 k.val) { o with frame := s.pulses } ∧ RegsBut [A.OXB_HWM k, A.OXB_EVT_LOST] s t ∧ CoresSame s t) ∧
       (∀ r, o.clearing = some r → r.1 = k.val →
         Answers (exec (.clrAckFrame k) s) fun t =>
           Only (frame fun o => { o with clearing := none }) [A.OXB_RES] s t ∧ t.fld F.OXB_RES_STATUS = 0 ∧ t.bit F.OXB_RES_BUSY = false)) ∧
     (s.fld F.OXB_STAT_STATE ≠ 0 → tx = true ∨ s.bankA = true →
       Answers (exec (.linkFrameError tx app) s) fun t =>
         Only s.blk [A.OXB_LINK_ERR, A.OXB_TX_CTL] s t ∧ Counts A.OXB_LINK_ERR 1 s t ∧
         t.bit F.OXB_TX_CTL_BUSY = (s.bit F.OXB_TX_CTL_BUSY && !(tx && app))) ∧
     (s.fld F.OXB_STAT_STATE ≠ 0 → o.linkLost = false → ms o.frame 300 →
       Answers (exec .linkLost s) fun t =>
         t.oxb = { o with linkLost := true, linkUp := false, syncSent := false, peerLost := s.pulses } ∧ t.bit F.OXB_STAT_PEERLOST = true ∧
         (s.fld F.OXB_STAT_STATE ≠ 4 → t.bit F.OXB_STAT_STALE = true) ∧ Counts A.OXB_LINK_LOST 1 s t ∧
         RegsBut [A.OXB_STAT, A.OXB_LINK_LOST, A.OXB_EVT_LOST, A.REC_DROPPED] s t ∧ MemSame s t ∧ CoresSame s t) ∧
     (free → idle → s.bit F.OXB_STAT_HWMLOST = false → s.blk.rad.armed.getLsbD k = false → hwm < 0xFFFFF000 → o.linkUp = true →
       s.bit F.OXB_STAT_PEERLOST = false →
       Answers (exec (.reserveCmd k) s) fun t =>
         kept (hwm + 4096) t ∧ t.oxb = { sends 3 (pay (hwm + 4096)) o with reserving := some (k.val, hwm, s.pulses, s.pulses) } ∧
         t.bit F.OXB_RES_BUSY = true ∧ t.fld F.OXB_RES_KEY = k.val ∧ RegsBut [A.OXB_HWM k, A.OXB_RES] s t ∧ CoresSame s t) ∧
     (∀ r, o.reserving = some r → ms r.2.2.1 20 →
       Answers (exec .reserveTimeout s) fun t =>
         Only (oxb fun o => { o with reserving := none }) [A.OXB_RES, A.OXB_RES_FAIL, A.OXB_EVT_LOST] s t ∧ t.fld F.OXB_RES_STATUS = 2 ∧
         t.bit F.OXB_RES_BUSY = false ∧ Counts A.OXB_RES_FAIL 1 s t) ∧
     (free → idle → hwm ≠ 0 → o.linkUp = true →
       Answers (exec (.clearCmd k) s) fun t =>
         kept 0 t ∧ t.oxb = { sends 7 (leBytes 1 k.val) o with clearing := some (k.val, s.pulses, s.pulses) } ∧ t.bit F.OXB_RES_BUSY = true ∧
         t.fld F.OXB_RES_KEY = k.val ∧ RegsBut [A.OXB_HWM k, A.OXB_RES] s t ∧ CoresSame s t) ∧
     (∀ r, o.clearing = some r → ms r.2.1 20 →
       Answers (exec .clearTimeout s) fun t =>
         Only (oxb fun o => { o with clearing := none }) [A.OXB_RES] s t ∧ t.fld F.OXB_RES_STATUS = 2 ∧ t.bit F.OXB_RES_BUSY = false) ∧
     (free → (s.reg A.OXB_RES_BASE).toNat ≤ hwm →
       Answers (exec (.setmin k) s) fun t =>
         Only (oxb fun o => { o with setMarks := o.setMarks ||| BitVec.twoPow 8 k }) [A.OXB_RES, A.OXB_STAT] s t ∧
         t.fld F.OXB_RES_STATUS = 0 ∧ t.fld F.OXB_RES_KEY = k.val ∧
         (o.setMarks ||| BitVec.twoPow 8 k = 0xFF → t.bit F.OXB_STAT_HWMLOST = false)) ∧
     (free → hwm < (s.reg A.OXB_RES_BASE).toNat → idle →
       Answers (exec (.setmin k) s) fun t => kept (s.reg A.OXB_RES_BASE).toNat t ∧ RegsBut [A.OXB_RES, A.OXB_STAT, A.OXB_HWM k] s t) ∧
     (let n := v.toNat % 2 ^ 11
      let a := (s.reg A.OXB_TX_ADDR).toNat / 8 * 8
      s.bit F.OXB_TX_CTL_BUSY = false → v.getLsbD 31 = true → 1 ≤ n → n ≤ 1024 → (∀ j < n / 8 + 1, s.readable (a + 8 * j)) →
      Answers (exec (.appSend v) s) fun t =>
        Only (oxb (sends 6 ((List.range n).map fun j => BitVec.ofNat 8 (s.byteAt (a + j))))) [A.OXB_TX_CTL] s t ∧
        t.fld F.OXB_TX_CTL_LEN = n ∧ t.bit F.OXB_TX_CTL_BUSY = true) ∧
     (s.bit F.OXB_TX_CTL_BUSY = true →
       Answers (exec (.appSend v) s) fun t =>
         Only s.blk [A.OXB_TX_CTL] s t ∧ t.fld F.OXB_TX_CTL_LEN = v.toNat % 2 ^ 11 ∧ t.bit F.OXB_TX_CTL_BUSY = true) ∧
     (Answers (exec .appSent s) fun t => Only s.blk [A.OXB_TX_CTL] s t ∧ t.bit F.OXB_TX_CTL_BUSY = false) ∧
     (Answers (exec (.oxbRxReturn v) s) fun t => Only s.blk [A.OXB_RX_FULL] s t ∧ t.reg A.OXB_RX_FULL = s.reg A.OXB_RX_FULL &&& ~~~ v))

/-! ### Firmware slots -/

/-- R405 to R410, R412, R413: a verification ends with its result; a verified slot is armed, and an armed one cancelled; the slot on trial
is confirmed and raises the security floor. Each change of the boot state goes into the copy that is not the newer. Two vectors are
compatible where each meets the other's requirements; an erase or a program operation takes place unless it reaches a protected slot.
R405, R406, R408, R416, R417: after a reset the ROM starts the slot that the boot state and the validity of the slots choose, with core 0
at its entry, or enters recovery. In recovery it tells of itself, and takes an image from the path it serves: BEGIN erases the slot, DATA
programs it, END arms it, answers 0 and resets the module where it is valid. The model's deductions in log entry 36: which vector is named where both
fail, that recovery listens on either path again after an invalid END, and that an operation on NOR waits behind the one in hand.
Model choices: log entries 3, 8, 15, 16, 36 and 43. -/
def Obligations.FirmwareAndBootComplete : Prop :=
  (∀ (s : State) (slot : Fin 2) (erase : Bool) (off len : BitVec 27) (data : List Byte), s.Inv → s.powered .upd = true →
     s.bit F.UPD_EVT_EN = false → (s.evq .upd).length < 8 →
     let u := s.upd
     let b := u.state
     let upd (f : Upd → Upd) : Blocks := { s.blk with upd := f s.blk.upd }
     let n := slot.val
     let posts (v : Nat) (t : State) : Prop := t.evq .upd = s.evq .upd ++ [BitVec.ofNat 64 v]
     let version (k : Nat) : Nat := s.store.le (0x0C000000 + imageOff k + 8) 4
     let copy := match bootState (s.csBytes 0x400 64), bootState (s.csBytes 0x440 64) with
       | some (i, _), some (j, _) => if i < j then (0x400, j + 1) else (0x440, i + 1)
       | some (i, _), none => (0x440, i + 1)
       | none, some (j, _) => (0x400, j + 1)
       | none, none => (0x400, 1)
     let idle := s.bit F.BON_STAT_COMMIT_BUSY = false
     let keeps (b : BootState) (t : State) : Prop :=
       t.upd = { u with state := b } ∧ t.store.bytes (csKey copy.1) 64 = bootCopy b copy.2 ∧ MemBut (csKey copy.1) 64 s t ∧ CoresSame s t ∧
       RegsBut [A.UPD_STAT, A.UPD_SECFLOOR] s t ∧ t.fld F.UPD_STAT_TRIES = b.tries % 4 ∧ (t.reg A.UPD_SECFLOOR).toNat = b.floor % 2 ^ 32
     (s.bit F.UPD_STAT_VBUSY = false → s.bit F.UPD_CTRL_RUN = true →
       Answers (exec (.updVerify slot) s) fun t =>
         Only (upd fun u => { u with checking := some n, overtaken := false }) [A.UPD_STAT] s t ∧ t.bit F.UPD_STAT_VBUSY = true) ∧
     (u.checking = some n →
       let r := if u.overtaken then (6, 0) else s.verifyImage n
       Answers (exec .updVerifyDone s) fun t =>
         t.upd = { u with checking := none, verified := if r.1 = 1 then u.verified ||| BitVec.twoPow 2 n else u.verified &&& ~~~ BitVec.twoPow 2 n } ∧
         t.bit F.UPD_STAT_VBUSY = false ∧ t.fld F.UPD_VSTAT_RESULT = r.1 ∧ t.fld F.UPD_VSTAT_SLOT = n ∧ t.fld F.UPD_VSTAT_COMP = r.2 ∧
         posts (7 + n * 2 ^ 8 + r.1 * 2 ^ 32) t ∧ RegsBut [A.UPD_STAT, A.UPD_VSTAT] s t ∧ MemSame s t ∧ CoresSame s t) ∧
     (idle → u.verified.getLsbD n = true → b.confirmed ≠ some n → u.running ≠ some n → s.bit F.UPD_STAT_TRIAL = false →
       Answers (exec (.arm slot) s) fun t =>
         keeps { b with trial := some n, tries := 0, window := max 1 (s.fld F.UPD_TRIAL_MINUTES), recovered := false } t ∧
         t.bit F.UPD_STAT_ARMED = true ∧ posts (1 + n * 2 ^ 8 + version n % 2 ^ 31 * 2 ^ 32) t) ∧
     (u.verified.getLsbD n = false ∨ b.confirmed = some n ∨ u.running = some n →
       Answers (exec (.arm slot) s) fun t =>
         Only s.blk [A.UPD_ERR] s t ∧ t.bit F.UPD_ERR_CMDREF = true ∧ t.fld F.UPD_ERR_CMD_CAUSE = 1) ∧
     (idle → s.bit F.UPD_STAT_ARMED = true →
       Answers (exec .cancel s) fun t => keeps { b with trial := none, tries := 0 } t ∧ t.bit F.UPD_STAT_ARMED = false) ∧
     (idle → s.bit F.UPD_STAT_TRIAL = true →
       let k := s.fld F.UPD_STAT_SLOT
       Answers (exec .confirm s) fun t =>
         keeps { b with
           confirmed := some k, trial := none, tries := 0, failed := b.failed &&& ~~~ BitVec.twoPow 2 k
           floor := max b.floor (s.store.le (0x0C000000 + imageOff k + 0x0C) 4) } t ∧
         t.bit F.UPD_STAT_TRIAL = false ∧ t.bit F.UPD_STAT_ACTVALID = true ∧ t.fld F.UPD_STAT_ACTIVE = k ∧
         posts (2 + k * 2 ^ 8 + version k % 2 ^ 31 * 2 ^ 32) t) ∧
     (Answers (exec .updRecover s) (Only (upd fun u => { u with recover := true }) [] s)) ∧
     (let a := (s.reg A.UPD_CC_ADDR).toNat
      let e (i : Nat) : Nat := (s.dword (a + 4 * i / 8 * 8)).toNat / 2 ^ (32 * (i % 2)) % 2 ^ 32
      let x := (List.range 16).map e
      let y := (List.range 16).map fun i => e (16 + i)
      let byte (v i : Nat) : Nat := v / 2 ^ (8 * i) % 2 ^ 8
      let wants (v : Nat) : Bool := byte v 0 != 0 && byte v 3 == 1
      let meets (v : Nat) (l : List Nat) : Bool :=
        l.any fun o => byte o 0 == byte v 0 && byte o 3 == 0 && byte o 1 == byte v 1 && decide (byte v 2 ≤ byte o 2)
      let fails (v l : List Nat) (i : Nat) : Bool := wants (v.getD i 0) && !(meets (v.getD i 0) l)
      let first (v l : List Nat) (i : Nat) : Prop := i < 16 ∧ fails v l i = true ∧ ∀ j < i, fails v l j = false
      let stat (t : State) (result side entry : Nat) : Prop :=
        t.fld F.UPD_CC_STAT_RESULT = result ∧ t.fld F.UPD_CC_STAT_SIDE = side ∧ t.fld F.UPD_CC_STAT_ENTRY = entry
      s.bit F.UPD_CTRL_RUN = true → s.bit F.UPD_STAT_CCBUSY = false → a % 64 = 0 → (∀ j < 16, s.readable (a + 8 * j)) →
      regionOf (a + 127) = regionOf a →
      Answers (exec .compatCheck s) fun t =>
        Only s.blk [A.UPD_CC_STAT] s t ∧
        ((∀ v ∈ x ++ y, v < 2 ^ 25) →
          (∀ i < 16, (first x y i → stat t 2 0 i) ∧ ((∀ j < 16, fails x y j = false) → first y x i → stat t 2 1 i)) ∧
          ((∀ j < 16, fails x y j = false ∧ fails y x j = false) → stat t 1 0 0)) ∧
        ((x ++ y).any (fun v => decide (2 ^ 25 ≤ v)) = true → stat t 3 0 0)) ∧
     (let m := if erase then len.toNat else data.length
      let within (k : Nat) : Prop := off.toNat < imageOff k + 0x1800000 ∧ imageOff k < off.toNat + m
      let kept (k : Nat) : Prop := b.confirmed = some k ∨ u.running = some k ∨ s.bit F.UPD_STAT_TRIAL = true
      let at' := 0x0C000000 + off.toNat
      s.powered .sto = true → m ≠ 0 → off.toNat + m ≤ 0x4000000 →
       (∀ o, s.blk.memu.nor = some o → s.norProtected off.toNat m = false →
         Answers (exec (.norEraseProgram erase off len data) s) fun t =>
           t.blk.memu = { s.blk.memu with norq := s.blk.memu.norq ++ [⟨off.toNat, m, if erase then none else some data⟩] } ∧
           RegsBut [] s t ∧ MemSame s t ∧ CoresSame s t) ∧
       (s.blk.memu.nor = none → 0x100000 ≤ off.toNat → ¬ (within 0 ∧ kept 0) → ¬ (within 1 ∧ kept 1) → s.fld F.MEM_MAINT_STAT_GRANT = 0 →
         (erase = true ∨ ∀ j < m, s.store.byte (at' + j) = 0xFF) →
         Answers (exec (.norEraseProgram erase off len data) s) fun t =>
           t.store.bytes at' m = (if erase then List.replicate m 0xFF else data) ∧ MemBut at' m s t ∧ t.fld F.MEM_MAINT_STAT_GRANT = 1 ∧
           t.blk.memu.nor = some ⟨off.toNat, m, if erase then none else some data⟩ ∧
           (∀ k : Fin 2, t.upd.verified.getLsbD k = (u.verified.getLsbD k && !(decide (within k)))) ∧
           t.upd.overtaken = (u.overtaken || [0, 1].any fun k => decide (within k) && u.checking == some k) ∧
           RegsBut [A.MEM_MAINT_STAT] s t ∧ CoresSame s t) ∧
       (∀ k : Fin 2, within k → kept k →
         Answers (exec (.norEraseProgram erase off len data) s) fun t =>
           t.bit F.UPD_ERR_PROTWR = true ∧ Counts A.UPD_PROT_REFUSED 1 s t ∧ t.blk = { s.blk with rcd := s.logs 0x12 Block.sto.num at' 0 } ∧
           RegsBut [A.UPD_ERR, A.UPD_PROT_REFUSED, A.REC_DROPPED] s t ∧ MemSame s t))) ∧
  (∀ (counts : Bool) (valid : Nat → Bool) (b : BootState) (k : Fin 2), b.confirmed = some k.val →
    (b.trial = none → valid k = true → chooseSlot counts valid b = (b, .boot k 0 false, 0)) ∧
    (b.trial = none → valid k = false → valid (1 - k.val) = true → b.failed.getLsbD (1 - k.val) = false →
      chooseSlot counts valid b = ({ b with confirmed := some (1 - k.val), recovered := false }, .boot (1 - k.val) 5 false, 0)) ∧
    (b.trial = none → valid 0 = false → valid 1 = false → chooseSlot counts valid b = (b, .recovery, 0)) ∧
    (b.trial = some (1 - k.val) → valid (1 - k.val) = true → b.tries = 0 → b.recovered = false →
      chooseSlot counts valid b = ({ b with tries := 1 }, .boot (1 - k.val) 1 true, 0)) ∧
    (b.trial = some (1 - k.val) → valid k = true → b.tries = 1 → counts = true →
      (chooseSlot counts valid b).2.1 = .boot k (if valid (1 - k.val) then 2 else 0) false ∧ (chooseSlot counts valid b).2.2 = 3 ∧
      (chooseSlot counts valid b).1.trial = none ∧ (chooseSlot counts valid b).1.failed.getLsbD (1 - k.val) = true)) ∧
  (∀ (s : State) (i j : Nat) (b c : BootState), s.Inv → s.powered .upd = true → s.upd.boot = true → s.bit F.BON_STAT_COMMIT_BUSY = false →
    s.bit F.UPD_EVT_EN = false → (s.evq .upd).length < 8 → s.upd.recover = false → s.life ≠ 4 →
    (∀ w < 32, weight (s.errAt (csKey (0x400 + 4 * w))) = 0) → bootState (s.csBytes 0x400 64) = some (i, b) →
    bootState (s.csBytes 0x440 64) = some (j, c) → j ≤ i →
    let counts := 3 ≤ s.fld F.SYS_RST_CAUSE_KIND ∧ s.fld F.SYS_RST_CAUSE_KIND ≤ 6
    s.upd.state.floor = b.floor →
    let r := chooseSlot (decide counts) s.slotValid b
    let chosen := match r.2.1 with
      | .boot n reason trial => some (n, reason, trial)
      | .recovery => none
    Answers (exec .bootSlotChoice s) fun t =>
      t.upd.boot = false ∧ t.upd.state = r.1 ∧
      (r.1 ≠ b → t.store.bytes (csKey 0x440) 64 = bootCopy r.1 (i + 1)) ∧
      (chosen = none → t.upd.recovery = some ⟨none, none, none, none⟩ ∧ CoresSame s t) ∧
      (∀ p, chosen = some p →
        let m (o w : Nat) : Nat := s.store.le (0x0C000000 + imageOff p.1 + o) w
        t.upd.running = some p.1 ∧ t.fld F.UPD_STAT_SLOT = p.1 % 2 ∧ t.bit F.UPD_STAT_TRIAL = p.2.2 ∧ t.fld F.UPD_STAT_REASON = p.2.1 ∧
        (t.core 0).pc.toNat = m 0x14 4 ∧ (t.core 0).rd 4 = BitVec.ofNat 32 (p.1 + (if p.2.2 then 2 else 0) + p.2.1 * 2 ^ 8) ∧
        (t.core 0).rd 5 = BitVec.ofNat 32 (0x0C000000 + imageOff p.1) ∧ (t.core 0).run = .running ∧
        ∀ k : CoreId, k ≠ 0 → (t.core k).run = .takeWait)) ∧
  (∀ (s : State) (r : Recovery) (eth : Bool) (seq : BitVec 8) (len off : Word) (bytes : List Byte), s.Inv → s.powered .upd = true →
    s.upd.recovery = some r → s.fld F.MEM_MAINT_STAT_GRANT = 0 → [1, 2, 3].find? s.maintQueued = none →
    s.bit F.BON_STAT_COMMIT_BUSY = false →
    s.life ≠ 4 →
    let fac (o n : Nat) : List Byte := s.store.bytes (0x0C000000 + o) n
    let isFrame (type : Nat) (l : List Byte) (f : List Byte) : Prop :=
      ∃ n : Byte, let body := leBytes 1 type ++ [n] ++ leBytes 2 l.length ++ l; f = body ++ leBytes 4 (crc32 (body.map (·.toNat)))
    let onUsb (type : Nat) (l : List Byte) (t : State) : Prop := ∃ f, t.upd.usb = [0xA5, 0x5A] ++ f ∧ isFrame type l f
    let onUdp (type : Nat) (l : List Byte) (t : State) : Prop :=
      ∃ d, t.upd.udp = some d ∧ d.iface = (s.factory 0x15 1).headD 0 ∧ d.port = 6961 ∧ d.mac = fac 8 6 ∧ d.mask = (fac 0x1C 4).reverse ∧ isFrame type l d.frame ∧
        d.ip = (if fac 0x18 4 = [0, 0, 0, 0] then [169, 254] ++ (fac 8 6).drop 4 else (fac 0x18 4).reverse)
    let told (r : Recovery) (code : Nat) (t : State) : Prop :=
      t.upd.recovery = some r ∧ if eth then onUdp 0x15 [seq, BitVec.ofNat 8 code] t else onUsb 0x15 [seq, BitVec.ofNat 8 code] t
    let hasIface := 1 ≤ (s.factory 0x15 1).headD 0 ∧ (s.factory 0x15 1).headD 0 ≤ 3
    let rif := eth = false ∨ hasIface
    let inOrder := r.seq.all (fun p => (p + 1) % 256 == seq.toNat) = true
    let next : Recovery := { r with path := some eth, seq := some seq.toNat }
    (r.path = none → r.hello.all (· + 32768 ≤ s.pulses) = true →
      Answers (exec .hello s) fun t =>
        t.upd.recovery = some { r with hello := some s.pulses } ∧
        (∃ x : List Byte, x.length = 3 ∧
          let l := fac 0 8 ++ leBytes 1 s.life ++ x ++ leBytes 4 s.upd.state.floor
          onUsb 0x11 l t ∧ (hasIface → onUdp 0x11 l t)) ∧ RegsBut [] s t ∧ MemSame s t ∧ CoresSame s t) ∧
    (r.path = none → rif →
      Answers (exec (.updEnd eth seq) s) fun t => told r 1 t ∧ RegsBut [] s t ∧ MemSame s t ∧ CoresSame s t) ∧
    (r.path = none → rif → inOrder → len.toNat ≤ 0x1800000 → s.upd.state.confirmed = none →
      let n := if s.slotValid 0 && !(s.upd.state.failed.getLsbD 0) && !(s.slotValid 1 && !(s.upd.state.failed.getLsbD 1)) then 1 else 0
      let a := 0x0C000000 + imageOff n
      Answers (exec (.updBegin eth seq len false) s) fun t =>
        told { next with slot := some (n, len.toNat) } 0 t ∧ (∀ j, j < 0x1800000 → t.store.byte (a + j) = 0xFF) ∧ MemBut a 0x1800000 s t ∧
        RegsBut [A.MEM_MAINT_STAT] s t ∧ t.fld F.MEM_MAINT_STAT_GRANT = 0 ∧ CoresSame s t) ∧
    (r.path = some eth → rif → inOrder →
      (∀ p, r.slot = some p →
        let a := 0x0C000000 + imageOff p.1 + off.toNat
        off.toNat % 8 = 0 → 8 ≤ bytes.length → bytes.length ≤ 1016 → off.toNat + bytes.length ≤ p.2 →
        (∀ j < bytes.length, s.store.byte (a + j) = 0xFF) →
        (Answers (exec (.updData eth seq off bytes false) s) fun t =>
          told next 0 t ∧ t.store.bytes a bytes.length = bytes ∧ MemBut a bytes.length s t ∧ RegsBut [A.MEM_MAINT_STAT] s t ∧ CoresSame s t) ∧
        (Answers (exec (.updData eth seq off bytes true) s) fun t =>
          told next 5 t ∧ MemBut a bytes.length s t ∧ RegsBut [A.MEM_MAINT_STAT] s t ∧ CoresSame s t)) ∧
      (∀ p, r.slot = some p →
        let code := (s.verifyImage p.1).1
        Answers (exec (.updEnd eth seq) s) fun t =>
          if code = 1 then
            t.upd.state.trial = some p.1 ∧ t.upd.state.tries = 0 ∧ t.upd.state.recovered = true ∧ t.upd.boot = true ∧
            t.fld F.SYS_RST_CAUSE_KIND = 5 ∧
            if eth then onUdp 0x15 [seq, 0] t else onUsb 0x15 [seq, 0] t
          else
            told { next with path := none, slot := none } (if code = 5 then 4 else 3) t ∧ RegsBut [] s t ∧ MemSame s t ∧ CoresSame s t)))

/-! ### Gauntlet -/

/-- R427 to R430: a call that fails a check is answered with the first failure and has no other effect. R128, R427 to R429, R433: RANDOM,
HASH, ENCRYPT, DECRYPT, WRAP and PUBKEY write their output to `DST` and its length to `DLEN`, and answer OK; VERIFY, and a DECRYPT that
checks a tag, answer OK or AUTH_FAIL. A posted call that has its answer completes: its status is written and its block's address is
pushed. Model choices: log entries 8, 17, 37 and 43. -/
def Obligations.GauntletServicesComplete : Prop :=
  (let services : List (Nat × (Fin 16 → Instr)) :=
     [ (0x01, .random), (0x02, .hash), (0x03, .gntVerify), (0x10, .encrypt), (0x11, .decrypt), (0x20, .keyGen), (0x21, .keyLoad),
       (0x22, .wrap), (0x23, .unwrap), (0x24, .derive), (0x25, .ecdh), (0x26, .pubkey), (0x27, .destroy), (0x30, .credLoad),
       (0x31, .credSeal), (0x32, .sessChallenge), (0x33, .sessOpen), (0x34, .sessClose), (0x40, .lcAdvance) ]
   ∀ p ∈ services, ∀ (s : State) (n : Fin 16) (c : Call), s.Inv → s.serves n c → c.svc = p.1 → (s.callCheck c).1 ≠ 0 →
     ¬ (p.1 = 0x40 ∧ n = 0 ∧ s.bit F.GNT_STAT_TRANSIT = true) →
     let r := s.callCheck c
     Answers (exec (p.2 n) s) fun t =>
       Answered n c r.1 r.2 s t ∧ Resumed c r.1 r.2 s t ∧ t.gnt = { s.gnt with calls := t.gnt.calls } ∧ MemBut c.blk 8 s t ∧
       RegsBut [A.GNT_CALLS, A.GNT_REFUSED, A.GNT_STAT, A.MEM_FLIP_CFG] s t) ∧
  (∀ (s : State) (n : Fin 16) (c : Call) (r : RillNo) (st : DWord), s.Inv →
     let bytes (a m : Nat) : List Nat := (List.range m).map fun j => s.byteAt (a + j)
     let given (a m : Nat) : Prop := ∀ j < (a % 8 + m + 7) / 8, s.readable (a / 8 * 8 + 8 * j)
     let quiet (t : State) : Prop :=
       t.gnt.slots = s.gnt.slots ∧ t.gnt.creds = s.gnt.creds ∧ t.evq .gnt = s.evq .gnt ∧
       RegsBut [A.GNT_CALLS, A.GNT_REFUSED, A.GNT_STAT, A.MEM_FLIP_CFG] s t
     let ends (res det : Nat) (t : State) : Prop := Answered n c res det s t ∧ Resumed c res det s t ∧ quiet t
     let room (m : Nat) : Prop :=
       (∀ j < (m + 7) / 8, s.reaches (c.dst + 8 * j) = true) ∧ (c.dst + (m + 7) / 8 * 8 ≤ c.blk ∨ c.blk + 64 ≤ c.dst)
     let writes (out : List Nat) (t : State) : Prop :=
       ends 0 0 t ∧ t.store.bytes c.dst out.length = octets out ∧
       t.store.bytes (c.blk + 0x18) 8 = leBytes 8 (c.dst + out.length * 2 ^ 32) ∧
       MemOutside [(c.dst, (out.length + 7) / 8 * 8), (c.blk, 8), (c.blk + 0x18, 8)] s t
     let fails (t : State) : Prop := (∃ d, ends 7 d t) ∧ MemBut c.blk 8 s t
     let passes (svc : Nat) : Prop := s.serves n c ∧ c.svc = svc ∧ s.callCheck c = (0, 0)
     let key := s.keyOf c.slotA
     let m := bytes c.src c.len
     let aad := bytes c.aux (if c.mode ≤ 2 then c.auxLen else 0)
     let text := m.take (c.len - c.tag)
     let tag := m.drop (c.len - c.tag)
     (passes 1 →
       (s.bit F.GNT_STAT_DRBG_OK = false → Answers (exec (.random n) s) fun t => ends 1 4 t ∧ MemBut c.blk 8 s t) ∧
       (s.bit F.GNT_STAT_DRBG_OK = true → room c.len →
         Answers (exec (.random n) s) fun t => writes (nums (t.store.bytes c.dst c.len)) t)) ∧
     (passes 2 → given c.src c.len → room 32 → Answers (exec (.hash n) s) (writes (sha256 m))) ∧
     (passes 3 → given c.src 32 → given c.aux 64 → (c.index = 2 → given c.dst 64) →
       let pub := if c.index = 0 then s.factory 0x40 64 else if c.index = 1 then s.factory 0x80 64 else bytes c.dst 64
       Answers (exec (.gntVerify n) s) fun t =>
         if ecdsaVerify pub (bytes c.src 32) (bytes c.aux 64) then ends 0 0 t ∧ Ended c 0 s t else fails t) ∧
     (passes 0x10 → given c.src c.len → given c.aux (if c.mode ≤ 2 then c.auxLen else 0) →
       (c.mode = 1 → room (c.len + 16) → Answers (exec (.encrypt n) s) (writes (gcmSeal key (c.iv 12) aad m))) ∧
       (c.mode = 2 → room (c.len + c.tag) → Answers (exec (.encrypt n) s) (writes (ccmSeal key (c.iv 13) aad m c.tag))) ∧
       (c.mode = 3 → room c.len → Answers (exec (.encrypt n) s) (writes (aesCtr key (c.iv 16) m))) ∧
       (c.mode = 4 → room c.tag → Answers (exec (.encrypt n) s) (writes ((cmac key m).take c.tag))) ∧
       (c.mode = 5 → room c.tag → Answers (exec (.encrypt n) s) (writes ((hmac key m).take c.tag))) ∧
       (c.mode = 6 → room 64 → Answers (exec (.encrypt n) s) (writes (ecdsaSign (cNat key) m)))) ∧
     (passes 0x11 → given c.src c.len → given c.aux (if c.mode ≤ 2 then c.auxLen else 0) →
       (c.mode = 1 → room (c.len - 16) → Answers (exec (.decrypt n) s) fun t =>
         match gcmOpen key (c.iv 12) aad m with
         | some p => writes p t
         | none => fails t) ∧
       (c.mode = 2 → room (c.len - c.tag) → Answers (exec (.decrypt n) s) fun t =>
         match ccmOpen key (c.iv 13) aad m c.tag with
         | some p => writes p t
         | none => fails t) ∧
       (c.mode = 3 → room c.len → Answers (exec (.decrypt n) s) (writes (aesCtr key (c.iv 16) m))) ∧
       (c.mode = 4 ∨ c.mode = 5 →
         let mac := if c.mode = 4 then cmac key text else hmac key text
         Answers (exec (.decrypt n) s) fun t => if mac.take c.tag = tag then ends 0 0 t ∧ Ended c 0 s t else fails t)) ∧
     (passes 0x22 → room 48 →
       let attr := ((s.slot c.slotB).map (·.attr)).getD 0
       Answers (exec (.wrap n) s)
         (writes (keyWrap key (cPad 32 (s.keyOf c.slotB) ++ [attr % 256, attr / 256 % 256] ++ List.replicate 6 0)))) ∧
     (passes 0x26 → room 64 → Answers (exec (.pubkey n) s) (writes (publicKey (cNat key)))) ∧
     (s.powered .gnt = true → s.gnt.calls[n.val]? = some c → c.answer = some st → c.rill = some r → s.takes r → s.reaches c.blk = true → s.unawaited →
       (s.nextSlot r + 8 ≤ c.blk ∨ c.blk + 8 ≤ s.nextSlot r) →
       Answers (exec (.gpostCompletion n) s) fun t =>
         t.gnt = { s.gnt with calls := s.gnt.calls.eraseIdx n.val } ∧ Pushed r (BitVec.ofNat 64 c.blk) s t ∧
         (c.tried = false → t.store.bytes c.blk 8 = leBytes 8 (loWord st).toNat) ∧
         MemOutside [(s.nextSlot r, 8), (c.blk, 8)] s t ∧ CoresSame s t))

/-- R283, R428, R431, R444: KEY_GEN, KEY_LOAD, UNWRAP, DERIVE and ECDH fill slot B, and DESTROY empties it; no other slot changes. Every
valid RAD key entry that names the slot takes the effects of NEWKEY and is counted, and event 5 is posted.
Model choices: log entries 17, 37 and 43. -/
def Obligations.GauntletKeyServicesComplete : Prop :=
  ∀ (s : State) (n : Fin 16) (c : Call), s.Inv → s.powered .rad = true → s.evHeld gntEvt = true → (s.evq .gnt).length < 8 →
    let bytes (a m : Nat) : List Nat := (List.range m).map fun j => s.byteAt (a + j)
    let given (a m : Nat) : Prop := ∀ j < (a % 8 + m + 7) / 8, s.readable (a / 8 * 8 + 8 * j)
    let b := c.slotB
    let bound := (List.range 8).filter fun k => s.bit (F.RAD_KEY_CFG_VALID k) &&
      (s.fld (F.RAD_KEY_CFG_ENC_SLOT k) == b || s.fld (F.RAD_KEY_CFG_DEC_SLOT k) == b)
    let changes (t : State) : Prop :=
      t.keyGen b = (s.keyGen b + 1) % 2 ^ 16 ∧ Counts A.GNT_KEYCHG bound.length s t ∧
      (∀ k ∈ bound, (t.reg (A.RAD_KEY_FC k) = 0 ∧ t.reg (A.RAD_KEY_CEIL k) = 0 ∧ t.blk.rad.armed.getLsbD k = false)) ∧
      t.evq .gnt = s.evq .gnt ++
        (if s.bit F.GNT_EVT_EN && !bound.isEmpty then [BitVec.ofNat 64 (5 + b * 2 ^ 8 + bound.length * 2 ^ 32)] else [])
    let ends (res det : Nat) (t : State) : Prop :=
      Answered n c res det s t ∧ (bound = [] → Resumed c res det s t ∧ Ended c res s t ∧
        RegsBut [A.GNT_CALLS, A.GNT_REFUSED, A.GNT_STAT, A.MEM_FLIP_CFG] s t)
    let fills (attr : Nat) (key : List Nat) (t : State) : Prop :=
      ends 0 0 t ∧ changes t ∧ t.slot b = some ⟨attr, octets key⟩ ∧ ∀ j, j ≠ b → t.slot j = s.slot j
    let keeps (res det : Nat) (t : State) : Prop := ends res det t ∧ t.gnt.slots = s.gnt.slots
    let passes (svc : Nat) : Prop := s.serves n c ∧ c.svc = svc ∧ s.callCheck c = (0, 0)
    let type := attrType c.attr
    let key := s.keyOf c.slotA
    let derived (ikm info : List Nat) : List Nat :=
      if type = 4 then cBytes 32 (scalarOf (hkdf ikm [] info 40)) else hkdf ikm [] info (keyBytes type)
    (passes 0x20 →
      (s.bit F.GNT_STAT_DRBG_OK = false → Answers (exec (.keyGen n) s) (keeps 1 4)) ∧
      (s.bit F.GNT_STAT_DRBG_OK = true → Answers (exec (.keyGen n) s) fun t =>
        fills c.attr (t.keyOf b) t ∧ (t.keyOf b).length = keyBytes type)) ∧
    (passes 0x21 → given c.src c.len → Answers (exec (.keyLoad n) s) (fills c.attr (bytes c.src c.len))) ∧
    (passes 0x23 → given c.src 48 → Answers (exec (.unwrap n) s) fun t =>
      match keyUnwrap key (bytes c.src 48) with
      | none => ∃ d, keeps 7 d t
      | some p =>
        let attr := p.getD 32 0 + 256 * p.getD 33 0
        if p.length = 40 ∧ attrOk attr = true ∧ (p.drop 34).all (· == 0) = true then
          if c.sys = true ∨ attrTask attr = true then fills attr (p.take (keyBytes (attrType attr))) t else keeps 5 0 t
        else ∃ d, keeps 7 d t) ∧
    (passes 0x24 → given c.src c.len → Answers (exec (.derive n) s) (fills c.attr (derived key (bytes c.src c.len)))) ∧
    (passes 0x25 → given c.src 64 → given c.aux c.auxLen →
      (∀ x, ecdhX (cNat key) (bytes c.src 64) = some x →
        Answers (exec (.ecdh n) s) (fills c.attr (derived x (bytes c.aux c.auxLen)))) ∧
      (ecdhX (cNat key) (bytes c.src 64) = none → Answers (exec (.ecdh n) s) (keeps 8 0x10))) ∧
    (passes 0x27 →
      ((s.slot b).isSome → Answers (exec (.destroy n) s) fun t =>
        ends 0 0 t ∧ changes t ∧ t.slot b = none ∧ ∀ j, j ≠ b → t.slot j = s.slot j) ∧
      (s.slot b = none → Answers (exec (.destroy n) s) (keeps 0 0)))

/-- R442 to R446: a sealed credential is loaded, and a credential sealed. A session starts with a signed challenge; a right response in time
opens it and fills its two slots, a wrong one frees it, and the fifth failure on end locks the credential. A session closes, by its call or
by its idle limit, and its slots empty. Model choices: log entries 8, 17, 37 and 43. -/
def Obligations.CredentialsAndSessionsComplete : Prop :=
  ∀ (s : State) (n : Fin 16) (c : Call) (e : Fin 8) (k : Fin 16), s.Inv → s.evHeld gntEvt = true → (s.evq .gnt).length < 7 →
    (∀ k < 8, s.bit (F.RAD_KEY_CFG_VALID k) = true → s.fld (F.RAD_KEY_CFG_ENC_SLOT k) < 240 ∧ s.fld (F.RAD_KEY_CFG_DEC_SLOT k) < 240) →
    let bytes (a m : Nat) : List Nat := (List.range m).map fun j => s.byteAt (a + j)
    let given (a m : Nat) : Prop := ∀ j < (a % 8 + m + 7) / 8, s.readable (a / 8 * 8 + 8 * j)
    let item (kind who cred detail : Nat) : DWord := BitVec.ofNat 64 (kind + who * 2 ^ 8 + cred % 2 ^ 8 * 2 ^ 16 + detail * 2 ^ 32)
    let told (l : List DWord) (t : State) : Prop := t.evq .gnt = s.evq .gnt ++ (if s.bit F.GNT_EVT_EN then l else [])
    let ends (res det : Nat) (t : State) : Prop := Answered n c res det s t ∧ Resumed c res det s t
    let same (res : Nat) (t : State) : Prop :=
      t.gnt.creds = s.gnt.creds ∧ t.gnt.slots = s.gnt.slots ∧ told [] t ∧ Ended c res s t
    let refused (res det : Nat) (t : State) : Prop := ends res det t ∧ t.gnt.sessions = s.gnt.sessions ∧ same res t
    let room (m : Nat) : Prop :=
      (∀ j < m / 8 + 1, s.reaches (c.dst + 8 * j) = true) ∧ (c.dst + m + 8 ≤ c.blk ∨ c.blk + 64 ≤ c.dst)
    let wrote (m : Nat) (t : State) : Prop :=
      t.store.bytes (c.blk + 0x18) 8 = leBytes 8 (c.dst + m * 2 ^ 32) ∧
      MemOutside [(c.dst, (m + 7) / 8 * 8), (c.blk, 8), (c.blk + 0x18, 8)] s t
    let passes (svc : Nat) : Prop := s.serves n c ∧ c.svc = svc ∧ s.callCheck c = (0, 0)
    let root := s.keyOf 0
    let i := c.session
    let ms (p : Nat) : Prop := p + 30 * 32768 ≤ s.pulses
    (passes 0x30 → given c.src 160 →
      let m := bytes c.src 160
      Answers (exec (.credLoad n) s) fun t =>
        match gcmOpen root (m.take 12) [] ((m.drop 12).take 144) with
        | none => ∃ d, refused 7 d t
        | some p =>
          if credBad p then refused 8 0x10 t
          else
            ends 0 0 t ∧ Ended c 0 s t ∧ t.cred c.index = some ⟨octets p, 0, none⟩ ∧ (∀ j < 16, j ≠ c.index → t.cred j = s.cred j) ∧
            (t.fld F.GNT_CRED_STAT_LOADED).testBit c.index = true ∧ t.gnt.sessions = s.gnt.sessions ∧ t.gnt.slots = s.gnt.slots) ∧
    (passes 0x31 →
      (s.life = 2 → s.isAdmin i = false → Answers (exec (.credSeal n) s) fun t => ∃ d, ends 7 d t ∧ same 7 t) ∧
      (s.life ≠ 2 ∨ s.isAdmin i = true → given c.src 128 → room 160 → credBad (bytes c.src 128) = false →
        Answers (exec (.credSeal n) s) fun t =>
          let out := nums (t.store.bytes c.dst 160)
          ends 0 0 t ∧ wrote 160 t ∧ out.drop 12 = gcmSeal root (out.take 12) [] (bytes c.src 128) ++ List.replicate 4 0) ∧
      (s.life ≠ 2 ∨ s.isAdmin i = true → given c.src 128 → credBad (bytes c.src 128) = true →
        Answers (exec (.credSeal n) s) fun t => ends 8 0x10 t ∧ same 8 t)) ∧
    (passes 0x32 → s.bit F.GNT_STAT_DRBG_OK = true →
      ((∀ j < 8, (s.session j).isSome = true) → Answers (exec (.sessChallenge n) s) (refused 1 5)) ∧
      (s.session e.val = none → (∀ j < e.val, (s.session j).isSome = true) →
        (s.cred c.index = none → Answers (exec (.sessChallenge n) s) (refused 7 1)) ∧
        (∀ q, s.cred c.index = some q →
          let transport := c.fld 0x38 1
          let offers := natBits (mf q.bytes 1 1) transport 1 = 1
          (q.locked.isSome → Answers (exec (.sessChallenge n) s) (refused 7 2)) ∧
          (q.locked = none → ¬ offers → Answers (exec (.sessChallenge n) s) (refused 7 3)) ∧
          (q.locked = none → offers → room 184 → Answers (exec (.sessChallenge n) s) fun t =>
            let out := nums (t.store.bytes c.dst 184)
            ends 0 0 t ∧ wrote 184 t ∧ (∀ j < 8, j ≠ e.val → t.session j = s.session j) ∧ t.gnt.creds = s.gnt.creds ∧
            t.gnt.slots = s.gnt.slots ∧ (t.fld F.GNT_STAT_SESS_PEND).testBit e.val = true ∧ out.take 8 = e.val :: List.replicate 7 0 ∧
            (out.drop 0x72).take 6 = List.replicate 6 0 ∧ out.drop 0x78 = ecdsaSign (cNat (s.keyOf 2)) (sha256 ((out.drop 8).take 106)) ∧
            (t.session e.val).isSome = true ∧
            ∀ r, t.session e.val = some r →
              r.cred = c.index ∧ r.since = s.pulses ∧ r.waiting = true ∧ nums r.t0 = (out.drop 8).take 106 ∧
              (nums r.t0).drop 32 = publicKey (cNat (nums r.priv)) ++ s.serial ++ [transport, c.index])))) ∧
    (passes 0x33 → (s.session i).all (fun q => !q.waiting) = true →
      Answers (exec (.sessOpen n) s) fun t => ends 8 0x0E t ∧ same 8 t) ∧
    (passes 0x33 → given c.src 128 → s.powered .rad = true → i < 8 →
      ∀ q, s.session i = some q → q.waiting = true → ∀ r, s.cred q.cred = some r →
        let m := bytes c.src 128
        let t0 := nums q.t0
        let z := ecdhX (cNat (nums q.priv)) (m.take 64)
        let good := !(decide (ms q.since)) && z.isSome && proofOk r (sha256 (t0 ++ m.take 64)) (m.drop 64)
        let derived (info : List Nat) : List Nat := hkdf (z.getD []) (t0.take 32) info 16
        (good = true → room 4 → Answers (exec (.sessOpen n) s) fun t =>
          ends 0 0 t ∧ wrote 4 t ∧ told [item 1 i q.cred 0] t ∧ t.cred q.cred = some { r with fails := 0 } ∧
          t.session i = some { q with waiting := false, since := s.pulses, priv := [], roles := mf r.bytes 2 2 } ∧
          (∀ j < 8, j ≠ i → t.session j = s.session j) ∧ (t.fld F.GNT_STAT_SESS_OPEN).testBit i = true ∧
          t.slot (240 + 2 * i) = some ⟨0x01, octets (derived [0x6D, 0x32, 0x68])⟩ ∧
          t.slot (241 + 2 * i) = some ⟨0x11, octets (derived [0x68, 0x32, 0x6D])⟩ ∧
          t.store.bytes c.dst 4 = leBytes 2 (mf r.bytes 2 2) ++ [BitVec.ofNat 8 i, 0]) ∧
        (good = false → Answers (exec (.sessOpen n) s) fun t =>
          let locks := r.fails + 1 = 5
          (∃ d, ends 7 d t) ∧ t.session i = none ∧ (∀ j < 8, j ≠ i → t.session j = s.session j) ∧ t.gnt.slots = s.gnt.slots ∧
          Counts A.GNT_AUTH_FAIL 1 s t ∧ told (item 3 i q.cred 0 :: if locks then [item 4 i q.cred 0] else []) t ∧
          t.cred q.cred = some { r with fails := r.fails + 1, locked := if 5 ≤ r.fails + 1 then some s.pulses else r.locked })) ∧
    (let closed (i reason : Nat) (q : Session) (t : State) : Prop :=
       t.session i = none ∧ (∀ j < 8, j ≠ i → t.session j = s.session j) ∧ t.gnt.creds = s.gnt.creds ∧
       (q.waiting = false → told [item 2 i q.cred reason] t ∧ t.slot (240 + 2 * i) = none ∧ t.slot (241 + 2 * i) = none) ∧
       (∀ j < 240, t.slot j = s.slot j) ∧ (t.fld F.GNT_STAT_SESS_OPEN).testBit i = false ∧ (t.fld F.GNT_STAT_SESS_PEND).testBit i = false
     (passes 0x34 → i < 8 →
       (s.session i = none → Answers (exec (.sessClose n) s) (refused 0 0)) ∧
       (∀ q, s.session i = some q → Answers (exec (.sessClose n) s) fun t => ends 0 0 t ∧ Ended c 0 s t ∧ closed i 0 q t)) ∧
     (s.powered .gnt = true → ∀ q, s.session e.val = some q →
       (q.waiting = true → Answers (exec (.sessionChallengeExpire e) s) fun t =>
         if ms q.since then closed e.val 1 q t ∧ t.gnt.slots = s.gnt.slots ∧ RegsBut [A.GNT_STAT, A.GNT_CRED_STAT] s t ∧ MemSame s t ∧ CoresSame s t
         else t = s) ∧
       (q.waiting = false → Answers (exec (.sessionTimeout e) s) fun t =>
         let limit := s.fld F.GNT_SESS_TIMEOUT_SECONDS
         if limit ≠ 0 ∧ q.since + limit * 32768 ≤ s.pulses then
           if s.vaultClear (.close e.val 1) s.gnt.calls.length then closed e.val 1 q t ∧ MemSame s t ∧ CoresSame s t
           else t.gnt.due.any (·.1 == .close e.val 1) = true ∧ t.gnt = { s.gnt with due := t.gnt.due } ∧ Only { s.blk with gnt := t.gnt } [] s t
         else t = s)) ∧
     (s.powered .gnt = true → ∀ q, s.cred k.val = some q → ∀ p, q.locked = some p → Answers (exec (.credentialUnlock k) s) fun t =>
       if p + 60 * 32768 ≤ s.pulses then
         t.cred k.val = some { q with locked := none, fails := 0 } ∧ (∀ j < 16, j ≠ k.val → t.cred j = s.cred j) ∧
         (t.fld F.GNT_CRED_STAT_LOCKED).testBit k.val = false ∧ t.gnt.sessions = s.gnt.sessions ∧ t.gnt.slots = s.gnt.slots ∧
         RegsBut [A.GNT_STAT, A.GNT_CRED_STAT] s t ∧ MemSame s t ∧ CoresSame s t
       else t = s))

/-- R433, R437 to R441: LC_ADVANCE is refused outside the transitions of the table, without `RKEY`, or for a wrong token; else the keys,
sessions and credentials go, the fuse row of the target is burned and the module is reset into it. Debug opens where the state lets it, and
brings the test root; a failed unlock is counted and renews the challenge. The health of the noise source stops and restores its services.
Inputs reach their block while their pad bank is usable (R519). What a reset leaves of cores and Weir rests on log entries 1 and 36.
Model choices: log entries 1, 8, 9, 36, 37 and 43. -/
def Obligations.LifeCycleAndDebugComplete : Prop :=
  ∀ (s : State) (n : Fin 16) (c : Call) (k : CoreId) (resp : List Byte), s.Inv → s.powered .gnt = true →
    let bytes (a m : Nat) : List Nat := (List.range m).map fun j => s.byteAt (a + j)
    let tgt := c.index
    let from' := s.life
    let refused (res det : Nat) (t : State) : Prop :=
      Answered n c res det s t ∧ Resumed c res det s t ∧ t.gnt = { s.gnt with calls := t.gnt.calls } ∧ t.life = from' ∧
      t.store.fuses = s.store.fuses ∧ MemBut c.blk 8 s t
    let rkey := s.factory 0xC0 64
    let allowed := (from', tgt) ∈ [(0, 1), (1, 2), (2, 3), (0, 4), (1, 4), (2, 4), (3, 4)]
    let digest := sha256 (s.challenge ++ s.serial ++ [tgt])
    let emptied (t : State) : Prop := (∀ j, 4 ≤ j → t.slot j = none) ∧ ∀ j < 8, t.session j = none
    let advanced (t : State) : Prop :=
      t.fuseState = tgt ∧ t.life = from' ∧ (∀ b < 3, 3 * (tgt - 1) + b ∈ t.store.fuses) ∧ (∀ f ∈ s.store.fuses, f ∈ t.store.fuses) ∧
      emptied t ∧ (∀ j < 16, t.cred j = none) ∧ t.gnt.calls = s.gnt.calls ∧ t.bit F.LCS_STAT_PENDING = true ∧
      t.bit F.GNT_STAT_TRANSIT = true ∧ (tgt = 1 → drsFuse ∈ t.store.fuses)
    let waits (t : State) : Prop :=
      t.gnt.due.any (·.1 == .debug) = true ∧ t.gnt = { s.gnt with due := t.gnt.due } ∧ Only { s.blk with gnt := t.gnt } [] s t
    let opened (t : State) : Prop :=
      t.bit F.LCS_STAT_DEBUG = true ∧ t.bit F.LCS_STAT_TESTROOT = true ∧ emptied t ∧ t.life = from' ∧ t.gnt.creds = s.gnt.creds ∧
      (let keys := rootKeys ((List.range 32).map fun i => (Config.testRoot i).toNat) s.serial from'
       ∀ j < 4, t.slot j = some ⟨rootAttrs.getD j 0, octets (keys.getD j [])⟩) ∧ t.store.fuses = s.store.fuses ∧ MemSame s t
    (s.serves n c → c.svc = 0x40 → s.callCheck c = (0, 0) → s.fuseState = from' → from' ≤ 4 →
      (¬ allowed → Answers (exec (.lcAdvance n) s) (refused 6 9)) ∧
      (from' = 1 → tgt = 2 → rkey.all (· == 0) = true → Answers (exec (.lcAdvance n) s) (refused 6 10)) ∧
      (from' ≠ 2 → allowed → ¬ (tgt = 2 ∧ rkey.all (· == 0) = true) → Answers (exec (.lcAdvance n) s) advanced) ∧
      (from' = 2 → allowed → (∀ j < (c.src % 8 + 71) / 8, s.readable (c.src / 8 * 8 + 8 * j)) →
        Answers (exec (.lcAdvance n) s) fun t =>
          if ecdsaVerify rkey digest (bytes c.src 64) then advanced t
          else (∃ d, refused 7 d t) ∧ Counts A.GNT_AUTH_FAIL 1 s t)) ∧
    (s.bit F.GNT_STAT_TRANSIT = true → n = 0 → Answers (exec (.lcAdvance n) s) fun t =>
      ResetBy 4 s t ∧ t.life = s.fuseState ∧ emptied t ∧ (∀ j < 16, t.cred j = none) ∧ t.gnt.calls = [] ∧
      t.bit F.GNT_STAT_TRANSIT = false ∧ t.bit F.LCS_STAT_DEBUG = decide (s.fuseState = 0 ∨ s.fuseState = 3) ∧
      t.bit F.LCS_STAT_DRS = s.store.fuses.contains drsFuse) ∧
    (Answers (exec (.debugon k) s) fun t =>
      if (s.core k).sys = true ∧ s.bit F.LCS_CTRL_RUN = true ∧ from' = 1 ∧ s.bit F.LCS_STAT_DEBUG = false then
        if s.vaultClear .debug s.gnt.calls.length then opened t else waits t
      else t = s) ∧
    (let dkey := s.factory 0x100 64
     let good := from' = 1 ∨
       (from' = 2 ∧ dkey.any (· != 0) = true ∧ ecdsaVerify dkey (sha256 (s.challenge ++ s.serial)) (nums (resp.take 64)) = true)
     Answers (exec (.lcUnlock resp) s) fun t =>
       if s.bankA = true ∧ (from' = 1 ∨ from' = 2) ∧ s.bit F.LCS_STAT_DEBUG = false ∧ s.gnt.unlockFails < 8 ∧ s.gnt.unlockAt ≤ s.pulses then
         (good → if s.vaultClear .debug s.gnt.calls.length then opened t else waits t) ∧
         (¬ good → t.gnt = { s.gnt with unlockFails := s.gnt.unlockFails + 1, unlockAt := s.pulses + 32768 } ∧
           t.bit F.LCS_ERR_UNLOCKFAIL = true ∧ Counts A.LCS_UNLOCK_FAIL 1 s t ∧
           (s.gnt.unlockFails = 7 → t.bit F.LCS_STAT_UNLOCKOFF = true) ∧
           RegsBut ([A.LCS_ERR, A.LCS_UNLOCK_FAIL, A.LCS_STAT] ++ (List.range 8).map A.LCS_CHAL) s t ∧ MemSame s t ∧ CoresSame s t)
       else t = s) ∧
    (s.evHeld gntEvt = true → (s.evq .gnt).length < 8 → Answers (exec .drbgHealthFail s) fun t =>
      t.bit F.GNT_STAT_DRBG_OK = false ∧ t.bit F.GNT_ERR_DRBG = true ∧
      t.evq .gnt = s.evq .gnt ++ (if s.bit F.GNT_EVT_EN then [7] else []) ∧ RegsBut [A.GNT_STAT, A.GNT_ERR] s t ∧ MemSame s t ∧
      CoresSame s t) ∧
    (Answers (exec .drbgHealthRecover s) fun t => Only s.blk [A.GNT_STAT] s t ∧ t.bit F.GNT_STAT_DRBG_OK = true)

/-! ### Memory integrity -/

/-- R452, R462: the scrubber reads the next valid code word of a memory: a single error is reported and its correction waits to be written
back, an uncorrectable one is reported once. The write-back takes place where the word has not changed since. R459, R460, R465 to R469: an
activity that asks for the grant gets it, is queued or is refused; once the holder has released it, the grant goes to the lowest-numbered that
waits (the model's choice of the moment: log entry 20). A write to an initialising range, or to DRAM while it retrains, is done when
its wait is over (log entry 24). R470: events still queued when EN is written 0 are discarded.
Retraining and the self-test end with their events. An initialisation makes its range read as zero; a spare line is installed for a line
that no entry holds, and removed. Model choices: log entries 2, 20, 24 and 38. -/
def Obligations.MemoryUnitCompletes : Prop :=
  (∀ (s : State) (m : Fin 3), s.Inv → s.evHeld memEvt = true → (s.evq .mem).length < 7 →
     (s.running .mem = true → s.domOn (memDomain (memStart m)) = true → s.scrubPaused m = false →
       (m.val = 2 → s.bit F.MEM_STAT_RETRAIN = false) →
       (s.nextValid m s.blk.memu.scrubAt[m] = none → Answers (exec (.scrubRead m) s) fun t =>
         t.blk.memu = { s.blk.memu with scrubAt := s.blk.memu.scrubAt.set m 0 } ∧ RegsBut [] s t ∧ MemSame s t ∧ CoresSame s t ∧
         t.evq .mem = s.evq .mem ++ (if s.bit F.MEM_EVT_EN then [memItem 5 m.val 0] else [])) ∧
       (∀ a, s.nextValid m s.blk.memu.scrubAt[m] = some a →
         let last := (s.nextValid m (a + 8 - memStart m)).isNone
         let u := { s.blk.memu with scrubAt := s.blk.memu.scrubAt.set m (if last then 0 else a + 8 - memStart m) }
         let told (l : List DWord) (t : State) : Prop :=
           t.evq .mem = s.evq .mem ++ (if s.bit F.MEM_EVT_EN then l ++ (if last then [memItem 5 m.val 0] else []) else [])
         (weight (s.errAt a) = 0 → Answers (exec (.scrubRead m) s) fun t =>
           t.blk.memu = u ∧ told [] t ∧ RegsBut [] s t ∧ MemSame s t ∧ CoresSame s t) ∧
         (weight (s.errAt a) = 1 → Answers (exec (.scrubRead m) s) fun t =>
           t.blk.memu = { u with writebacks := u.writebacks ++ [(a, s.store.w64 a, s.errAt a, s.store.w64 a)] } ∧ told [] t ∧
           Counts (A.MEM_CE_BASIN + 4 * m.val) 1 s t ∧ t.reg A.MEM_LAST_CE = BitVec.ofNat 32 a ∧
           RegsBut [A.MEM_CE_BASIN + 4 * m.val, A.MEM_LAST_CE] s t ∧ MemSame s t ∧ CoresSame s t) ∧
         (weight (s.errAt a) = 2 → Answers (exec (.scrubRead m) s) fun t =>
           if u.scrubbed.contains a then t.blk.memu = u ∧ told [] t ∧ RegsBut [] s t ∧ MemSame s t ∧ CoresSame s t
           else
             t.blk.memu = { u with scrubbed := (a :: u.scrubbed).take 16 } ∧ told [memItem 1 m.val (a - memStart m)] t ∧
             t.bit ⟨A.MEM_ERR, 2 + m.val, 1⟩ = true ∧ Counts (A.MEM_UE_BASIN + 4 * m.val) 1 s t ∧
             t.reg A.MEM_LAST_UE = BitVec.ofNat 32 a ∧
             RegsBut [A.MEM_ERR, A.MEM_UE_BASIN + 4 * m.val, A.MEM_LAST_UE, A.REC_DROPPED] s t ∧ MemSame s t ∧ CoresSame s t))) ∧
     (s.powered .mem = true → ∀ w rest, s.blk.memu.writebacks = w :: rest → Answers (exec .writeback s) fun t =>
       let a := w.1
       t.blk = { s.blk with memu := { s.blk.memu with writebacks := rest } } ∧
       (if s.isValid a = true ∧ s.store.w64 a = w.2.1 ∧ s.errAt a = w.2.2.1 then
          t.store.bytes a 8 = leBytes 8 w.2.2.2.toNat ∧ t.errAt a = 0 ∧ MemBut a 8 s t ∧ Counts A.MEM_WRITEBACK 1 s t ∧ RegsBut [A.MEM_WRITEBACK] s t
        else t.store = s.store))) ∧
  (∀ (s : State) (v : Word) (dram : Bool) (e : Fin 16) (line : BitVec 25) (lines : List (BitVec 25)), s.Inv → s.powered .mem = true →
     s.evHeld memEvt = true → (s.evq .mem).length < 8 →
     let told (l : List DWord) (t : State) : Prop := t.evq .mem = s.evq .mem ++ (if s.bit F.MEM_EVT_EN then l else [])
     let grant := s.fld F.MEM_MAINT_STAT_GRANT
     let act := v.toNat % 8
     let queued (a : Nat) : Bool := s.bit ⟨A.MEM_MAINT_STAT, 7 + a, 1⟩
     let same (t : State) : Prop := MemSame s t ∧ CoresSame s t
     let stats := [A.MEM_MAINT_STAT, A.MEM_STAT]
     let before (n : Nat) : Prop := ∀ a ∈ [1, 2, 3], a < n → queued a = false
     let passesOn (t : State) : Prop :=
       (queued 1 = false → queued 2 = false → queued 3 = false → t.fld F.MEM_MAINT_STAT_GRANT = 0) ∧
       (queued 1 = false → queued 2 = true →
         t.fld F.MEM_MAINT_STAT_GRANT = 2 ∧ t.bit F.MEM_STAT_RETRAIN = true ∧ t.bit ⟨A.MEM_MAINT_STAT, 9, 1⟩ = false)
     (v.getLsbD 31 = true → act = 2 ∨ (act = 3 ∧ s.testRegionOk = true) → grant = 0 → before act → Answers (exec (.maintRequest v) s) fun t =>
       t.fld F.MEM_MAINT_STAT_GRANT = act ∧ t.fld F.MEM_MAINT_STAT_RESULT = 0 ∧ t.bit F.MEM_STAT_RETRAIN = (act == 2 || s.bit F.MEM_STAT_RETRAIN) ∧
       t.bit F.MEM_STAT_STBUSY = (act == 3 || s.bit F.MEM_STAT_STBUSY) ∧
       (act = 3 → t.bit F.MEM_STAT_SCRUBPAUSE = true) ∧
       t.blk = { s.blk with memu := { s.blk.memu with
         test := if act = 3 then ((s.reg A.MEM_ST_BASE).toNat, s.fld F.MEM_ST_CTL_LEN * 4096) else s.blk.memu.test } } ∧ RegsBut (A.MEM_MAINT_REQ :: stats) s t ∧ same t) ∧
     (v.getLsbD 31 = true → act = 2 ∨ act = 3 → grant ≠ 0 → Answers (exec (.maintRequest v) s) fun t =>
       t.fld F.MEM_MAINT_STAT_GRANT = grant ∧ t.fld F.MEM_MAINT_STAT_RESULT = (if v.getLsbD 3 then 1 else 2) ∧
       t.bit ⟨A.MEM_MAINT_STAT, 7 + act, 1⟩ = (v.getLsbD 3 || queued act) ∧ Counts A.MEM_MAINT_REFUSED 1 s t ∧
       told [memItem 2 act act] t ∧ RegsBut [A.MEM_MAINT_REQ, A.MEM_MAINT_STAT, A.MEM_MAINT_REFUSED] s t ∧ same t) ∧
     (v.getLsbD 31 = true → (act ≠ 2 ∧ act ≠ 3) ∨ (act = 3 ∧ grant = 0 ∧ before 3 ∧ s.testRegionOk = false) →
       Answers (exec (.maintRequest v) s) fun t =>
         Only s.blk [A.MEM_MAINT_REQ, A.MEM_MAINT_STAT] s t ∧ t.fld F.MEM_MAINT_STAT_RESULT = 3 ∧ t.fld F.MEM_MAINT_STAT_GRANT = grant) ∧
     (queued 1 = false →
       (grant = 0 → Answers (exec (.grantRelease none none false) s) fun t => passesOn t ∧ same t) ∧
       (grant = 1 → s.blk.memu.norq = [] → Answers (exec (.grantRelease none none false) s) fun t =>
         passesOn t ∧ t.blk.memu.nor = none ∧ same t) ∧
       (∀ o, grant = 1 → s.blk.memu.norq = [o] → s.norProtected o.off o.len = false → o.data = none →
         Answers (exec (.grantRelease none none false) s) fun t =>
           t.fld F.MEM_MAINT_STAT_GRANT = 1 ∧ t.blk.memu.nor = some o ∧ t.blk.memu.norq = [] ∧ queued 2 = t.bit ⟨A.MEM_MAINT_STAT, 9, 1⟩ ∧
           queued 3 = t.bit ⟨A.MEM_MAINT_STAT, 10, 1⟩ ∧ MemBut (0x0C000000 + o.off) o.len s t ∧ RegsBut [A.MEM_MAINT_STAT] s t) ∧
       (grant = 0 ∨ (grant = 4 ∧ s.powered .rad = false) → queued 2 = false → queued 3 = true → act = 2 → v.getLsbD 31 = true →
         Answers (exec (.grantRelease (some v) none false) s) fun t =>
           t.fld F.MEM_MAINT_STAT_GRANT = 2 ∧ t.bit F.MEM_STAT_RETRAIN = true ∧ t.bit ⟨A.MEM_MAINT_STAT, 10, 1⟩ = true ∧
           RegsBut (A.MEM_MAINT_REQ :: stats) s t ∧ same t) ∧
       (grant = 2 → s.domOn 14 = true → Answers (exec (.grantRelease none none false) s) fun t => t = s) ∧
       (grant = 4 → s.powered .rad = false → Answers (exec (.grantRelease none none false) s) fun t =>
         passesOn t ∧ MemSame s t) ∧
       (s.bit F.MEM_STAT_RETRAIN = true → grant = 2 → Answers (exec .retrainingEnd s) fun t =>
         t.fld F.MEM_MAINT_STAT_GRANT = 0 ∧ told [memItem 4 2 0] t ∧ t.bit F.MEM_STAT_RETRAIN = false ∧ RegsBut stats s t ∧ same t) ∧
       (s.bit F.MEM_STAT_STBUSY = true → grant = 3 → Answers (exec (.memSelfTestEnd lines) s) fun t =>
         let base := s.blk.memu.test.1
         let bad := (lines.map (·.toNat)).eraseDups.filter (· < s.blk.memu.test.2 / 64)
         t.fld F.MEM_MAINT_STAT_GRANT = 0 ∧ told [memItem 3 (memNumber base) bad.length] t ∧ t.reg A.MEM_ST_RES = BitVec.ofNat 32 bad.length ∧
         (∀ l ∈ bad, (∀ k ∈ bad, l ≤ k) → t.reg A.MEM_ST_FIRST = BitVec.ofNat 32 (base + 64 * l)) ∧
         t.bit F.MEM_STAT_STBUSY = false ∧ t.bit F.MEM_STAT_SCRUBPAUSE = false ∧
         RegsBut ([A.MEM_ST_RES, A.MEM_ST_FIRST] ++ stats) s t ∧ same t)) ∧
     (let n := v.toNat % 2 ^ 19
      let m := v.toNat / 2 ^ 20 % 4
      let a := (s.reg A.MEM_INIT_BASE).toNat
      let start := [0x10000000, 0x20000000, 0x80000000].getD m 0
      let size := [0x400000, 0x100000, 0x70000000].getD m 0
      v.getLsbD 31 = true → (m = 1 → s.running .rill = false) →
        (a % 4096 = 0 → n ≠ 0 → m ≠ 3 → start ≤ a → a + 4096 * n ≤ start + size → Answers (exec (.memInit v) s) fun t =>
          (∀ j < n, ∀ i < 512, t.isValid (a + 4096 * j + 8 * i) = false) ∧ MemBut a (4096 * n) s t ∧ t.bit F.MEM_STAT_INITBUSY = true ∧
          t.blk.memu.inits = (a, 4096 * n) :: s.blk.memu.inits ∧
          RegsBut [A.MEM_INIT_CTL, A.MEM_STAT] s t ∧ CoresSame s t) ∧
        (a % 4096 ≠ 0 ∨ n = 0 ∨ m = 3 ∨ a < start ∨ start + size < a + 4096 * n → Answers (exec (.memInit v) s) fun t =>
          t.bit F.MEM_ERR_CONFIG = true ∧ t.fld F.MEM_ERR_CFG_CAUSE = 2 ∧ RegsBut [A.MEM_INIT_CTL, A.MEM_ERR, A.REC_DROPPED] s t ∧ same t)) ∧
     (Answers (exec .memInitDone s) fun t =>
       Only { s.blk with memu := { s.blk.memu with inits := [] } } [A.MEM_STAT] s t ∧ t.bit F.MEM_STAT_INITBUSY = false) ∧
     (∀ (c : CoreId) (d a : RegNo) (imm : BitVec 16), s.ready c = true → isPair d = true →
       let k := s.fed c [d, d + 1, a]
       let x := (k.rd a + imm.signExtend 32).toNat
       regionOf x = .dram → x % 8 = 0 → s.domOn 14 = true → k.storeSlots < 8 → (s.setCore c k).transactions < 192 →
       Answers (exec (.sd c d a imm) s) fun t =>
         t.store.bytes x 8 = leBytes 8 ((k.rd d).toNat * 2 ^ 32 + (k.rd (d + 1)).toNat) ∧ MemBut x 8 s t ∧
         ((∃ r ∈ s.blk.memu.inits, r.1 ≤ x ∧ x < r.1 + r.2) → t.bit F.MEM_STAT_INITBUSY = false ∧ t.blk.memu.inits = []) ∧
         (s.bit F.MEM_STAT_RETRAIN = true → t.bit F.MEM_STAT_RETRAIN = false ∧ told [memItem 4 2 0] t ∧
           t.fld F.MEM_MAINT_STAT_GRANT = (if grant = 2 then 0 else grant)) ∧ CoresBut c s t) ∧
     (∀ c : CoreId, (s.core c).storeSlots < 8 → s.transactions < 192 → s.running .mem = false → v.getLsbD 8 = false →
       Answers (exec (.registerWrite c (BitVec.ofNat 32 A.MEM_EVT) v) s) fun t =>
         t.evq .mem = [] ∧ t.fld F.MEM_EVT_RILL = v.toNat % 2 ^ 6 ∧ RegsBut [A.MEM_EVT] s t ∧ same t) ∧
     (let entry (i : Nat) : Nat := if dram then A.MEM_DREMAP i else A.MEM_BREMAP i
      let r := s.reg (entry e.val)
      let w := if dram then line.toNat else line.toNat % 2 ^ 16
      let held := (List.range (if dram then 16 else 8)).any fun i =>
        i != e.val && (s.reg (entry i)).getLsbD 31 && (s.reg (entry i)).toNat % 2 ^ 25 == w
      let m := if dram then 2 else 0
      let refused (t : State) : Prop := Only s.blk [A.MEM_ERR] s t ∧ t.bit F.MEM_ERR_REMAP = true
      dram = true ∨ e.val < 8 →
        (Answers (exec (.remapInstall dram e line) s) fun t =>
          if r.getLsbD 31 ∨ held then refused t
          else t.bit ⟨entry e.val, 31, 1⟩ = true ∧ (t.reg (entry e.val)).toNat % 2 ^ (if dram then 25 else 16) = w ∧
            told [memItem 6 m w] t ∧ RegsBut [entry e.val] s t ∧ same t) ∧
        (Answers (exec (.remapRemove dram e line) s) fun t =>
          if r.getLsbD 31 = false then refused t
          else t.bit ⟨entry e.val, 31, 1⟩ = false ∧ told [memItem 6 m (r.toNat % 2 ^ 25)] t ∧ RegsBut [entry e.val] s t ∧ same t)))

/-! ### The Bonnet domain -/

/-- R477 to R481: the first read of the RTC freezes the shadow and a read of its release ends the freeze; the RTC is set, and set from a
synchronised time base, on the pulse edge after the command: this is a step with no command waiting, since no command advances time. An alarm that an adjustment passes fires late, as does one written in the past. A write of the trim restarts its
window. R474, R483 to R486: a tamper input is detected at the sample that completes its filter, with the time, its event and the erasures
that it asks for. The window writes the firmware area of the commit store alone; a write waits while a commit runs, and follows its end,
which stores the image that the loss of the supply captured in the older of its two areas. Model choices: log entries 15, 18, 20 and 38. -/
def Obligations.BonnetCompletes : Prop :=
  (∀ (s : State) (v : Word) (a r : Fin 4), s.Inv → s.powered .bon = true → s.rtc < 2 ^ 63 →
     let b := s.blk.bon
     let on (f : Bon → Bon) : Blocks := { s.blk with bon := f s.blk.bon }
     let at' (t : State) (i : Nat) : Nat :=
       ((t.reg (A.BON_ALARM_SEC_HI i)).toNat % 2 ^ 16 * 2 ^ 32 + (t.reg (A.BON_ALARM_SEC_LO i)).toNat) * 32768 +
         (t.reg (A.BON_ALARM_SUB i)).toNat % 2 ^ 15
     let adjusted (old new : Nat) (t : State) : Prop :=
       t.rtc = new % 2 ^ 63 ∧ t.bit F.BON_STAT_TIME_LOST = false ∧ MemSame s t ∧ CoresSame s t ∧
       RegsBut ([A.BON_STAT, A.BON_VBAT, A.SYS_MON, A.OXB_STAT, A.GPIO_STAT] ++ (List.range 4).map A.GPIO_TRIG_SUB) s t ∧
       ∀ i < 4, t.blk.bon.late.getLsbD i = (decide (at' s i ≤ new % 2 ^ 63) &&
         (b.late.getLsbD i || (s.bit (F.BON_ALARM_CTL_EN i) && !(s.bit (F.BON_ALARM_CTL_FIRED i)) && decide (old < at' s i))))
     (Answers (exec .rtcShadowRead s) fun t =>
       if b.freeze = none then
         Only (on fun b => { b with freeze := some (s.rtc, s.pulses) }) [A.BON_STAT, A.BON_RTC_SEC_LO, A.BON_RTC_SEC_HI, A.BON_RTC_SUB] s t ∧
         t.bit F.BON_STAT_FROZEN = true ∧ (t.reg A.BON_RTC_SEC_LO).toNat = s.rtc / 32768 % 2 ^ 32 ∧
         (t.reg A.BON_RTC_SEC_HI).toNat = s.rtc / 32768 / 2 ^ 32 % 2 ^ 16 ∧ (t.reg A.BON_RTC_SUB).toNat = s.rtc % 32768
       else t = s) ∧
     (Answers (exec .rtcRelease s) fun t =>
       Only (on fun b => { b with freeze := none }) [A.BON_STAT] s t ∧ t.bit F.BON_STAT_FROZEN = false) ∧
     (Answers (exec .rtcSet s) (Only (on fun b => { b with due := some .set }) [] s)) ∧
     (Answers (exec .rtcSync s) fun t =>
       if s.timeSet then Only (on fun b => { b with due := some .sync }) [] s t
       else Only s.blk [A.BON_ERR] s t ∧ t.bit F.BON_ERR_CMDREF = true) ∧
     (s.pending = [] → s.blk.clk.frac < 1000000000 → 1000000000 ≤ s.blk.clk.frac + 131072 → b.trim = 0 → s.fld F.BON_TRIM_STEPS = 0 →
       (s.fld F.MEM_MAINT_STAT_GRANT ≠ 0 ∨ ∀ a ∈ [1, 2, 3], s.maintQueued a = false) →
       let old := (s.rtc + 1) % 2 ^ 63
       Answers (step s) fun t =>
         t.blk.bon.due = none ∧
         (b.due = none → t.rtc = old ∧ t.blk.bon = b) ∧
         (b.due = some .set → adjusted old (((s.reg A.BON_RTC_SET_HI).toNat % 2 ^ 16 * 2 ^ 32 + (s.reg A.BON_RTC_SET_LO).toNat) * 32768 +
           (s.reg A.BON_RTC_SET_SUB).toNat % 2 ^ 15) t) ∧
         (b.due = some .sync → s.timeSet = true → adjusted old (t.now * 32768 / 1000000000) t)) ∧
     (Answers (exec (.trimWrite v) s) fun t =>
       Only (on fun b => { b with trim := 0 }) [A.BON_TRIM] s t ∧
       t.fld F.BON_TRIM_STEPS = if v.toNat % 2 ^ 12 = 0x800 then 0x801 else v.toNat % 2 ^ 12) ∧
     (Answers (exec (.alarmWrite a r v) s) fun t =>
       let at'' := at' t a
       Only (on fun b => { b with late := t.blk.bon.late }) [A.BON_ALARM_SEC_LO a + 4 * r.val, A.BON_ALARM_CTL a] s t ∧
       (∀ i < 4, t.blk.bon.late.getLsbD i = if i = a.val then decide (at'' < s.rtc) else b.late.getLsbD i) ∧
       t.bit (F.BON_ALARM_CTL_FIRED a) = false ∧ t.bit (F.BON_ALARM_CTL_LATE a) = false ∧
       (t.reg (A.BON_ALARM_SEC_LO a + 4 * r.val)).toNat =
         if r.val = 0 then v.toNat else if r.val = 1 then v.toNat % 2 ^ 16 else if r.val = 2 then v.toNat % 2 ^ 15 else v.toNat % 4) ∧
     (let due (i : Nat) : Prop := s.bit (F.BON_ALARM_CTL_EN i) = true ∧ s.bit (F.BON_ALARM_CTL_FIRED i) = false ∧ at' s i ≤ s.rtc
      let with' (i : Nat) : Prop := b.late.getLsbD i = b.late.getLsbD a ∧ (b.late.getLsbD a = true ∨ at' s i = at' s a)
      ∀ i < a.val, due i → with' i → (∀ j < i, ¬ (due j ∧ with' j)) → due a → s.evHeld bonEvt = true → (s.evq .bon).length < 4 →
        Answers (exec (.alarmFire a) s) fun t =>
          t.bit (F.BON_ALARM_CTL_FIRED i) = true ∧ t.bit (F.BON_ALARM_CTL_FIRED a) = true ∧
          (t.evq .bon)[(s.evq .bon).length]? = some (BitVec.ofNat 64 (1 + i * 2 ^ 8 + bit01 (b.late.getLsbD i) * 2 ^ 16))) ∧
     ((∀ i < a.val, s.bit (F.BON_ALARM_CTL_EN i) = false ∨ s.bit (F.BON_ALARM_CTL_FIRED i) = true ∨ s.rtc < at' s i) →
      s.evHeld bonEvt = true → (s.evq .bon).length < 8 → Answers (exec (.alarmFire a) s) fun t =>
       let late := b.late.getLsbD a
       if s.bit (F.BON_ALARM_CTL_EN a) = true ∧ s.bit (F.BON_ALARM_CTL_FIRED a) = false ∧ at' s a ≤ s.rtc then
         t.bit (F.BON_ALARM_CTL_FIRED a) = true ∧ t.bit (F.BON_ALARM_CTL_LATE a) = late ∧
         t.evq .bon = s.evq .bon ++ [BitVec.ofNat 64 (1 + a * 2 ^ 8 + bit01 late * 2 ^ 16)] ∧
         t.blk.pwr.wake = (s.blk.pwr.wake || (s.blk.pwr.standby && s.bit (F.BON_ALARM_CTL_WAKE a))) ∧
         RegsBut [A.BON_ALARM_CTL a] s t ∧ MemSame s t ∧ CoresSame s t
       else t = s)) ∧
  (∀ (s : State) (i : Fin 2) (high : Bool) (w : Fin 1024) (v : Word), s.Inv → s.powered .bon = true →
     s.evHeld bonEvt = true → (s.evq .bon).length < 8 →
     let b := s.blk.bon
     let told (d : DWord) (t : State) : Prop := t.evq .bon = s.evq .bon ++ [d]
     let cfg (lo n : Nat) : Nat := s.fld ⟨A.BON_TAMPER_CFG, lo + 8 * i.val, n⟩
     let active := cfg 1 1 == bit01 high
     let n := if active then min 4 (b.active[i] + 1) else 0
     let hit := cfg 0 1 = 1 ∧ cfg 2 2 + 1 ≤ n ∧ s.bit ⟨A.BON_TAMPER, i.val, 1⟩ = false
     let image := match metSeq (s.csBytes 0 512), metSeq (s.csBytes 0x200 512) with
       | some i, some j => if i < j then 0 else 0x200
       | some _, none => 0x200
       | none, _ => 0
     (Answers (exec (.tamperDetect i high) s) fun t =>
       t.bit ⟨A.BON_TAMPER, 2 + i.val, 1⟩ = active ∧ t.blk.bon = { b with active := b.active.set i n } ∧ CoresSame s t ∧
       (¬ hit → t.blk = { s.blk with bon := t.blk.bon } ∧ RegsBut [A.BON_TAMPER] s t ∧ MemSame s t) ∧
       (hit → t.bit ⟨A.BON_TAMPER, i.val, 1⟩ = true ∧ (t.reg (A.BON_TAMPER_TIME i.val)).toNat = s.rtc / 32768 % 2 ^ 32 ∧
         told (BitVec.ofNat 64 (2 + i.val * 2 ^ 8)) t ∧ (∀ w < 128, t.reg (A.BON_BSRAM w) = if cfg 4 1 = 1 then 0 else s.reg (A.BON_BSRAM w)) ∧
         (cfg 6 1 = 1 → s.blk.pwr.standby = true → t.blk.pwr.wake = true) ∧
         (cfg 5 1 = 1 → s.powered .gnt = true → (∀ k, 4 ≤ k → t.slot k = none) ∧ (∀ k < 8, t.session k = none) ∧ ∀ k < 16, t.cred k = none) ∧
         (cfg 5 1 = 0 → t.gnt = s.gnt))) ∧
     (Answers (exec (.csWindowWrite w v) s) fun t =>
       if 4 * w.val < 0x600 then t.bit F.BON_ERR_CSPROT = true ∧ RegsBut [A.BON_ERR, A.REC_DROPPED] s t ∧ MemSame s t ∧ CoresSame s t
       else if s.bit F.BON_STAT_COMMIT_BUSY then
         Only { s.blk with bon := { b with waits := b.waits ++ [(4 * w.val, v)] } } [] s t ∧ MemSame s t
       else
         t.store.bytes (csKey (4 * w.val)) 4 = leBytes 4 v.toNat ∧ t.errAt (csKey (4 * w.val)) = 0 ∧ MemBut (csKey (4 * w.val)) 4 s t ∧
         RegsBut [] s t ∧ t.blk = s.blk) ∧
     (∀ p, b.waits = [p] → p.1 % 4 = 0 → 0x600 ≤ p.1 → p.1 < 4096 → b.image.length = 512 → s.bit F.BON_STAT_COMMIT_BUSY = true →
       s.blk.pwr.vinGood = true → s.oxb.acts = [] →
       Answers (exec .commitEnd s) fun t =>
         t.store.bytes (csKey image) 512 = b.image ∧ t.store.bytes (csKey p.1) 4 = leBytes 4 p.2.toNat ∧
         MemOutside [(csKey image, 512), (csKey p.1, 4)] s t ∧ t.blk.bon = { b with waits := [], image := [] } ∧
         t.bit F.BON_STAT_COMMIT_BUSY = false ∧ Counts A.BON_COMMITS 1 s t ∧ told 3 t ∧
         RegsBut [A.BON_STAT, A.BON_COMMITS, A.REC_DROPPED] s t ∧ CoresSame s t) ∧
     (∀ k mark, s.oxb.acts = [.resAck k mark] → s.powered .oxb = true → s.bit F.BON_STAT_COMMIT_BUSY = true → s.blk.pwr.vinGood = true →
       b.waits = [] → b.image.length = 512 →
       Answers (exec .commitEnd s) fun t =>
         t.oxb.acts = [] ∧ t.oxb.sent = linkBytes 4 s.oxb.frameSeq (leBytes 4 k ++ leBytes 4 mark) ∧
         t.store.bytes (csKey image) 512 = b.image ∧ MemBut (csKey image) 512 s t) ∧
     (Answers (exec .supplySwitch s) fun t =>
       t.fld F.BON_STAT_SUPPLY = 1 - s.fld F.BON_STAT_SUPPLY ∧ Counts A.BON_SWITCHES 1 s t ∧ told 5 t ∧
       RegsBut [A.BON_STAT, A.BON_SWITCHES] s t ∧ MemSame s t ∧ CoresSame s t) ∧
     (s.blk.pwr.vinGood = true → Answers (exec .vbatCritFall s) fun t => Only s.blk [A.BON_STAT] s t ∧ t.bit F.BON_STAT_VBATLOW = true) ∧
     (s.blk.pwr.vinGood = false → b.armed = true → s.bit F.BON_STAT_COMMIT_BUSY = false → Answers (exec .vbatCritFall s) fun t =>
       t.bit F.BON_STAT_VBATLOW = true ∧ t.bit F.BON_STAT_COMMIT_BUSY = true ∧ t.blk.bon.armed = false ∧
       t.blk.bon.image = (if s.domOn 1 then s.metImage (s.met.seq + 1) else []) ∧ RegsBut [A.BON_STAT] s t ∧ MemSame s t) ∧
     (s.blk.pwr.vinGood = false → b.armed = false → s.bit F.BON_STAT_COMMIT_BUSY = false → Answers (exec .vbatCritFall s) fun t =>
       Only { s.blk with pwr := { s.blk.pwr with vhold := 0 } } [A.BON_STAT] s t ∧ t.bit F.BON_STAT_VBATLOW = true) ∧
     (b.waits = [] → b.image.length = 512 → s.bit F.BON_STAT_COMMIT_BUSY = true → s.blk.pwr.vinGood = false → s.oxb.acts = [] →
       Answers (exec .commitEnd s) fun t =>
         t.store.bytes (csKey image) 512 = b.image ∧ t.blk.pwr.vhold = (if 4000 ≤ s.blk.pwr.vhold then 3601 else 0) ∧
         (b.armed = false → t.domOn 1 = false ∧ t.bit F.BON_STAT_COMMIT_BUSY = false) ∧
         (b.armed = true → t.domOn 1 = s.domOn 1 ∧ t.bit F.BON_STAT_COMMIT_BUSY = s.bit F.BON_STAT_VBATLOW)) ∧
     (Answers (exec .vbatRecover s) fun t => t.bit F.BON_STAT_VBATLOW = false ∧
       Only { s.blk with pwr := { s.blk.pwr with
         vhold := if s.blk.pwr.vinGood then s.blk.pwr.vhold else max 4000 s.blk.pwr.vhold } } [A.BON_STAT] s t))

/-- R487 to R491: the oldest record that waits is written under the next sequence number: the first 256 stay, the latest 4096 after them
circulate. The window shows the record of the cursor, or that it is lost or not yet written; its last word leads to the next record. A
snapshot gives the range that can be read. A record of the firmware has a kind of its own. Model choices: log entries 38 and 45. -/
def Obligations.RecorderCompletes : Prop :=
  ∀ (s : State) (v : Word) (kind : BitVec 16), s.Inv → s.powered .recd = true →
    let q := s.blk.rcd
    let only (q : Recorder) : Blocks := { s.blk with rcd := q }
    let shows (seq : Nat) (t : State) : Prop :=
      let found := s.record seq
      let words (bs : List Byte) : Prop := ∀ w < 8, (t.reg (A.REC_WIN w)).toNat = leNat ((bs.drop (4 * w)).take 4)
      Only s.blk ([A.REC_CURSOR, A.REC_WSTAT] ++ (List.range 8).map A.REC_WIN) s t ∧ (t.reg A.REC_CURSOR).toNat = seq ∧
      (∀ e, found = some e → words (recordBytes e.1 e.2) ∧ t.fld F.REC_WSTAT_STATE = 0 ∧ t.bit F.REC_WSTAT_FIRST = decide (e.1 < 256)) ∧
      (found = none → (∀ w < 8, t.reg (A.REC_WIN w) = 0) ∧ t.fld F.REC_WSTAT_STATE = if seq < q.next then 1 else 2)
    (∀ r rest, q.queue = r :: rest → Answers (exec .recordLog s) fun t =>
      let d := min q.dropped 65535
      let written := if q.dropped = 0 then r else { r with
        flags := r.flags ||| 4, detail := BitVec.ofNat 64 (r.detail.toNat % 2 ^ 48 + d * 2 ^ 48) }
      t.blk = only { q with
        queue := rest, next := q.next + 1, dropped := 0
        first := if q.next < 256 then q.first ++ [(q.next, written)] else q.first
        circ := if q.next < 256 then q.circ else ((q.next, written) :: q.circ).take 4096 } ∧
      t.reg A.REC_NEXT = BitVec.ofNat 32 (q.next + 1) ∧ (q.next = 255 → t.bit F.REC_STAT_FIRSTFULL = true) ∧
      (4352 ≤ q.next → t.bit F.REC_STAT_WRAPPED = true) ∧ RegsBut [A.REC_NEXT, A.REC_STAT] s t ∧ MemSame s t) ∧
    (Answers (exec (.recCursor v) s) (shows v.toNat)) ∧
    (Answers (exec .windowAdvance s) (shows (((s.reg A.REC_CURSOR).toNat + 1) % 2 ^ 32))) ∧
    (Answers (exec .recSnap s) fun t =>
      Only s.blk [A.REC_SNAP_HIGH, A.REC_SNAP_LOW] s t ∧ t.reg A.REC_SNAP_HIGH = BitVec.ofNat 32 q.next ∧
      t.reg A.REC_SNAP_LOW = BitVec.ofNat 32 (if q.next ≤ 256 then q.next else if q.next ≤ 4352 then 256 else q.next - 4096)) ∧
    (q.closed = false → Answers (exec (.firmwareRecord kind) s) fun t =>
      let word (hi lo : Nat) : DWord := s.reg hi ++ s.reg lo
      let r : Record := ⟨kind.toNat, 0xFF, s.stampTime.2, s.stampTime.1, word A.REC_LOG_SUBJ_HI A.REC_LOG_SUBJ_LO,
        word A.REC_LOG_DET_HI A.REC_LOG_DET_LO⟩
      if kind.toNat < 0xF000 then Only s.blk [A.REC_ERR] s t ∧ t.bit F.REC_ERR_KIND = true
      else if q.queue.length < 16 ∧ s.bit F.REC_CTRL_RUN = true then Only (only { q with queue := q.queue ++ [r] }) [] s t
      else Only (only { q with dropped := q.dropped + 1 }) [A.REC_DROPPED] s t ∧ Counts A.REC_DROPPED 1 s t)

/-! ### Power and supervision -/

/-- R407, R408, R417, R476, R497, R498, R500, R503, R506 to R508: the loss of VIN switches off what VCORE feeds, and the power manager goes
with its supply; VBAT keeps VHOLD at 4.0 V and VIN charges it within 200 ms; retention lost takes the Bonnet registers and the time. Every
cause of a reset resets the module and says so; a rise of `VIN_GOOD` takes the kind of each pad bank from its supply, and the monitor of the
supply follows it from then on with its hysteresis. A command with a wrong key is refused; standby leaves the power manager to watch, and a
wake resets the module. Inputs reach their block while their pad bank is usable (R519). Model choices: log entries 1, 3, 18, 19, 36 and 39. -/
def Obligations.SupplyAndResetsComplete : Prop :=
  ∀ (s : State) (below bankB : Bool) (mv : BitVec 12) (key : BitVec 8), s.Inv →
    let p := s.blk.pwr
    let off (t : State) : Prop :=
      t.blk.pwr.dom = s.blk.pwr.dom &&& 0x7 ∧ (∀ c : CoreId, (t.core c).run = .off) ∧ (∀ a, 0x10000000 ≤ a → a < 0x10400000 → t.isValid a = false) ∧
      t.store.fuses = s.store.fuses ∧ (∀ a, 0x0C000000 ≤ a → a < 0x10000000 → t.store.byte a = s.store.byte a)
    let found (m : Nat) : Bool := decide ((if 2500 < m then 3060 else 1680) ≤ m)
    let banked (t : State) : Prop :=
      t.bit F.SYS_STAT_VIOA_OK = found p.vio[0] ∧ t.bit F.SYS_STAT_VIOA_3V3 = decide (2500 < p.vio[0]) ∧
      t.bit F.SYS_STAT_VIOB_OK = found p.vio[1] ∧ t.bit F.SYS_STAT_VIOB_3V3 = decide (2500 < p.vio[1]) ∧
      t.bankA = found p.vio[0] ∧ t.bankB = found p.vio[1]
    let charging (t : State) : Prop := ∃ n < 6554, t.blk.pwr.charge = some (t.pulses + n)
    let warned : Power := { p with vinWarn := below }
    ((s.peek A.SYS_STAT).getLsbD 6 = decide (3800 ≤ if p.charge.any (· ≤ s.pulses) then 5000 else p.vhold)) ∧
    (s.powered .sys = false → Answers (exec (.vinWarning below) s) (Only { s.blk with pwr := warned } [] s)) ∧
    (s.powered .sys = true → s.evHeld sysEvt = true → (s.evq .sys).length < 8 → Answers (exec (.vinWarning below) s) fun t =>
      if p.vinWarn = below then t = s
      else t.bit F.SYS_STAT_VIN_WARN = below ∧ t.blk.pwr = warned ∧ Counts A.SYS_VIN_WARN_CNT (bit01 below) s t ∧
        t.evq .sys = s.evq .sys ++ (if s.bit F.SYS_CTRL_RUN && s.bit F.SYS_EVT_EN then [if below then 1 else 2] else []) ∧
        RegsBut [A.SYS_STAT, A.SYS_VIN_WARN_CNT] s t ∧ MemSame s t ∧ CoresSame s t) ∧
    (let i : Fin 2 := if bankB then 1 else 0
     let was := p.bank.getLsbD (2 * i.val)
     let ok := decide ((if p.bank.getLsbD (2 * i.val + 1) then (if was then 2970 else 3060) else if was then 1620 else 1680) ≤ mv.toNat)
     Answers (exec (.bankNotOk bankB mv) s) fun t =>
       Only { s.blk with pwr := { p with vio := p.vio.set i mv.toNat, bank := t.blk.pwr.bank } } (if s.powered .sys then [A.SYS_STAT] else []) s t ∧
       (∀ j < 4, t.blk.pwr.bank.getLsbD j = if j = 2 * i.val then ok else p.bank.getLsbD j) ∧
       (if bankB then t.bankB else t.bankA) = (p.vinGood && ok) ∧
       (s.powered .sys = true → t.fld ⟨A.SYS_STAT, 2, 4⟩ = t.blk.pwr.bank.toNat ∧ ∀ j < 32, j < 2 ∨ 6 ≤ j →
         (t.reg A.SYS_STAT).getLsbD j = (s.reg A.SYS_STAT).getLsbD j)) ∧
    (Answers (exec (.usbVbusChange below) s) (Only { s.blk with pwr := { p with vbus := below } } [] s)) ∧
    (p.vinGood = true → s.bit F.BON_STAT_VBATLOW = false → Answers (exec .vinGoodFall s) fun t =>
      off t ∧ t.blk.pwr.vinGood = false ∧ t.blk.pwr.standby = false ∧ t.blk.bon = s.blk.bon ∧
        t.vhold = max 4000 s.vhold) ∧
    (p.vinGood = false → Answers (exec .powerManagerLoss s)
      (Only { s.blk with pwr := { p with dom := p.dom &&& 0xFFFB, standby := false, wakeMask := 0, wake := false } } [] s)) ∧
    (p.vinGood = false → Answers (exec .retentionLoss s) fun t =>
      t.rtc = 0 ∧ t.blk.pwr.railLost = true ∧ t.domOn 0 = false ∧ t.domOn 1 = false ∧ t.blk.bon = Bon.reset ∧ t.met = Met.reset ∧
      t.blk.rcd.latched = [] ∧ (∀ w < 128, t.reg (A.BON_BSRAM w) = 0) ∧ (s.bit F.BON_STAT_COMMIT_BUSY = false → MemSame s t) ∧
      t.store.fuses = s.store.fuses) ∧
    (p.vinGood = false → p.railLost = false → Answers (exec (.powerOnReset below) s) fun t =>
      ResetBy 2 s t ∧ t.blk.pwr.vinGood = true ∧ t.blk.bon.armed = true ∧ banked t ∧ charging t ∧ t.upd.recover = (below || s.upd.recover)) ∧
    (p.railLost = true → Answers (exec (.coldReset below) s) fun t =>
      ResetBy 1 s t ∧ t.blk.pwr.vinGood = true ∧ t.blk.pwr.railLost = false ∧ t.bit F.BON_STAT_TIME_LOST = true ∧ t.rtc = 0 ∧ banked t ∧ charging t) ∧
    (s.powered .sys = true →
      (Answers (exec .brownoutReset s) (ResetBy 3 s)) ∧
      (Answers (exec (.systemReset key) s) fun t =>
        if key = 0xA5 then ResetBy 4 s t else Only s.blk [A.SYS_ERR] s t ∧ t.bit F.SYS_ERR_RSTKEY = true) ∧
      (Answers (exec (.standby key) s) fun t =>
        if key = 0xA5 then off t ∧ t.blk.pwr.standby = true ∧ t.blk.pwr.wakeMask.toNat = s.fld F.SYS_WAKE_TRIG ∧ t.blk.bon = s.blk.bon
        else Only s.blk [A.SYS_ERR] s t ∧ t.bit F.SYS_ERR_RSTKEY = true) ∧
      (∀ e, p.expired = some e → Answers (exec .watchdogReset s) fun t => if e + 33 ≤ s.pulses then ResetBy 6 s t else t = s)) ∧
    (s.powered .lcs = true → Answers (exec .jtagResetInstruction s) fun t =>
      if s.bankA = true ∧ s.bit F.LCS_STAT_DEBUG = true then ResetBy 4 s t else t = s) ∧
    (Answers (exec .wake s) fun t => if p.standby = true ∧ p.wake = true then ResetBy 7 s t else t = s) ∧
    (s.powered .upd = true →
      (Answers (exec .updReset s) (ResetBy 5 s)) ∧
      (Answers (exec .reject s) fun t =>
        if s.bit F.UPD_STAT_TRIAL then ResetBy 5 s t
        else Only s.blk [A.UPD_ERR] s t ∧ t.bit F.UPD_ERR_CMDREF = true ∧ t.fld F.UPD_ERR_CMD_CAUSE = 3) ∧
      (Answers (exec .trialWindowExpire s) fun t =>
        if s.bit F.UPD_STAT_TRIAL = true ∧ s.upd.trialAt + s.upd.state.window * 60 * 32768 < s.pulses then ResetBy 5 s t else t = s))

/-- R499, R501, R502, R509, R512, R513, R519, R524: domains go off where nothing holds them on, and come on; cores that may be restarted
restart, and then wait for work; a domain that a write switches on is usable before another that it switches off goes; the setting of VCORE is
clamped. The watchdog runs from the last kick, and its expiry raises
`LIGHT_FAILSAFE`, as does every write that leaves it without a watchdog. An edge of a trigger pad is stamped where its binding is free, and
submitted; it is merged while Weir's answer is due. Model choices: log entries 1, 3, 19, 36, 39 and 45. -/
def Obligations.SupervisionCompletes : Prop :=
  ∀ (s : State) (c : CoreId) (v : Word) (d : Fin 16) (n : Fin 4) (rising : Bool), s.Inv → s.powered .sys = true →
    s.evHeld sysEvt = true → (s.evq .sys).length < 8 →
    let p := s.blk.pwr
    let told (e : DWord) (t : State) : Prop :=
      t.evq .sys = s.evq .sys ++ (if s.bit F.SYS_CTRL_RUN && s.bit F.SYS_EVT_EN then [e] else [])
    let same (t : State) : Prop := MemSame s t ∧ CoresSame s t
    let alive := s.bit F.SYS_ALIVE_ALIVE
    let pwr (q : Power) : Blocks := { s.blk with pwr := q }
    let kicked : Power := { p with kick := s.pulses }
    let level (a : Bool) (t : State) : Prop := t.bit F.SYS_ALIVE_ALIVE = a ∧ t.lightFailsafe = if s.domOn 2 then some (!a) else none
    let old := s.reg A.SYS_PWR_EN
    let holds (d : Nat) : Bool :=
      !([1, 6, 7, 8, 10, 11, 12, 13, 14].contains d) || allBlocks.any (fun b => b.domain == d && s.bit b.run) ||
        (6 ≤ d && d ≤ 8 && (List.finRange 24).any fun k =>
          clusterOf k == d - 5 && ((s.reg A.WEIR_CORE_EN).getLsbD k || (s.core k).item.getLsbD 0 || k == c)) ||
        (d == 1 && s.bit F.BON_STAT_COMMIT_BUSY)
    let stays11 := v.getLsbD 11 || (old.getLsbD 11 && holds 11)
    let refused (d : Nat) : Bool := old.getLsbD d && !(v.getLsbD d) && (holds d || (stays11 && [10, 12, 14].contains d))
    let any := (List.range 16).any refused
    let off (d : Nat) : Bool := old.getLsbD d && !(v.getLsbD d) && !(refused d)
    (Answers (exec (.domainSwitch c v) s) fun t =>
      (∀ d < 16, (t.reg A.SYS_PWR_EN).getLsbD d = (v.getLsbD d || refused d)) ∧
      (∀ d < 16, t.domOn d =
        (if off d then false else s.domOn d || ((List.range 16).any off && v.getLsbD d && !(old.getLsbD d)))) ∧
      (any = true → t.bit F.SYS_ERR_PWRREF = true) ∧ (any = false → t.bit F.SYS_ERR_PWRREF = s.bit F.SYS_ERR_PWRREF) ∧
      (∀ d < 16, refused d = true → (∀ e < d, refused e = false) → t.fld F.SYS_ERR_PWR_DOM = d) ∧
      Counts A.SYS_PWR_REFUSED (bit01 any) s t ∧ t.store.fuses = s.store.fuses) ∧
    (Answers (exec (.domainOn d) s) fun t =>
      if old.getLsbD d = true ∧ s.domOn d.val = false then
        t.domOn d.val = true ∧ t.bit ⟨A.SYS_PWR_STAT, d.val, 1⟩ = true ∧ (d.val = 12 → t.blk.clk.tb = 0) ∧
        (∀ k : CoreId, clusterOf k + 5 = d.val → t.core k = Core.reset) ∧ (d.val ≠ 13 → told (BitVec.ofNat 64 (4 + d.val * 2 ^ 8)) t) ∧
        (d.val ≠ 13 → RegsBut [A.SYS_PWR_STAT] s t ∧ MemSame s t)
      else t = s) ∧
    (Answers (exec (.coreRestart v) s) fun t =>
      ∀ k : CoreId,
        let may := s.domOn (5 + clusterOf k) = true ∧ (s.bit ⟨A.WEIR_HALTED, k, 1⟩ = true ∨ s.bit ⟨A.WEIR_CORE_EN, k, 1⟩ = false)
        (v.getLsbD k = true → may → t.core k = { Core.reset with run := .restarting } ∧ t.bit ⟨A.WEIR_HALTED, k, 1⟩ = false ∧
          t.bit ⟨A.SYS_CORE_RST, k, 1⟩ = true ∧ ∀ j < 0x10000, t.store.byte (localKey k j) = s.store.byte (localKey k j)) ∧
        (v.getLsbD k = true → ¬ may → t.core k = s.core k ∧ t.bit F.SYS_ERR_CORERST = true) ∧ (v.getLsbD k = false → t.core k = s.core k)) ∧
    (Answers (exec (.coreRestartDone c) s) fun t =>
      if (s.core c).run = .restarting then
        t.core c = { s.core c with pc := Config.romTake, takepc := Config.romTake, run := .takeWait } ∧ CoresBut c s t ∧
        t.blk.weir.waiting = s.blk.weir.waiting.filter (·.1 != c) ++ [(c, if s.coreEn c then some (s.groupOf c) else none)] ∧
        t.bit ⟨A.SYS_CORE_RST, c, 1⟩ = false ∧ RegsBut [A.SYS_CORE_RST] s t ∧ MemSame s t
      else t = s) ∧
    (Answers (exec (.perfWrite v) s) fun t =>
      let mv := v.toNat % 2 ^ 10
      let set := if mv < 600 then 600 else if 900 < mv then 900 else mv / 10 * 10
      t.fld F.SYS_PERF_MV = set ∧ t.bit F.SYS_STAT_BELOWSLOW = decide (set < 720) ∧ RegsBut [A.SYS_PERF, A.SYS_STAT] s t ∧ same t ∧
      (if set < 720 then told 7 t else t.evq .sys = s.evq .sys)) ∧
    (Answers (exec .sysKick s) (Only (pwr kicked) [] s)) ∧
    (Answers (exec (.aliveWrite v) s) fun t =>
      if v.getLsbD 0 = false then Only s.blk [A.SYS_ALIVE, A.SYS_STAT] s t ∧ level false t
      else if s.fld F.SYS_WDOG_MS ≠ 0 ∧ alive = false then Only (pwr kicked) [A.SYS_ALIVE, A.SYS_STAT] s t ∧ level true t
      else t = s) ∧
    (Answers (exec (.wdogWrite v) s) fun t =>
      Only (pwr kicked) [A.SYS_WDOG, A.SYS_ALIVE, A.SYS_STAT] s t ∧ t.fld F.SYS_WDOG_MS = v.toNat % 2 ^ 10 ∧
      t.bit F.SYS_WDOG_RST = v.getLsbD 16 ∧ (if v.toNat % 2 ^ 10 = 0 then level false t else level alive t)) ∧
    (Answers (exec .sysWatchdogExpire s) fun t =>
      if alive = true ∧ p.kick + (s.fld F.SYS_WDOG_MS * 32768 + 999) / 1000 ≤ s.pulses then
        level false t ∧ told 3 t ∧ Counts A.SYS_WDOG_EXP 1 s t ∧
        t.blk.pwr = { p with expired := if s.bit F.SYS_WDOG_RST then some s.pulses else p.expired } ∧
        RegsBut [A.SYS_ALIVE, A.SYS_STAT, A.SYS_WDOG_EXP] s t ∧ same t
      else t = s) ∧
    (let moved : Power := { p with
       trig := if rising then p.trig ||| BitVec.twoPow 4 n.val else p.trig &&& ~~~ BitVec.twoPow 4 n.val
       wake := p.wake || (s.bankA && p.standby && p.wakeMask.getLsbD n.val) }
     let acts := s.running .gpio && s.bankA && (s.fld (F.GPIO_TRIG_CFG_EDGE n.val)).testBit (if rising then 0 else 1)
     let w0 : DWord := s.reg (A.GPIO_TRIG_W0HI n.val) ++ s.reg (A.GPIO_TRIG_W0LO n.val)
     let stamp := s.now % 2 ^ 64
     let item := itemOf w0
       (if s.bit (F.GPIO_TRIG_CFG_STAMPARG n.val) then BitVec.ofNat 64 stamp else s.reg (A.GPIO_TRIG_ARGHI n.val) ++ s.reg (A.GPIO_TRIG_ARGLO n.val))
       ((stamp + (s.reg (A.GPIO_TRIG_DL n.val)).toNat) % 2 ^ 64)
     Answers (exec (.triggerEdge n rising) s) fun t =>
       (acts = false → Only (pwr moved) [] s t) ∧
       (acts = true → s.bit ⟨A.GPIO_STAT, n.val, 1⟩ = true →
         Only (pwr moved) [A.GPIO_TRIG_OVR n.val] s t ∧ Counts (A.GPIO_TRIG_OVR n.val) 1 s t) ∧
       (acts = true → s.bit ⟨A.GPIO_STAT, n.val, 1⟩ = false → t.bit ⟨A.GPIO_STAT, n.val, 1⟩ = true ∧ same t ∧
         t.blk.pwr = { moved with stamps := p.stamps.set n stamp, accepted := t.blk.pwr.accepted } ∧
         (∀ j < 4, j ≠ n.val → t.blk.pwr.accepted.getLsbD j = p.accepted.getLsbD j) ∧
         (s.running .weir = true → s.validDescriptor w0 = true → s.blk.weir.ready.length < 4095 →
           t.blk.weir = { s.blk.weir with ready := s.blk.weir.ready ++ [item] } ∧ t.blk.pwr.accepted.getLsbD n.val = true ∧
           RegsBut [A.GPIO_STAT] s t) ∧
         (s.running .weir = false → t.blk.weir = s.blk.weir ∧ t.blk.pwr.accepted.getLsbD n.val = false ∧ Counts A.WEIR_TRIG_LOST 1 s t ∧
           RegsBut [A.GPIO_STAT, A.WEIR_TRIG_LOST] s t)))

/-! ### Register blocks -/

/-- R7, R11, R25, R36: a core's write of a register whose fields only hold values changes them as their types say, and a stop-only field
only while the block does not run; a write that would change one then is refused and said so. A write to a block without power is refused,
and answered with a store fault. A read returns the fields, write-only ones as zero, clears those that a read clears, and latches the
partner of a pair; a read of a block without power raises LOAD_BUS (R36). R10, R12, R13: setting RUN starts a block whose event rill passes its check, or whose start checks
nothing; a wrong event rill refuses it. Clearing RUN requests a stop, and the block that has been told to stop then stops; OXB stops at
once. Weir refuses a group whose cores are illegal. A response to a refused store reaches its core, which takes the fault between two
instructions. Model choices: log entries 4, 22 and 23. -/
def Obligations.RegisterBlocksComplete : Prop :=
  (∀ (s : State) (c : CoreId) (b : Block) (a : Nat) (r : RegD) (f : FieldD) (v : Word), s.Inv → blockAt a = some b → a % 4 = 0 →
     a ≠ b.base → regAt a = some r → f ∈ r.fields → (s.core c).storeSlots < 8 → s.transactions < 192 →
     (b = .gnt ∨ (b = .flk ∧ a ≠ A.FLK_SRC) ∨ (b = .pxp ∧ ∀ p < 16, a ≠ A.PXP_RDM_CTL p)) →
     (s.powered b = false → Answers (exec (.registerWrite c (BitVec.ofNat 32 a) v) s) fun t =>
       t.core c = { s.core c with stores := (s.core c).stores ++ [⟨BitVec.ofNat 32 a, 8, (s.core c).icount⟩] } ∧
       CoresBut c s t ∧ RegsBut [A.REC_DROPPED] s t ∧ MemSame s t) ∧
     (s.powered b = true → Answers (exec (.registerWrite c (BitVec.ofNat 32 a) v) s) fun t =>
       let runs := s.bit b.run
       let old := fieldOf (s.reg a) f.lo f.w
       let new := fieldOf v f.lo f.w
       let bit (w : Word) (i : Nat) : Bool := w.getLsbD (f.lo + i)
       let breach := r.fields.any fun g => g.stop && fieldOf v g.lo g.w != (if g.ty = .wo then 0 else fieldOf (s.peek a) g.lo g.w)
       let err := b.base + 8
       (runs = true → f.stop = true → fieldOf (t.reg a) f.lo f.w = old) ∧
       (runs = false ∨ f.stop = false →
         (f.ty = .rw → fieldOf (t.reg a) f.lo f.w = new) ∧
         (f.ty = .ro ∨ f.ty = .rc ∨ f.ty = .rl → fieldOf (t.reg a) f.lo f.w = old) ∧
         (f.ty = .w1c → ∀ i < f.w, bit (t.reg a) i = (bit (s.reg a) i && !(bit v i)))) ∧
       (runs = true → breach = true → a ≠ err → t.bit ⟨err, 0, 1⟩ = true ∧ RegsBut [a, err, A.REC_DROPPED] s t) ∧
       (runs = false ∨ breach = false → Only s.blk [a] s t) ∧ MemSame s t ∧ CoresSame s t)) ∧
  (∀ (s : State) (c : CoreId) (v : Word), s.Inv → (s.core c).storeSlots < 8 → s.transactions < 192 →
     (s.powered .gpio = true →
       (Answers (exec (.registerWrite c (BitVec.ofNat 32 A.GPIO_OUT_SET) v) s) fun t =>
         Only s.blk [A.GPIO_OUT] s t ∧ ∀ j < 24, (t.reg A.GPIO_OUT).getLsbD j = ((s.reg A.GPIO_OUT).getLsbD j || v.getLsbD j)) ∧
       (Answers (exec (.registerWrite c (BitVec.ofNat 32 A.GPIO_OUT_CLR) v) s) fun t =>
         Only s.blk [A.GPIO_OUT] s t ∧ ∀ j < 24, (t.reg A.GPIO_OUT).getLsbD j = ((s.reg A.GPIO_OUT).getLsbD j && !(v.getLsbD j)))) ∧
     (s.powered .mem = true → Answers (exec (.registerWrite c (BitVec.ofNat 32 A.MEM_FLIP_CFG) v) s) fun t =>
       Only s.blk [A.MEM_FLIP_CFG] s t ∧ t.bit F.MEM_FLIP_CFG_ARM = v.getLsbD 11 ∧ t.fld F.MEM_FLIP_CFG_CHECK = v.toNat % 2 ^ 8) ∧
     (s.powered .sys = true → Answers (exec (.registerWrite c (BitVec.ofNat 32 A.SYS_KICK) v) s) fun t =>
       Only { s.blk with pwr := { s.blk.pwr with kick := s.pulses } } [] s t)) ∧
  (∀ (s : State) (c : CoreId) (d a : RegNo) (imm : BitVec 16), s.Inv → s.ready c = true → s.memIdle →
     let k := s.fed c [d, a]
     let x := (k.rd a + imm.signExtend 32).toNat
     let got (v : Word) (t : State) : Prop :=
       t.core c = ({ k with loads := k.loads ++ [⟨[(d, v)], .shared, 0⟩] } : Core).retire k.budgeted (k.pc + 4) ∧ CoresBut c s t ∧ MemSame s t
     k.loads.length < 8 → (s.setCore c k).transactions < 192 → k.sys = true → x % 4 = 0 →
     (∀ (b : Block) (r : RegD) (f : FieldD), blockAt x = some b → regAt x = some r → f ∈ r.fields → s.powered b = true →
       [Block.weir, .rill, .pmap, .pxp, .etha, .ethb, .oxb, .upd, .gnt, .lcs, .mem, .sto, .svc, .drc].contains b = true →
       Answers (exec (.lw c d a imm) s) fun t =>
         ∃ v, got v t ∧ fieldOf v f.lo f.w = (if f.ty = .wo then 0 else fieldOf (s.peek x) f.lo f.w) ∧
           fieldOf (t.reg x) f.lo f.w = (if f.ty = .rc then 0 else fieldOf (s.reg x) f.lo f.w) ∧ RegsBut [x] s t) ∧
     (∀ p ∈ [(Block.flk, A.FLK_FRAME_LO, A.FLK_FRAME_HI, s.flk.frame), (.tsu, A.TSU_TIME_LO, A.TSU_TIME_HI, s.now)],
       x = p.2.1 → s.powered p.1 = true →
       Answers (exec (.lw c d a imm) s) fun t =>
         got (BitVec.ofNat 32 p.2.2.2) t ∧ (t.reg p.2.2.1).toNat = p.2.2.2 / 2 ^ 32 % 2 ^ 32 ∧ RegsBut [p.2.2.1] s t) ∧
     (∀ b, blockAt x = some b → s.powered b = false →
       Answers (exec (.lw c d a imm) s) fun t =>
         (t.core c).loads = [] ∧ (k.exl = false → k.stores = [] → (t.core c).cause.toNat = 0x07 ∧ (t.core c).eaddr = BitVec.ofNat 32 x) ∧
         RegsBut [A.REC_DROPPED] s t ∧ CoresBut c s t ∧ MemSame s t)) ∧
  (∀ (s : State) (c : CoreId) (b : Block) (v : Word), s.Inv → s.powered b = true →
     let n := BitVec.ofNat 5 b.num
     let plain := [Block.sys, .mem, .gnt, .bon].contains b
     let free := [Block.lcs, .recd, .gpio].contains b
     let evt : Fld × Fld × Fld := match b with
       | .sys => (F.SYS_EVT_EN, F.SYS_EVT_RILL, F.SYS_ERR_CFG_CAUSE)
       | .mem => (F.MEM_EVT_EN, F.MEM_EVT_RILL, F.MEM_ERR_CFG_CAUSE)
       | .gnt => (F.GNT_EVT_EN, F.GNT_EVT_RILL, F.GNT_ERR_CFG_CAUSE)
       | _ => (F.BON_CFG_EN, F.BON_CFG_RILL, F.BON_ERR_CFG_CAUSE)
     let rill := s.fld evt.2.1
     let usable := 4 ≤ rill ∧ s.bit (F.RILL_CFG_FEED (rillNo rill)) = false
     (s.bit b.run = false →
       (free = true ∨ (plain = true ∧ (s.bit evt.1 = false ∨ usable)) → Answers (exec (.runSet n v) s) fun t =>
         Only s.blk [b.base] s t ∧ t.bit b.run = true) ∧
       (plain = true → s.bit evt.1 = true → ¬ usable → Answers (exec (.runSet n v) s) fun t =>
         t.bit b.run = false ∧ t.bit ⟨b.base + 8, 1, 1⟩ = true ∧ t.fld evt.2.2 = 1 ∧
         RegsBut [b.base, b.base + 8, A.REC_DROPPED] s t ∧ MemSame s t ∧ CoresSame s t)) ∧
     (plain = true ∨ free = true → s.bit b.run = true →
       (Answers (exec (.runSet n v) s) (Only s.blk [b.base] s)) ∧
       (Answers (exec (.runStopRequest n v) s) fun t =>
         Only { s.blk with stopping := s.blk.stopping ||| BitVec.twoPow 25 b.num } [b.base] s t ∧ t.bit b.run = true) ∧
       ((∀ q, (s.rill q).pkt ≠ some (.block b.num)) → Answers (exec (.blockStopped n) s) fun t =>
         if s.ending b then Only { s.blk with stopping := s.blk.stopping &&& ~~~ BitVec.twoPow 25 b.num } [b.base] s t ∧ t.bit b.run = false
         else t = s)) ∧
     (b = .oxb → s.bit b.run = true → s.blk.stopping.getLsbD 14 = false → Answers (exec (.runStopRequest n v) s) fun t =>
       t.bit b.run = false ∧ t.fld F.OXB_STAT_STATE = 0) ∧
     (b = .weir → s.bit b.run = false →
       let on (k : CoreId) : Bool := (s.reg A.WEIR_CORE_EN).getLsbD k
       let members (g : Nat) : Nat := ((List.finRange 24).filter fun k => on k && s.groupOf k == g).length
       let legal (g : Nat) : Bool := !(s.bit (F.WEIR_GCFG_EN g)) ||
         (members g != 0 && (if s.bit (F.WEIR_GCFG_ORDER g) then g == 0 && decide (12 ≤ members g) else decide (members g ≤ 8)))
       s.bit F.WEIR_MISS_CFG_EN = false → Answers (exec (.runSet n v) s) fun t =>
         t.bit b.run = (List.range 4).all legal ∧ (t.bit b.run = true → t.blk.weir.ready = s.blk.weir.ready ∧
           t.blk.weir.waiting = s.blk.weir.waiting.map fun e => (e.1, if on e.1 then some (s.groupOf e.1) else none)) ∧
         (t.bit b.run = false → t.bit F.WEIR_ERR_CONFIG = true ∧ ∀ g < 4, legal g = false → (∀ h < g, legal h = true) →
           t.fld F.WEIR_ERR_CFG_GROUP = g)) ∧
     (let k := s.core c
      ∀ f rest, k.stores = f :: rest → k.faults = [] →
        (s.issues c = false → Answers (exec (.storeFaultResponse c) s) fun t =>
          t.core c = { k with stores := rest, faults := [f] } ∧ CoresBut c s t ∧ RegsBut [A.REC_DROPPED] s t ∧ MemSame s t) ∧
        (s.issues c = true → k.exl = false → f.code < 2 ^ 8 → Answers (exec (.storeFaultResponse c) s) fun t =>
          (t.core c).cause.toNat = f.code + bit01 (f.retired != k.icount) * 2 ^ 8 + bit01 (!rest.isEmpty) * 2 ^ 9 ∧ (t.core c).epc = k.pc ∧
          (t.core c).eaddr = f.addr ∧ (t.core c).pc = k.vec ∧ (t.core c).exl = true ∧ (t.core c).sys = true ∧ (t.core c).stores = [] ∧
          (t.core c).faults = [] ∧ (t.core c).loads = [] ∧ CoresBut c s t ∧ RegsBut [A.REC_DROPPED] s t ∧ MemSame s t)))

/-! ### Output pads -/

/-- R250 to R253, R255: while bank B is usable and the port has been enabled, `PXPp_DO` and `PXPp_CK` carry the frame being sent, bit by bit in
ticks of 10 ns, and idle low, or at mark with the driver enabled in DMX mode; `INV` inverts the data line. R326, R351, R376, R517 to R520: the
other output pads by the state of their blocks and of their supply group. Model choices: log entry 44. -/
def Obligations.OutputPads : Prop :=
  (∀ (s : State) (p : Fin 16) (i j : Nat), s.powered .pxp = true → (s.port p).driven = true →
     let q := s.port p
     let t := ((s.now : Int) - q.began).toNat / 10
     let us := t / 100
     let start := s.fld (F.PXP_DMX_BREAK p) + s.fld (F.PXP_DMX_MAB p)
     let inv := s.bit (F.PXP_CFG_INV p)
     let mode := s.fld (F.PXP_CFG_MODE p)
     let bit (k : Nat) : Bool := (q.wire.getD i 0).toNat / 2 ^ k % 2 == 1
     let sends := q.sends.isSome = true ∧ i < q.wire.length
     let pads (d c : Bool) : Prop := s.pxpDO p = some (d != inv) ∧ s.pxpCK p = some c
     (s.bankB = false → s.pxpDO p = none ∧ s.pxpCK p = none) ∧
     (s.bankB = true →
       (q.sends = none → q.rdm = .idle → pads (decide (2 ≤ mode)) (decide (2 ≤ mode))) ∧
       (sends → mode = 0 → j < 8 → t / s.fld (F.PXP_NRZ_TBIT p) = 8 * i + j →
         pads (decide (t % s.fld (F.PXP_NRZ_TBIT p) < s.fld (if bit (7 - j) then F.PXP_NRZ_T1H p else F.PXP_NRZ_T0H p))) false) ∧
       (sends → mode = 1 → j < 8 → t / s.fld (F.PXP_CLK_DIV p) = 8 * i + j →
         pads (bit (7 - j)) (decide ((s.fld (F.PXP_CLK_DIV p) + 1) / 2 ≤ t % s.fld (F.PXP_CLK_DIV p)))) ∧
       (sends → 2 ≤ mode →
         (us < s.fld (F.PXP_DMX_BREAK p) → pads false true) ∧
         (s.fld (F.PXP_DMX_BREAK p) ≤ us → us < start → pads true true) ∧
         (j < 11 → start + 44 * i + 4 * j ≤ us → us < start + 44 * i + 4 * j + 4 →
           pads (if j = 0 then false else if j ≤ 8 then bit (j - 1) else true) true)) ∧
       (∀ fin, q.sends = none → q.rdm = .running fin → fin ≤ s.now → 2 ≤ mode → pads true false))) ∧
  (∀ s : State, s.bankA = true →
     let owner := s.powered .oxb = true ∧ (s.fld F.OXB_STAT_STATE = 3 ∨ s.fld F.OXB_STAT_STATE = 4) ∧
       (s.pulses - s.blk.oxb.kick) * 1000 < s.fld F.OXB_WDOG_MS * 32768
     (¬ owner → s.ownA = some false) ∧
     (owner → ∀ n, s.pulses = s.blk.oxb.toggles + n → s.ownA = some (decide (n % 32 < 16))) ∧
     (s.powered .met = true → s.isoEn = some (s.bit F.MET_CTRL_ISO)) ∧
     (s.powered .met = false → s.modclk = none ∧ s.isoEn = none) ∧
     (s.powered .met = true → s.running .met = false → s.modclk = some 0) ∧
     (s.running .met = true → ∃ f, s.modclk = some f ∧ f * 2 ^ min (s.fld F.MET_CTRL_CLK) 2 = 10000) ∧
     (s.canStb = some false ↔ s.running .can = true) ∧ (s.ppsOut = some true ↔ s.tsu.ppsOut.isSome = true) ∧
     s.canTx = some true ∧ s.uartTx = some true ∧ s.oxbTx = some false ∧ s.mdc = some false) ∧
  (∀ s : State, s.bankA = false →
     [s.ownA, s.canStb, s.ppsOut, s.canTx, s.uartTx, s.oxbTx, s.mdc].all (·.isNone) = true ∧ ∀ n < 24, s.gpioDrive n = none) ∧
  (∀ s : State, (s.powered .svc = false → s.usbPull = false) ∧ (s.usbPull = true → s.blk.pwr.vbus = true ∧ s.blk.pwr.vinGood = true) ∧
     ∀ x : Fin 2, (s.domOn 12 = false → s.ethTx x = none) ∧ (s.domOn 12 = true → s.ethTx x = some (s.fld (F.ETH_CFG_IF x) != 0)))
end

