-- ==== Sys2Proof/Laws/Decode.lean ====
section
/-!
SUPPORT. The fields of the words that `encodeInstr` writes.
-/
namespace Sys2Proof

/-- A field of a word given by its number. -/
theorem wordField_ofNat (x lo n : Nat) (h : x < 2 ^ 32) : wordField (BitVec.ofNat 32 x) lo n = x / 2 ^ lo % 2 ^ n := by
  rw [wordField, natBits, BitVec.toNat_ofNat, Nat.mod_eq_of_lt h]

theorem wordA_fields {m d a b fn : Nat} (hm : m < 64) (hd : d < 32) (ha : a < 32) (hb : b < 32) (hf : fn < 2048) :
    wordField (wordA m d a b fn) 26 6 = m ∧ wordField (wordA m d a b fn) 21 5 = d ∧ wordField (wordA m d a b fn) 16 5 = a ∧
    wordField (wordA m d a b fn) 11 5 = b ∧ wordField (wordA m d a b fn) 0 11 = fn := by
  have h : m * 2 ^ 26 + d * 2 ^ 21 + a * 2 ^ 16 + b * 2 ^ 11 + fn < 2 ^ 32 := by omega
  simp only [wordA, wordField_ofNat _ _ _ h]
  omega

theorem wordB_fields {m d a : Nat} (imm : BitVec 16) (hm : m < 64) (hd : d < 32) (ha : a < 32) :
    wordField (wordB m d a imm) 26 6 = m ∧ wordField (wordB m d a imm) 21 5 = d ∧ wordField (wordB m d a imm) 16 5 = a ∧
    wordField (wordB m d a imm) 0 16 = imm.toNat := by
  have hi := imm.isLt
  have h : m * 2 ^ 26 + d * 2 ^ 21 + a * 2 ^ 16 + imm.toNat < 2 ^ 32 := by omega
  simp only [wordB, wordField_ofNat _ _ _ h]
  omega

theorem wordD_fields {m d a op : Nat} (n : RillNo) (hm : m < 64) (hd : d < 32) (ha : a < 32) (ho : op < 1024) :
    wordField (wordD m d a n op) 26 6 = m ∧ wordField (wordD m d a n op) 21 5 = d ∧ wordField (wordD m d a n op) 16 5 = a ∧
    wordField (wordD m d a n op) 10 6 = n.val ∧ wordField (wordD m d a n op) 0 10 = op := by
  have hn := n.isLt
  have h : m * 2 ^ 26 + d * 2 ^ 21 + a * 2 ^ 16 + n.val * 2 ^ 10 + op < 2 ^ 32 := by omega
  simp only [wordD, wordField_ofNat _ _ _ h]
  omega

end Sys2Proof
end

