-- ==== Sys2Proof/Laws/Store.lean ====
section
/-!
SUPPORT. Read after write over the stores: registers and their fields, bytes of memory.
-/
namespace Sys2Proof.Machine

/-! ### Registers -/

theorem Store.reg_putReg_ne (t : Store) (a b : Nat) (v : Word) (h : b ≠ a) : (t.putReg a v).reg b = t.reg b :=
  tget_tput_other _ _ _ _ _ h

theorem Store.reg_putReg_same (t : Store) (a : Nat) (v : Word) (h : t.Wf) : (t.putReg a v).reg a = v &&& regMask a :=
  tget_tput_same _ _ _ _ h.1

/-- Whether a register has the field: every bit of it belongs to the register's layout. -/
def Fld.known (f : Fld) : Bool := f.lo + f.w ≤ 32 && (regMask f.addr &&& fieldMask f.lo f.w == fieldMask f.lo f.w)

/-- Whether two fields of one register have no bit in common. -/
def Fld.apart (f g : Fld) : Bool := f.lo + f.w ≤ g.lo || g.lo + g.w ≤ f.lo

theorem fieldMask_bit (lo w i : Nat) (hi : i < 32) :
    (fieldMask lo w).getLsbD i = (decide (lo ≤ i) && decide (i < lo + w)) := by
  simp only [fieldMask, BitVec.getLsbD_ofNat, hi, decide_true, Bool.true_and, Nat.testBit_mul_two_pow, Nat.testBit_two_pow_sub_one]
  by_cases h : lo ≤ i <;> simp [h] <;> omega

theorem fieldOf_eq_of_bits (x y : Word) (lo w : Nat) (h : ∀ i, lo ≤ i → i < lo + w → x.getLsbD i = y.getLsbD i) :
    fieldOf x lo w = fieldOf y lo w := by
  apply Nat.eq_of_testBit_eq
  intro i
  simp only [fieldOf, natBits, Nat.testBit_mod_two_pow, Nat.testBit_div_two_pow]
  by_cases hi : i < w
  · simp only [hi, decide_true, Bool.true_and]
    have := h (i + lo) (by omega) (by omega)
    simpa [BitVec.getLsbD] using this
  · simp [hi]

/-- A field that was written holds the value written. -/
theorem fieldOf_withField (x m : Word) (lo w v : Nat) (hw : lo + w ≤ 32) (hm : m &&& fieldMask lo w = fieldMask lo w) :
    fieldOf (withField x lo w v &&& m) lo w = v % 2 ^ w := by
  apply Nat.eq_of_testBit_eq
  intro i
  simp only [fieldOf, natBits, Nat.testBit_mod_two_pow, Nat.testBit_div_two_pow]
  by_cases hi : i < w
  · have h32 : i + lo < 32 := by omega
    have hb := fieldMask_bit lo w (i + lo) h32
    have hmb : m.getLsbD (i + lo) = true := by
      have := congrArg (fun z : Word => z.getLsbD (i + lo)) hm
      simp only [BitVec.getLsbD_and, hb] at this
      simpa [show i + lo < lo + w by omega] using this
    have : (withField x lo w v &&& m).getLsbD (i + lo) = v.testBit i := by
      simp only [withField, BitVec.getLsbD_and, BitVec.getLsbD_or, BitVec.getLsbD_not, hb, hmb, BitVec.getLsbD_ofNat, h32,
        Nat.testBit_mul_two_pow]
      simp [show i + lo < lo + w by omega]
    simpa [BitVec.getLsbD, hi] using this
  · simp [hi]

/-- A write of one field leaves a field apart from it alone. -/
theorem fieldOf_withField_apart (x m : Word) (lo w v lo' w' : Nat) (h : lo + w ≤ lo' ∨ lo' + w' ≤ lo) (hw : lo' + w' ≤ 32)
    (hm : m &&& fieldMask lo' w' = fieldMask lo' w') :
    fieldOf (withField x lo w v &&& m) lo' w' = fieldOf x lo' w' := by
  apply fieldOf_eq_of_bits
  intro i h1 h2
  have h32 : i < 32 := by omega
  have hb := fieldMask_bit lo w i h32
  have hb' := fieldMask_bit lo' w' i h32
  have hmb : m.getLsbD i = true := by
    have := congrArg (fun z : Word => z.getLsbD i) hm
    simp only [BitVec.getLsbD_and, hb'] at this
    simpa [h1, h2] using this
  have hout : (decide (lo ≤ i) && decide (i < lo + w)) = false := by
    rcases h with h | h <;> simp <;> omega
  simp only [withField, BitVec.getLsbD_and, BitVec.getLsbD_or, BitVec.getLsbD_not, hb, hmb, hout, h32]
  simp

/-! ### Memory -/

theorem Store.byte_putByte_ne (t : Store) (k j : Nat) (v : Byte) (h : j ≠ k) : (t.putByte k v).byte j = t.byte j :=
  tget_tput_other _ _ _ _ _ h

theorem Store.byte_putByte_same (t : Store) (k : Nat) (v : Byte) (h : t.Wf) : (t.putByte k v).byte k = v :=
  tget_tput_same _ _ _ _ h.2.2.1

/-- A write of bytes leaves every byte outside them alone. -/
theorem Store.byte_putBytes_ne (k : Nat) (bs : List Byte) (j : Nat) (h : j < k ∨ k + bs.length ≤ j) :
    ∀ t : Store, (t.putBytes k bs).byte j = t.byte j := by
  induction bs generalizing k with
  | nil => intro t; rfl
  | cons b bs ih =>
    intro t
    simp only [List.length_cons] at h
    simp only [Store.putBytes]
    rw [ih (k + 1) (by omega), Store.byte_putByte_ne _ _ _ _ (by omega)]

/-- A byte that was written reads as written. -/
theorem Store.byte_putBytes_mem (k : Nat) (bs : List Byte) (i : Nat) (hi : i < bs.length) :
    ∀ t : Store, t.Wf → (t.putBytes k bs).byte (k + i) = bs[i] := by
  induction bs generalizing k i with
  | nil => simp at hi
  | cons b bs ih =>
    intro t ht
    simp only [Store.putBytes]
    cases i with
    | zero =>
      rw [Store.byte_putBytes_ne _ _ _ (by simp), Nat.add_zero, Store.byte_putByte_same _ _ _ ht]
      simp
    | succ i =>
      have hlen : i < bs.length := by simpa using hi
      have h := ih (k + 1) i hlen (t.putByte k b) (t.putByte_wf k b ht)
      have e : k + (i + 1) = k + 1 + i := by omega
      rw [e, h]
      simp

/-- The bytes that were written read back. -/
theorem Store.bytes_putBytes (k : Nat) (bs : List Byte) : ∀ t : Store, t.Wf → (t.putBytes k bs).bytes k bs.length = bs := by
  induction bs generalizing k with
  | nil => intro t _; rfl
  | cons b bs ih =>
    intro t ht
    simp only [Store.putBytes, List.length_cons, Store.bytes]
    rw [Store.byte_putBytes_ne _ _ _ (by simp), Store.byte_putByte_same _ _ _ ht, ih _ _ (t.putByte_wf k b ht)]

@[simp] theorem Store.putBytes_regs (k : Nat) (bs : List Byte) : ∀ t : Store, (t.putBytes k bs).regs = t.regs := by
  induction bs generalizing k with
  | nil => intro t; rfl
  | cons b bs ih => intro t; exact (ih (k + 1) _).trans rfl

@[simp] theorem Store.putBytes_errs (k : Nat) (bs : List Byte) : ∀ t : Store, (t.putBytes k bs).errs = t.errs := by
  induction bs generalizing k with
  | nil => intro t; rfl
  | cons b bs ih => intro t; exact (ih (k + 1) _).trans rfl

@[simp] theorem Store.putBytes_valid (k : Nat) (bs : List Byte) : ∀ t : Store, (t.putBytes k bs).valid = t.valid := by
  induction bs generalizing k with
  | nil => intro t; rfl
  | cons b bs ih => intro t; exact (ih (k + 1) _).trans rfl

end Sys2Proof.Machine
end

