-- ==== Sys2Proof/Laws/Op.lean ====
section
/-!
SUPPORT. What the shared operations do: the combinators, and the effect of each primitive on registers, fields and memory.
-/
namespace Sys2Proof.Machine

variable {s : State}

/-! ### Combinators -/

@[simp] theorem Op.go_eq (o : Op) (s : State) : o.go s = .next (o.run s) := rfl
@[simp] theorem Op.skip_run (s : State) : Op.skip.run s = s := rfl
@[simp] theorem Op.andThen_run (a b : Op) (s : State) : (a.andThen b).run s = b.run (a.run s) := rfl
@[simp] theorem Op.all_nil_run (s : State) : (Op.all []).run s = s := rfl
@[simp] theorem Op.all_cons_run (a : Op) (l : List Op) (s : State) : (Op.all (a :: l)).run s = (Op.all l).run (a.run s) := rfl
@[simp] theorem Op.get_run (f : State → Op) (s : State) : (Op.get f).run s = (f s).run s := rfl
@[simp] theorem Op.when_true (a : Op) : Op.when true a = a := rfl
@[simp] theorem Op.when_false (a : Op) : Op.when false a = Op.skip := rfl
@[simp] theorem Op.each_nil {α : Type} (f : α → Op) (s : State) : (Op.each [] f).run s = s := rfl
@[simp] theorem Op.each_cons {α : Type} (x : α) (l : List α) (f : α → Op) (s : State) :
    (Op.each (x :: l) f).run s = (Op.each l f).run ((f x).run s) := rfl

theorem Op.ite_run (c : Prop) [Decidable c] (a b : Op) (s : State) : (if c then a else b).run s = if c then a.run s else b.run s := by
  split <;> rfl

/-- A command of a block does its work while the block has power. -/
theorem Op.on_run (b : Block) (o : Op) (h : s.powered b = true) : (Op.on b o).run s = o.run s := by
  simp [Op.on, h]

/-- A command of a block does nothing while the block has no power. -/
theorem Op.on_off (b : Block) (o : Op) (h : s.powered b = false) : (Op.on b o).run s = s := by
  simp [Op.on, h]

/-! ### What no operation touches -/

@[simp] theorem Op.run_pending (o : Op) (s : State) : (o.run s).pending = s.pending := (o.keeps s).pending

theorem Op.run_wf (o : Op) (h : s.store.Wf) : (o.run s).store.Wf := (o.keeps s).wf h

/-! ### Primitives -/

@[simp] theorem Op.blk_store (f : Blocks → Blocks) (s : State) : ((Op.blk f).run s).store = s.store := rfl
@[simp] theorem Op.blk_blk (f : Blocks → Blocks) (s : State) : ((Op.blk f).run s).blk = f s.blk := rfl
@[simp] theorem Op.blk_reg (f : Blocks → Blocks) (s : State) (a : Nat) : ((Op.blk f).run s).reg a = s.reg a := rfl
@[simp] theorem Op.blk_fld (f : Blocks → Blocks) (s : State) (g : Fld) : ((Op.blk f).run s).fld g = s.fld g := rfl
@[simp] theorem Op.blk_bit (f : Blocks → Blocks) (s : State) (g : Fld) : ((Op.blk f).run s).bit g = s.bit g := rfl
@[simp] theorem Op.putReg_blk (a : Nat) (v : Word) (s : State) : ((Op.putReg a v).run s).blk = s.blk := rfl
@[simp] theorem Op.putReg_store (a : Nat) (v : Word) (s : State) : ((Op.putReg a v).run s).store = s.store.putReg a v := rfl
@[simp] theorem Op.set_blk (f : Fld) (v : Nat) (s : State) : ((Op.set f v).run s).blk = s.blk := rfl
@[simp] theorem Op.setReg_blk (a v : Nat) (s : State) : ((Op.setReg a v).run s).blk = s.blk := rfl
@[simp] theorem Op.count_blk (a n : Nat) (s : State) : ((Op.count a n).run s).blk = s.blk := rfl
@[simp] theorem Op.inc_blk (a : Nat) (s : State) : ((Op.inc a).run s).blk = s.blk := rfl
@[simp] theorem Op.putBytes_blk (k : Nat) (bs : List Byte) (s : State) : ((Op.putBytes k bs).run s).blk = s.blk := rfl
@[simp] theorem Op.putErr_blk (k : Nat) (e : BitVec 72) (s : State) : ((Op.putErr k e).run s).blk = s.blk := rfl
@[simp] theorem Op.putValid_blk (k : Nat) (v : Bool) (s : State) : ((Op.putValid k v).run s).blk = s.blk := rfl
@[simp] theorem Op.dropRegs_blk (lo hi : Nat) (s : State) : ((Op.dropRegs lo hi).run s).blk = s.blk := rfl
@[simp] theorem Op.dropMem_blk (lo hi : Nat) (s : State) : ((Op.dropMem lo hi).run s).blk = s.blk := rfl

@[simp] theorem Op.set_mem (f : Fld) (v : Nat) (s : State) : ((Op.set f v).run s).store.mem = s.store.mem := rfl
@[simp] theorem Op.setReg_mem (a v : Nat) (s : State) : ((Op.setReg a v).run s).store.mem = s.store.mem := rfl
@[simp] theorem Op.count_mem (a n : Nat) (s : State) : ((Op.count a n).run s).store.mem = s.store.mem := rfl
@[simp] theorem Op.inc_mem (a : Nat) (s : State) : ((Op.inc a).run s).store.mem = s.store.mem := rfl
@[simp] theorem Op.putReg_mem (a : Nat) (v : Word) (s : State) : ((Op.putReg a v).run s).store.mem = s.store.mem := rfl
@[simp] theorem Op.set_fuses (f : Fld) (v : Nat) (s : State) : ((Op.set f v).run s).store.fuses = s.store.fuses := rfl

@[simp] theorem Op.putBytes_reg (k : Nat) (bs : List Byte) (s : State) (a : Nat) : ((Op.putBytes k bs).run s).reg a = s.reg a := by
  simp [Op.putBytes, State.reg, Store.reg]

@[simp] theorem Op.putBytes_fld (k : Nat) (bs : List Byte) (s : State) (g : Fld) : ((Op.putBytes k bs).run s).fld g = s.fld g := by
  simp [Op.putBytes, State.fld, Store.fld, Store.reg]

@[simp] theorem Op.putErr_fld (k : Nat) (e : BitVec 72) (s : State) (g : Fld) : ((Op.putErr k e).run s).fld g = s.fld g := rfl
@[simp] theorem Op.putValid_fld (k : Nat) (v : Bool) (s : State) (g : Fld) : ((Op.putValid k v).run s).fld g = s.fld g := rfl
@[simp] theorem Op.putErr_reg (k : Nat) (e : BitVec 72) (s : State) (a : Nat) : ((Op.putErr k e).run s).reg a = s.reg a := rfl
@[simp] theorem Op.putValid_reg (k : Nat) (v : Bool) (s : State) (a : Nat) : ((Op.putValid k v).run s).reg a = s.reg a := rfl

/-! ### Register reads after writes -/

theorem Op.reg_putReg_same (a : Nat) (v : Word) (h : s.store.Wf) : ((Op.putReg a v).run s).reg a = v &&& regMask a :=
  Store.reg_putReg_same _ _ _ h

theorem Op.reg_putReg_ne (a b : Nat) (v : Word) (h : b ≠ a) : ((Op.putReg a v).run s).reg b = s.reg b :=
  Store.reg_putReg_ne _ _ _ _ h

theorem Op.fld_putReg_ne (a : Nat) (v : Word) (g : Fld) (h : g.addr ≠ a) : ((Op.putReg a v).run s).fld g = s.fld g := by
  simp only [State.fld, Store.fld, Op.putReg_store]
  rw [Store.reg_putReg_ne _ _ _ _ h]

theorem Op.fld_putReg_same (v : Word) (g : Fld) (hk : g.known = true) (h : s.store.Wf) :
    ((Op.putReg g.addr v).run s).fld g = fieldOf v g.lo g.w := by
  simp only [Fld.known, Bool.and_eq_true, decide_eq_true_eq, beq_iff_eq] at hk
  simp only [State.fld, Store.fld, Op.putReg_store]
  rw [Store.reg_putReg_same _ _ _ h]
  apply fieldOf_eq_of_bits
  intro i h1 h2
  have h32 : i < 32 := by omega
  have hmb : (regMask g.addr).getLsbD i = true := by
    have := congrArg (fun z : Word => z.getLsbD i) hk.2
    simp only [BitVec.getLsbD_and, fieldMask_bit _ _ _ h32] at this
    simpa [h1, h2] using this
  simp [hmb]

/-- A field that was set holds the value. -/
theorem Op.fld_set_same (f : Fld) (v : Nat) (hk : f.known = true) (h : s.store.Wf) : ((Op.set f v).run s).fld f = v % 2 ^ f.w := by
  simp only [Fld.known, Bool.and_eq_true, decide_eq_true_eq, beq_iff_eq] at hk
  simp only [Op.set, Op.get_run, State.fld, Store.fld, Op.putReg_store]
  rw [Store.reg_putReg_same _ _ _ h]
  exact fieldOf_withField _ _ _ _ _ hk.1 hk.2

/-- Setting a field leaves a field of another register alone. -/
theorem Op.fld_set_ne (f g : Fld) (v : Nat) (h : g.addr ≠ f.addr) : ((Op.set f v).run s).fld g = s.fld g :=
  Op.fld_putReg_ne _ _ _ h

/-- Setting a field leaves the other fields of its register alone. -/
theorem Op.fld_set_apart (f g : Fld) (v : Nat) (ha : g.addr = f.addr) (hd : f.apart g = true) (hk : g.known = true)
    (h : s.store.Wf) : ((Op.set f v).run s).fld g = s.fld g := by
  simp only [Fld.known, Bool.and_eq_true, decide_eq_true_eq, beq_iff_eq] at hk
  simp only [Fld.apart, Bool.or_eq_true, decide_eq_true_eq] at hd
  simp only [Op.set, Op.get_run, State.fld, Store.fld, Op.putReg_store, State.reg]
  rw [ha, Store.reg_putReg_same _ _ _ h]
  exact fieldOf_withField_apart _ _ _ _ _ _ _ hd hk.1 (ha ▸ hk.2)

theorem Op.reg_set_ne (f : Fld) (v a : Nat) (h : a ≠ f.addr) : ((Op.set f v).run s).reg a = s.reg a :=
  Op.reg_putReg_ne _ _ _ h

theorem Op.reg_setReg_ne (a b v : Nat) (h : b ≠ a) : ((Op.setReg a v).run s).reg b = s.reg b := Op.reg_putReg_ne _ _ _ h

theorem Op.fld_setReg_ne (a v : Nat) (g : Fld) (h : g.addr ≠ a) : ((Op.setReg a v).run s).fld g = s.fld g := Op.fld_putReg_ne _ _ _ h

theorem Op.reg_count_ne (a b n : Nat) (h : b ≠ a) : ((Op.count a n).run s).reg b = s.reg b := Op.reg_putReg_ne _ _ _ h

theorem Op.fld_count_ne (a n : Nat) (g : Fld) (h : g.addr ≠ a) : ((Op.count a n).run s).fld g = s.fld g := Op.fld_putReg_ne _ _ _ h

theorem Op.reg_inc_ne (a b : Nat) (h : b ≠ a) : ((Op.inc a).run s).reg b = s.reg b := Op.reg_putReg_ne _ _ _ h

theorem Op.fld_inc_ne (a : Nat) (g : Fld) (h : g.addr ≠ a) : ((Op.inc a).run s).fld g = s.fld g := Op.fld_putReg_ne _ _ _ h

/-- A counter counts one, and stays at its largest value. -/
theorem Op.reg_inc_same (a : Nat) (hm : regMask a = 0xFFFFFFFF) (h : s.store.Wf) :
    (((Op.inc a).run s).reg a).toNat = satAdd 32 (s.reg a).toNat 1 := by
  simp only [Op.inc, Op.count, Op.get_run]
  rw [Op.reg_putReg_same _ _ h, hm]
  have hl : satAdd 32 (s.reg a).toNat 1 < 2 ^ 32 := by simp only [satAdd]; omega
  rw [show (0xFFFFFFFF : Word) = BitVec.allOnes 32 from rfl, BitVec.and_allOnes, BitVec.toNat_ofNat, Nat.mod_eq_of_lt hl]

end Sys2Proof.Machine
end

