-- ==== Sys2Proof/Laws/State.lean ====
section
/-!
SUPPORT. The small lemmas of the state: what each update of a field leaves in every field, and the cores.
-/
namespace Sys2Proof.Machine

/-! ### One core replaced -/

@[simp] theorem State.core_setCore (s : State) (c : CoreId) (k : Core) : (s.setCore c k).core c = k := by
  simp [State.core, State.setCore]

theorem State.core_setCore_ne (s : State) (c d : CoreId) (k : Core) (h : d ≠ c) : (s.setCore c k).core d = s.core d := by
  simp only [State.core, State.setCore]
  exact Vector.getElem_set_ne _ _ fun e => h (Fin.ext e.symm)

@[simp] theorem State.setCore_store (s : State) (c : CoreId) (k : Core) : (s.setCore c k).store = s.store := rfl
@[simp] theorem State.setCore_reg (s : State) (c : CoreId) (k : Core) (a : Nat) : (s.setCore c k).reg a = s.reg a := rfl
@[simp] theorem State.setCore_fld (s : State) (c : CoreId) (k : Core) (f : Fld) : (s.setCore c k).fld f = s.fld f := rfl
@[simp] theorem State.setCore_bit (s : State) (c : CoreId) (k : Core) (f : Fld) : (s.setCore c k).bit f = s.bit f := rfl
@[simp] theorem State.setCore_pending (s : State) (c : CoreId) (k : Core) : (s.setCore c k).pending = s.pending := rfl
@[simp] theorem State.setCore_domOn (s : State) (c : CoreId) (k : Core) (d : Nat) : (s.setCore c k).domOn d = s.domOn d := rfl
@[simp] theorem State.setCore_powered (s : State) (c : CoreId) (k : Core) (b : Block) : (s.setCore c k).powered b = s.powered b := rfl
@[simp] theorem State.setCore_running (s : State) (c : CoreId) (k : Core) (b : Block) : (s.setCore c k).running b = s.running b := rfl

@[simp] theorem State.setCore_setCore (s : State) (c : CoreId) (k l : Core) : (s.setCore c k).setCore c l = s.setCore c l := by
  simp [State.setCore]

theorem State.setCore_self (s : State) (c : CoreId) : s.setCore c (s.core c) = s := by
  simp [State.setCore, State.core]

@[simp] theorem Op.core_run (c : CoreId) (f : Core → Core) (s : State) : (Op.core c f).run s = s.setCore c (f (s.core c)) := rfl

/-! ### The fields of the stores under each update -/

@[simp] theorem Store.putReg_mem (t : Store) (a : Nat) (v : Word) : (t.putReg a v).mem = t.mem := rfl
@[simp] theorem Store.putReg_errs (t : Store) (a : Nat) (v : Word) : (t.putReg a v).errs = t.errs := rfl
@[simp] theorem Store.putReg_valid (t : Store) (a : Nat) (v : Word) : (t.putReg a v).valid = t.valid := rfl
@[simp] theorem Store.putReg_fuses (t : Store) (a : Nat) (v : Word) : (t.putReg a v).fuses = t.fuses := rfl
@[simp] theorem Store.putReg_byte (t : Store) (a : Nat) (v : Word) (k : Nat) : (t.putReg a v).byte k = t.byte k := rfl
@[simp] theorem Store.putErr_regs (t : Store) (k : Nat) (e : BitVec 72) : (t.putErr k e).regs = t.regs := rfl
@[simp] theorem Store.putErr_mem (t : Store) (k : Nat) (e : BitVec 72) : (t.putErr k e).mem = t.mem := rfl
@[simp] theorem Store.putErr_byte (t : Store) (k : Nat) (e : BitVec 72) (j : Nat) : (t.putErr k e).byte j = t.byte j := rfl
@[simp] theorem Store.putErr_valid (t : Store) (k : Nat) (e : BitVec 72) : (t.putErr k e).valid = t.valid := rfl
@[simp] theorem Store.putErr_fuses (t : Store) (k : Nat) (e : BitVec 72) : (t.putErr k e).fuses = t.fuses := rfl
@[simp] theorem Store.putValid_regs (t : Store) (k : Nat) (v : Bool) : (t.putValid k v).regs = t.regs := rfl
@[simp] theorem Store.putValid_mem (t : Store) (k : Nat) (v : Bool) : (t.putValid k v).mem = t.mem := rfl
@[simp] theorem Store.putValid_byte (t : Store) (k : Nat) (v : Bool) (j : Nat) : (t.putValid k v).byte j = t.byte j := rfl
@[simp] theorem Store.putValid_errs (t : Store) (k : Nat) (v : Bool) : (t.putValid k v).errs = t.errs := rfl
@[simp] theorem Store.putValid_fuses (t : Store) (k : Nat) (v : Bool) : (t.putValid k v).fuses = t.fuses := rfl
@[simp] theorem Store.dropRegs_mem (t : Store) (lo hi : Nat) : (t.dropRegs lo hi).mem = t.mem := rfl
@[simp] theorem Store.dropRegs_byte (t : Store) (lo hi k : Nat) : (t.dropRegs lo hi).byte k = t.byte k := rfl
@[simp] theorem Store.dropRegs_fuses (t : Store) (lo hi : Nat) : (t.dropRegs lo hi).fuses = t.fuses := rfl
@[simp] theorem Store.dropMem_regs (t : Store) (lo hi : Nat) : (t.dropMem lo hi).regs = t.regs := rfl
@[simp] theorem Store.dropMem_fuses (t : Store) (lo hi : Nat) : (t.dropMem lo hi).fuses = t.fuses := rfl

/-! ### An update of the state of one block: its registers and every memory stay, and so does the state of the others (by `Op.blk_blk`) -/

@[simp] theorem Op.bon_store (f : Bon → Bon) (s : State) : ((Op.bon f).run s).store = s.store := rfl
@[simp] theorem Op.bon_blk (f : Bon → Bon) (s : State) : ((Op.bon f).run s).blk = { s.blk with bon := f s.blk.bon } := rfl
@[simp] theorem Op.clk_store (f : Clock → Clock) (s : State) : ((Op.clk f).run s).store = s.store := rfl
@[simp] theorem Op.clk_blk (f : Clock → Clock) (s : State) : ((Op.clk f).run s).blk = { s.blk with clk := f s.blk.clk } := rfl
@[simp] theorem Op.can_store (f : Can → Can) (s : State) : ((Op.can f).run s).store = s.store := rfl
@[simp] theorem Op.can_blk (f : Can → Can) (s : State) : ((Op.can f).run s).blk = { s.blk with can := f s.blk.can } := rfl
@[simp] theorem Op.corr_store (f : Corr → Corr) (s : State) : ((Op.corr f).run s).store = s.store := rfl
@[simp] theorem Op.corr_blk (f : Corr → Corr) (s : State) : ((Op.corr f).run s).blk = { s.blk with corr := f s.blk.corr } := rfl
@[simp] theorem Op.net_store (f : Net → Net) (s : State) : ((Op.net f).run s).store = s.store := rfl
@[simp] theorem Op.net_blk (f : Net → Net) (s : State) : ((Op.net f).run s).blk = { s.blk with net := f s.blk.net } := rfl
@[simp] theorem Op.gnt_store (f : Gnt → Gnt) (s : State) : ((Op.gnt f).run s).store = s.store := rfl
@[simp] theorem Op.gnt_blk (f : Gnt → Gnt) (s : State) : ((Op.gnt f).run s).blk = { s.blk with gnt := f s.blk.gnt } := rfl
@[simp] theorem Op.upd_store (f : Upd → Upd) (s : State) : ((Op.upd f).run s).store = s.store := rfl
@[simp] theorem Op.upd_blk (f : Upd → Upd) (s : State) : ((Op.upd f).run s).blk = { s.blk with upd := f s.blk.upd } := rfl
@[simp] theorem Op.lamp_store (f : Lamp → Lamp) (s : State) : ((Op.lamp f).run s).store = s.store := rfl
@[simp] theorem Op.lamp_blk (f : Lamp → Lamp) (s : State) : ((Op.lamp f).run s).blk = { s.blk with lamp := f s.blk.lamp } := rfl
@[simp] theorem Op.met_store (f : Met → Met) (s : State) : ((Op.met f).run s).store = s.store := rfl
@[simp] theorem Op.met_blk (f : Met → Met) (s : State) : ((Op.met f).run s).blk = { s.blk with met := f s.blk.met } := rfl
@[simp] theorem Op.rcd_store (f : Recorder → Recorder) (s : State) : ((Op.rcd f).run s).store = s.store := rfl
@[simp] theorem Op.rcd_blk (f : Recorder → Recorder) (s : State) : ((Op.rcd f).run s).blk = { s.blk with rcd := f s.blk.rcd } := rfl
@[simp] theorem Op.memu_store (f : MemUnit → MemUnit) (s : State) : ((Op.memu f).run s).store = s.store := rfl
@[simp] theorem Op.memu_blk (f : MemUnit → MemUnit) (s : State) : ((Op.memu f).run s).blk = { s.blk with memu := f s.blk.memu } := rfl
@[simp] theorem Op.oxb_store (f : Oxb → Oxb) (s : State) : ((Op.oxb f).run s).store = s.store := rfl
@[simp] theorem Op.oxb_blk (f : Oxb → Oxb) (s : State) : ((Op.oxb f).run s).blk = { s.blk with oxb := f s.blk.oxb } := rfl
@[simp] theorem Op.shw_store (f : Show → Show) (s : State) : ((Op.shw f).run s).store = s.store := rfl
@[simp] theorem Op.shw_blk (f : Show → Show) (s : State) : ((Op.shw f).run s).blk = { s.blk with shows := f s.blk.shows } := rfl
@[simp] theorem Op.rad_store (f : Rad → Rad) (s : State) : ((Op.rad f).run s).store = s.store := rfl
@[simp] theorem Op.rad_blk (f : Rad → Rad) (s : State) : ((Op.rad f).run s).blk = { s.blk with rad := f s.blk.rad } := rfl
@[simp] theorem Op.pwr_store (f : Power → Power) (s : State) : ((Op.pwr f).run s).store = s.store := rfl
@[simp] theorem Op.pwr_blk (f : Power → Power) (s : State) : ((Op.pwr f).run s).blk = { s.blk with pwr := f s.blk.pwr } := rfl
@[simp] theorem Op.weir_store (f : Weir → Weir) (s : State) : ((Op.weir f).run s).store = s.store := rfl
@[simp] theorem Op.weir_blk (f : Weir → Weir) (s : State) : ((Op.weir f).run s).blk = { s.blk with weir := f s.blk.weir } := rfl

/-! ### The word registers of a core (R46) -/

@[simp] theorem Core.rd_zero (k : Core) : k.rd 0 = 0 := rfl
@[simp] theorem Core.wr_zero (k : Core) (v : Word) : k.wr 0 v = k := rfl

theorem Core.rd_wr_same (k : Core) (r : RegNo) (v : Word) (h : r ≠ 0) : (k.wr r v).rd r = v := by
  simp [Core.rd, Core.wr, h]

theorem Core.rd_wr_ne (k : Core) (r q : RegNo) (v : Word) (h : q ≠ r) : (k.wr r v).rd q = k.rd q := by
  simp only [Core.rd, Core.wr]
  split
  · rfl
  · split
    · rfl
    · exact Vector.getElem_set_ne r.isLt q.isLt fun e => h (Fin.ext e.symm)

@[simp] theorem Core.wr_pc (k : Core) (r : RegNo) (v : Word) : (k.wr r v).pc = k.pc := by unfold Core.wr; split <;> rfl
@[simp] theorem Core.wr_st (k : Core) (r : RegNo) (v : Word) : (k.wr r v).st = k.st := by unfold Core.wr; split <;> rfl
@[simp] theorem Core.wr_mode (k : Core) (r : RegNo) (v : Word) : (k.wr r v).mode = k.mode := by unfold Core.wr; split <;> rfl
@[simp] theorem Core.wr_budget (k : Core) (r : RegNo) (v : Word) : (k.wr r v).budget = k.budget := by unfold Core.wr; split <;> rfl
@[simp] theorem Core.wr_icount (k : Core) (r : RegNo) (v : Word) : (k.wr r v).icount = k.icount := by unfold Core.wr; split <;> rfl
@[simp] theorem Core.wr_sat (k : Core) (r : RegNo) (v : Word) : (k.wr r v).sat = k.sat := by unfold Core.wr; split <;> rfl
@[simp] theorem Core.wr_lstat (k : Core) (r : RegNo) (v : Word) : (k.wr r v).lstat = k.lstat := by unfold Core.wr; split <;> rfl
@[simp] theorem Core.wr_run (k : Core) (r : RegNo) (v : Word) : (k.wr r v).run = k.run := by unfold Core.wr; split <;> rfl
@[simp] theorem Core.wr_loads (k : Core) (r : RegNo) (v : Word) : (k.wr r v).loads = k.loads := by unfold Core.wr; split <;> rfl
@[simp] theorem Core.wr_stores (k : Core) (r : RegNo) (v : Word) : (k.wr r v).stores = k.stores := by unfold Core.wr; split <;> rfl
@[simp] theorem Core.wr_faults (k : Core) (r : RegNo) (v : Word) : (k.wr r v).faults = k.faults := by unfold Core.wr; split <;> rfl
@[simp] theorem Core.wr_popen (k : Core) (r : RegNo) (v : Word) : (k.wr r v).popen = k.popen := by unfold Core.wr; split <;> rfl
@[simp] theorem Core.wr_item (k : Core) (r : RegNo) (v : Word) : (k.wr r v).item = k.item := by unfold Core.wr; split <;> rfl

/-! ### Retiring (R54) -/

@[simp] theorem Core.retire_pc (k : Core) (b : Bool) (p : Word) : (k.retire b p).pc = p := rfl
@[simp] theorem Core.retire_w (k : Core) (b : Bool) (p : Word) : (k.retire b p).w = k.w := rfl
@[simp] theorem Core.retire_st (k : Core) (b : Bool) (p : Word) : (k.retire b p).st = k.st := rfl
@[simp] theorem Core.retire_mode (k : Core) (b : Bool) (p : Word) : (k.retire b p).mode = k.mode := rfl
@[simp] theorem Core.retire_run (k : Core) (b : Bool) (p : Word) : (k.retire b p).run = .running := rfl
@[simp] theorem Core.retire_loads (k : Core) (b : Bool) (p : Word) : (k.retire b p).loads = k.loads := rfl
@[simp] theorem Core.retire_icount (k : Core) (b : Bool) (p : Word) : (k.retire b p).icount = (k.icount + 1) % 2 ^ 64 := rfl
@[simp] theorem Core.retire_rd (k : Core) (b : Bool) (p : Word) (r : RegNo) : (k.retire b p).rd r = k.rd r := rfl

end Sys2Proof.Machine
end

