-- ==== Sys2Proof/Laws/Issue.lean ====
section
/-!
SUPPORT. What issuing, finishing and raising do: a core that is ready runs the instruction's own body, and nothing else happens.
-/
namespace Sys2Proof.Machine

variable {s : State} {c : CoreId}

/-- The data of a local word without bit errors is read as it stands. -/
theorem Op.readLocal_clean (a : Nat) (k : Option Word → Op) (h : weight (s.errAt (localKey c.val a)) = 0) :
    (Op.readLocal c a k).run s = (k (some (s.store.w32 (localKey c.val a)))).run s := by
  simp [Op.readLocal, h]

/-- The fetch of a core that can fetch goes on with the instruction. -/
theorem Op.fetch_run (next : Op) (h : s.fetches c = true) : (Op.fetch c next).run s = next.run s := by
  simp only [State.fetches, Bool.and_eq_true, beq_iff_eq] at h
  obtain ⟨h4, h⟩ := h
  simp only [Op.fetch, Op.get_run, h4, ne_eq, not_true_eq_false, if_false]
  generalize hr : regionOf (s.core c).pc.toNat = r at h ⊢
  cases r <;> simp only [Bool.false_eq_true, beq_iff_eq] at h
  · exact Op.readLocal_clean _ _ h
  · simp [h]
  · simp [h]

/-- A core that is ready issues the instruction: the loads it depends on return, and its body runs. -/
theorem Op.issue_run (uses : List RegNo) (body : Core → Op) (h : s.ready c = true) :
    (Op.issue c uses body).run s = (body (s.fed c uses)).run (s.setCore c (s.fed c uses)) := by
  simp only [State.ready, Bool.and_eq_true, Bool.not_eq_true'] at h
  obtain ⟨⟨⟨h1, h2⟩, h3⟩, h4⟩ := h
  have hb : ¬((s.core c).budgeted = true ∧ (s.core c).budget = 0) := by
    intro e
    simp [e.1, e.2] at h3
  simp only [Op.issue, Op.get_run]
  simp only [h1, h2, Bool.not_true, Bool.false_eq_true, if_false, decide_eq_true_eq, Bool.and_eq_true, hb]
  rw [Op.fetch_run _ h4]
  simp [State.fed]

/-- A core that issues nothing takes no instruction. -/
theorem Op.issue_idle (uses : List RegNo) (body : Core → Op) (h : s.issues c = false) : (Op.issue c uses body).run s = s := by
  simp [Op.issue, h]

/-- An instruction that finishes retires with the core as it changed it. -/
theorem Op.finish_run (f : Core → Core) :
    (Op.finish c f).run s = s.setCore c ((f (s.core c)).retire (s.core c).budgeted ((s.core c).pc + 4)) := rfl

/-- Issue and finish together: the state after an instruction that only changes its core. -/
theorem Op.issue_finish (uses : List RegNo) (f : Core → Core) (h : s.ready c = true) :
    (Op.issue c uses fun _ => Op.finish c f).run s = s.retires c uses f := by
  rw [Op.issue_run _ _ h, Op.finish_run]
  simp [State.retires]

/-- Pair fields that name pairs let the instruction go on. -/
theorem Op.pairs_run (l : List RegNo) (o : Op) (h : l.all isPair = true) : (Op.pairs c l o).run s = o.run s := by
  simp [Op.pairs, h]

/-- A pair field that names no pair raises ILLEGAL with reason 4. -/
theorem Op.pairs_bad (l : List RegNo) (o : Op) (h : l.all isPair = false) :
    (Op.pairs c l o).run s = (Op.raise c 0x01 4 0).run s := by
  simp [Op.pairs, h, Op.illegal]

end Sys2Proof.Machine
end

