-- ==== Sys2Proof/WellFormed.lean ====
section
/-!
DEFINITION. Well-formed commands: the operands are such as the spec lets reach the module. The meanings are total, so that an ill-formed
command has an effect too; statements that rest on these checks name them.
-/
namespace Sys2Proof

/-- The number of a block (R34: 25 blocks). -/
def blockNumber (n : BitVec 5) : Bool := decide (n.toNat < 25)

/-- An address in the register blocks of R30. -/
def registerAddress (a : Nat) : Bool := 0x40000000 ≤ a && a < 0x40190000

/-- The bytes that a CAN data length code stands for (R335). -/
def canDataLength (fdf : Bool) (dlc : Nat) : Nat :=
  if dlc ≤ 8 then dlc else if fdf then [12, 16, 20, 24, 32, 48, 64].getD (dlc - 9) 0 else 8

/-- A frame that a CAN node may send: a base identifier fills bits 28 to 18, a remote frame carries no data and is a classic frame, and
only an FD frame switches its bit rate or shows an error state. -/
def canFrame (id : BitVec 29) (xtd rtr : Bool) (dlc : BitVec 4) (fdf brs esi : Bool) (data : List Byte) : Bool :=
  (xtd || id.toNat % 2 ^ 18 == 0) && !(rtr && fdf) && (fdf || !(brs || esi))
    && data.length == (if rtr then 0 else canDataLength fdf dlc.toNat)

/-- Whether a command's operands are within what the spec gives the command. -/
def Instr.wellFormed : Instr → Bool
  | .registerWrite _ a _ => registerAddress a.toNat
  | .runSet n _ => blockNumber n
  | .runStopRequest n _ => blockNumber n
  | .blockStopped n => blockNumber n
  | .loadReturn _ n => decide (n < 8)
  | .lampInstrReturn _ n => decide (n < 8)
  | .ltcFrame hh mm ss ff _ => hh.toNat < 24 && mm.toNat < 60 && ss.toNat < 60 && ff.toNat < 30
  | .rdmResponseEnd _ _ bytes => decide (bytes.length ≤ 257)
  | .radioFrameReceive r psdu _ _ _ _ => decide (psdu.length ≤ if r.val = 2 then 127 else 2047)
  | .recalRequest radio => decide (radio.toNat < 3)
  | .ethSingleFrame x q => q.val < 4 || x.val == 1
  | .udpSegmentation x q _ => q.val < 4 || x.val == 1
  | .ethTxComplete x q => q.val < 4 || x.val == 1
  | .linkChange _ _ speed => decide (speed.toNat < 3)
  | .canFrameReceive id xtd rtr dlc fdf brs esi _ data _ => canFrame id xtd rtr dlc fdf brs esi data
  | .canError _ code _ weight => code.toNat != 0 && code.toNat != 7 && weight.toNat != 3
  | .eventQueueDrain n => blockNumber n
  | .healthFrame p => p.length == 64
  | .appFrame p => 0 < p.length && p.length ≤ 1024
  | .norEraseProgram erase _ len data => if erase then data.isEmpty else data.length == len.toNat
  | .updData _ _ _ bytes _ => decide (bytes.length ≤ 1020)
  | .lcUnlock resp => resp.length == 64
  | .remapInstall dram e line => dram || (e.val < 8 && line.toNat < 2 ^ 16)
  | .remapRemove dram e line => dram || (e.val < 8 && line.toNat < 2 ^ 16)
  | .timedResultRelease .. | .storeFaultResponse .. | .add .. | .sub .. | .and .. | .or .. | .xor .. | .andn .. | .slt .. |
  .sltu .. | .sll .. | .srl .. | .sra .. | .slli .. | .srli .. | .srai .. | .ror .. | .rori .. | .clz .. | .popc .. | .rev .. |
  .min .. | .max .. | .minu .. | .maxu .. | .addc .. | .subc .. | .addp .. | .subp .. | .sllp .. | .srlp .. | .srap .. | .movp ..
  | .cmpp .. | .mul .. | .mulh .. | .mulhu .. | .mulw .. | .mulwu .. | .mac .. | .macu .. | .div .. | .divu .. | .rem .. |
  .remu .. | .addi .. | .andi .. | .ori .. | .xori .. | .slti .. | .sltiu .. | .lhi .. | .cmpi .. | .li .. | .addis .. | .qadd ..
  | .qsub .. | .qaddu .. | .qsubu .. | .qmulq31 .. | .qmul1616 .. | .qneg .. | .qabs .. | .sats .. | .satu .. | .qshl .. |
  .rshr .. | .qmac .. | .qnarrow .. | .padd16 .. | .psub16 .. | .pmulq15 .. | .lw .. | .ld .. | .sw .. | .sd .. | .lb .. | .lbu ..
  | .lh .. | .lhu .. | .sb .. | .sh .. | .lwx .. | .ldx .. | .swx .. | .sdx .. | .lbx .. | .lbux .. | .lhx .. | .lhux .. | .sbx ..
  | .shx .. | .amoswap .. | .amoadd .. | .amoand .. | .amoor .. | .amocas .. | .bc .. | .br .. | .j .. | .jal .. | .jr .. |
  .jalr .. | .mfc .. | .mtc .. | .eret .. | .trap .. | .brk .. | .budgetExhausted .. | .lmix .. | .lmixn .. | .ltemp .. | .lsub ..
  | .push .. | .pop .. | .peek .. | .takeRill .. | .openp .. | .closep .. | .cancelp .. | .mark .. | .rewind .. | .release .. |
  .takeDispatch .. | .done .. | .spawn .. | .tnow .. | .twait .. | .twaitd .. | .twaitRelease .. | .fence .. | .gcall .. |
  .gpost .. | .gpostCompletion .. | .weirDispatch | .weirFlush .. | .rillEnable .. | .rillDisable .. | .feedRillSubmit |
  .convert .. | .fade .. | .steps .. | .lampLoad .. | .lampRead .. | .batchCompletion | .lampCurveData .. | .tableImageLoad |
  .corrTick | .solarUpdate | .solarQuery .. | .solarQueryDone | .presenceEvent | .faultReport | .corrResultPush | .corrFltFlush |
  .walkStart | .sendRingSpace | .walkDone | .commitInstant | .sourceRequest .. | .sourceSwitch | .genlockEdge | .sourceMiss .. |
  .ltcUnlock | .videoPacket .. | .universeDiscovery | .portFrameEnd .. | .rdmRequest .. | .rdmStart .. | .radioSlot .. |
  .txRequest | .frameExpire .. | .sleepyMaxage .. | .rxfreeBuffer | .scheduleBankRequest .. | .scheduleBankLoaded |
  .keyBlockArm .. | .newkey .. | .nbrRead | .nbrWriteConfig | .nbrWriteAll | .nbrClear | .neighbourAdrift .. | .scanDwell |
  .parentAdopt .. | .recalEnd | .ethFrameReceive .. | .pauseEnd .. | .tcpSegmentation .. | .mdioOperation .. | .mdioDone .. |
  .bridgeAge | .timeSet | .timeStep | .trackerAcquire | .measurementSubmit .. | .ppsInEdge | .ppsMiss | .ppsOutEdge |
  .trackerTimeout .. | .sourceSelect .. | .canTxRequest .. | .canIntermission .. | .canTxComplete .. | .canTxCancel .. | .abortall
  | .recover | .recoveryEnd | .canRxReturn .. | .metSample .. | .settlingEnd | .modulatorFault .. | .modulatorRecover .. |
  .demandIntervalEnd | .demandRecordPush | .snap | .preset | .supplyCutTheft | .residualTheft | .metRestore | .ownBEdge .. |
  .ownershipLoss | .oxbKick | .oxbWatchdogExpire | .waitEnd | .guardEnd .. | .claimRetry | .healthSend | .yieldFrame |
  .reserveFrame .. | .resAckFrame .. | .syncFrame .. | .clearFrame .. | .clrAckFrame .. | .linkFrameError .. | .linkLost |
  .yieldCmd | .yieldCondition .. | .revertReady | .safepoint | .reserveCmd .. | .reserveTimeout | .clearCmd .. | .clearTimeout |
  .setmin .. | .appSend .. | .appSent | .oxbRxReturn .. | .standbySelfTestRequest .. | .standbySelfTestEnd .. | .updVerify .. |
  .updVerifyDone | .arm .. | .cancel | .confirm | .reject | .updRecover | .updReset | .trialWindowExpire | .bootSlotChoice |
  .compatCheck | .hello | .updBegin .. | .updEnd .. | .random .. | .hash .. | .gntVerify .. | .encrypt .. | .decrypt .. |
  .keyGen .. | .keyLoad .. | .wrap .. | .unwrap .. | .derive .. | .ecdh .. | .pubkey .. | .destroy .. | .credLoad .. |
  .credSeal .. | .sessChallenge .. | .sessOpen .. | .sessClose .. | .sessionChallengeExpire .. | .sessionTimeout .. |
  .credentialUnlock .. | .lcAdvance .. | .debugon .. | .drbgHealthFail | .writeback | .memInit .. | .memInitDone | .scrubRead .. |
  .maintRequest .. | .grantRelease .. | .retrainingEnd | .memSelfTestEnd .. | .supplySwitch | .commitEnd | .retentionLoss |
  .rtcShadowRead | .rtcRelease | .rtcSet | .rtcSync | .trimWrite .. | .alarmFire .. | .alarmWrite .. | .tamperDetect .. |
  .csWindowWrite .. | .recordLog | .recCursor .. | .windowAdvance | .recSnap | .firmwareRecord .. | .vinWarning .. | .vinGoodFall
  | .vbatCritFall | .powerOnReset .. | .coldReset .. | .brownoutReset | .bankNotOk .. | .systemReset .. | .standby .. | .wake |
  .coreRestart .. | .coreRestartDone .. | .domainSwitch .. | .domainOn .. | .perfWrite .. | .sysKick | .sysWatchdogExpire |
  .watchdogReset | .aliveWrite .. | .wdogWrite .. | .triggerEdge .. | .illegalInstruction .. | .debuggerHalt .. |
  .jtagResetInstruction | .busIntegration | .ppsOutFall | .drbgHealthRecover | .vbatRecover | .usbVbusChange .. |
  .powerManagerLoss => true

end Sys2Proof
end

