-- ==== Sys2Proof/Tests/Slice0.lean ====
section
/-!
SUPPORT. The model's own tests: ill-formed operands, examples of the spec, and for each statement with hypotheses concrete states and
operands that meet them, clause by clause, at boundary values where a clause has a range.
-/
namespace Sys2Proof.Tests
open Sys2Proof.Machine
set_option Elab.async false
set_option linter.unusedVariables false
set_option synthInstance.maxSize 2000
set_option synthInstance.maxHeartbeats 400000

/-- The state after reset and these operations. -/
def arranged (l : List Op) : State := (Op.all l).run State.reset

/-- Fields set to values. -/
def cfg (l : List (Fld × Nat)) : Op := Op.each l fun p => Op.set p.1 p.2

/-- Both pad banks usable. -/
def padsUp : Op := Op.blk fun b => { b with pwr := { b.pwr with bank := 5 } }

/-- Doublewords stored from an address on. -/
def dws (a : Nat) (l : List Nat) : Op := Op.storeDws a (l.map (BitVec.ofNat 64))

/-- Rill `n`, of 16 slots from slot 16 × n on, enabled; `packet` as in its configuration. -/
def rillUp (n : RillNo) (packet : Nat) : Op :=
  (cfg [(Block.rill.run, 1), (F.RILL_CFG_SIZE n, 0), (F.RILL_CFG_BASE n, 16 * n.val), (F.RILL_CFG_PACKET n, packet)]).andThen (Op.writeEnable n true)

/-- The time base, and the crystal's pulses. -/
def timeIs (t : Nat) : Op := Op.clk fun c => { c with tb := t }
def pulsesAre (p : Nat) : Op := Op.clk fun c => { c with pulses := p }

/-- Registers of a core. -/
def regs (c : CoreId) (l : List (RegNo × Word)) : Op := Op.core c fun k => k.wrs l

/-- Lamp record `i`, valid, of one channel; with `therm` a thermal one. -/
def lampRecord (i : Nat) (therm : Bool) : Op :=
  (cfg [(Block.lamp.run, 1), (F.LAMP_RECCNT_COUNT, i + 1)]).andThen
    (Op.storeRecord i ((if therm then 3 else 1) :: 1 :: List.replicate 38 0 ++ [1, 0, 1, 0] ++ List.replicate 20 0) false)

/-- A batch in progress with its entry 0 next. -/
def batch (op : Nat) : Batch :=
  { desc := 0x10000100, op := op, bflags := 0, rill := 5, count := 1, src := 0x10001000, dst := 0x10008000, first := 7, idx := 0, errors := 0,
    flags := 0, status := none, written := false }

/-- That batch is in progress. -/
def batchRuns (b : Batch) : Op := Op.lamp fun l => { l with cur := some b }

/-- A street of two nodes, each the other's neighbour at 100 m, and a table image of it at 0x10010000. -/
def street : Image :=
  ⟨[0x0001000000000400, 0x0001000100000400], [0x00640001, 0x00640000], [], [], []⟩

def tables : Op :=
  Op.all
    [ cfg [(F.CORR_STAT_LOADING, 1), (F.CORR_TBL_CNT1_NODES, 2), (F.CORR_TBL_CNT1_EDGES, 2), (F.CORR_TBL_CNT2_SCHED, 1), (F.CORR_TBL_CNT2_HOL, 1),
           (F.CORR_TBL_CNT2_OFFS, 1), (F.CORR_SOL_CFG_SITE_EN, 1)],
      Op.setReg A.CORR_TBL_BASE 0x10010000,
      dws 0x10010000 [0x0001000000000400, 0x0001000100000400], dws 0x10020000 [0x0064000000640001],
      dws 0x10040000 [0x00000E1000010001, 5], dws 0x10041000 [0x0000001000000605], dws 0x10041400 [1000, 60] ]

/-- CORR runs, with the time set. -/
def corrRuns : Op := cfg [(Block.corr.run, 1), (F.TSU_STAT_SET, 1)]

/-- FLK, PMAP, PXP, port B and the lamp engine run, with the time set and an instant of frame 77 at `t`. -/
def showRuns (t : Nat) : Op :=
  Op.all
    [ cfg [(Block.flk.run, 1), (Block.pmap.run, 1), (Block.pxp.run, 1), (Block.ethb.run, 1), (Block.lamp.run, 1), (F.TSU_STAT_SET, 1),
           (F.FLK_RATE_NUM, 60), (F.FLK_RATE_DEN, 1)],
      Op.setReg A.FLK_LAT 5000000, Op.flk fun k => { k with next := some (t, 77) } ]

/-- A video stream of 16 × 16 RGB pixels, with a frame in buffer 1. -/
def videoIn : Op :=
  Op.all
    [ cfg [(F.PMAP_CTRL_IN0_EN, 1), (F.PMAP_IN_FMT_WIDTH 0, 16), (F.PMAP_IN_FMT_HEIGHT 0, 16), (F.PMAP_IN_FMT_FORMAT 0, 1)],
      Op.setReg (A.PMAP_IN_BASE 0) 0x10100000,
      Op.shw fun h => { h with ins := h.ins.set 0 ⟨some 1, true, none, none, none⟩ } ]

/-- A walk that has consumed its points and entries. -/
def walkOf (g : Option Gather) (mapped : Bool) : Walk := ⟨77, 0, 0, 7, 0, 0, 0, 0, g, 0, false, true, mapped, none⟩

/-- RAD runs, on slots of 10 ms from time 0 on, with the time at slot 6. -/
def radRuns : Op :=
  Op.all
    [ cfg [(Block.rad.run, 1), (F.TSU_STAT_SET, 1), (F.RAD_TMPL_A_SLOT, 10000), (F.RAD_TMPL_A_TXOFF, 2000), (F.RAD_CTRL_RADIO_EN, 1),
           (F.RAD_PHY_MAXPSDU, 2047), (F.OXB_CFG_AUTOSAFE, 0), (F.RAD_RILLS_TXREQ, 5), (F.RAD_RILLS_TXDONE, 6), (F.RAD_RILLS_RXFREE, 7),
           (F.RAD_RILLS_EVT, 8), (F.RAD_RX_CFG_DEFRILL, 9), (F.RAD_PAN_PANID, 0x1234), (F.RAD_PAN_SHORT, 0x6655)],
      timeIs 60000000 ]

/-- A data frame for the node: version 2, short addresses, no security and no acknowledgement, with three bytes of payload. -/
def airData : List Byte := [0x01, 0xA8, 7, 0x34, 0x12, 0x55, 0x66, 0x34, 0x12, 0x11, 0x22, 1, 2, 3]

/-- A frame in the queue, for neighbour 511. -/
def radFrame (flags expire : Nat) : RadFrame :=
  ⟨0x10000040, 511, 0xFF, 0, flags, 1, expire, airData.take 11, [1, 2, 3], 0, 0, none, none⟩

def queued (f : RadFrame) : Op := Op.rad fun r => { r with queue := [f] }

/-- A bank of one cell: slot 6 of slotframe 0, for neighbour 511. -/
def cellBank : Bank := ⟨[1, 2, 3], [11, 26], [7, 0, 0, 0], [0x00001FF010000006]⟩

/-- A send of kind `kind` at the top of a queue, with a header of 54 bytes and a body of 200. -/
def sendOf (kind sent : Nat) (status : Option Nat) : Send :=
  ⟨0x103FFFC0, ⟨kind, 0, 0, 54, 100, 0x10002001, 0x10004000, 200, 0, 0, 0, 0, 0, 0⟩, [], sent, 0, status, false⟩

/-- Queue 3 of port B works on it, with the link up. -/
def sends (d : Send) : Op :=
  Op.all
    [ cfg [(Block.ethb.run, 1), (F.ETH_STAT_LINK 1, 1), (F.ETH_TQ_CFG_DONE 1 3, 63)],
      Op.eth 1 fun p => { p with tx := p.tx.set 3 (some d) } ]

/-- A frame of `n` bytes to 02:03:04:05:06:07, of type 0x88B5. -/
def frameOf (n : Nat) : List Byte := [2, 3, 4, 5, 6, 7, 9, 8, 7, 6, 5, 4, 0x88, 0xB5] ++ List.replicate (n - 14) 0

/-- Port B receives frames of at most 128 bytes for that address. -/
def receives : Op :=
  cfg [(Block.ethb.run, 1), (F.ETH_CFG_MAXLEN 1, 128), (F.ETH_MAC_HI_ADDR 1, 0x0203), (F.ETH_MAC_LO_ADDR 1, 0x04050607), (F.ETHA_BR_CFG_FWD, 0),
       (F.ETH_RQ_CFG_EN 1 0, 1), (F.ETH_RQ_CFG_DONE 1 0, 63)]

/-- OXB runs at pulse 100,000, with no rill for its events. -/
def oxbRuns : Op := Op.all [cfg [(Block.oxb.run, 1), (Block.rill.run, 1), (F.OXB_RILLS_EVT, 9), (F.OXB_RILLS_RX, 5)], pulsesAre 100000]

/-- A boot state: slot A confirmed, slot B on its first trial. -/
def onTrial : BootState := ⟨some 0, some 1, 0, 0, 5, 10, false⟩

/-- A call of core 3 in system mode: bytes of its block by offset, zero elsewhere. -/
def callOf (svc : Nat) (l : List (Nat × List Byte)) : Call :=
  { svc := svc, blk := 0x10040000, sys := true, who := 3, rill := none, answer := none, tried := false, told := false,
    fields := some (l.foldl (fun f p => f.take p.1 ++ p.2 ++ f.drop (p.1 + p.2.length)) (List.replicate 64 0)) }

/-- The Gauntlet holds that call, with keys in some slots, in the life-cycle state `life`. -/
def gauntlet (life : Nat) (slots : List (Nat × KeySlot)) (c : Call) : Op :=
  Op.all
    [ cfg [(Block.gnt.run, 1), (F.LCS_STAT_STATE, life), (F.GNT_STAT_DRBG_OK, 1)],
      Op.gnt fun g => { g with slots := slots, calls := [c] },
      Op.core 3 fun k => { k with run := .callWait 9 } ]

/-- A key of zeros with attributes `attr`, in slot 239; the other key is the number 1. -/
def keyed (attr : Nat) : List (Nat × KeySlot) := [(239, ⟨attr, List.replicate (keyBytes (attrType attr)) 0⟩)]
def keyOne (attr : Nat) : List (Nat × KeySlot) := [(239, ⟨attr, List.replicate 31 0 ++ [1]⟩)]

/-! ### Ill-formed operands are refused, one of each check -/

theorem test_illformed_registers :
    Instr.wellFormed (.registerWrite 0 0x40000002 0) = true ∧ Instr.wellFormed (.registerWrite 0 0x40190000 0) = false ∧
    Instr.wellFormed (.registerWrite 0 0x3FFFFFFC 0) = false ∧ Instr.wellFormed (.registerWrite 0 0x4018FFFC 0) = true := by decide

theorem test_illformed_blocks :
    Instr.wellFormed (.runSet 25 0) = false ∧ Instr.wellFormed (.runStopRequest 25 0) = false ∧ Instr.wellFormed (.blockStopped 31) = false ∧
    Instr.wellFormed (.eventQueueDrain 25) = false ∧ Instr.wellFormed (.runSet 24 0) = true := by decide

theorem test_illformed_returns :
    Instr.wellFormed (.loadReturn 0 8) = false ∧ Instr.wellFormed (.lampInstrReturn 0 8) = false ∧ Instr.wellFormed (.loadReturn 0 7) = true := by
  decide

theorem test_illformed_timecode :
    Instr.wellFormed (.ltcFrame 24 0 0 0 false) = false ∧ Instr.wellFormed (.ltcFrame 0 60 0 0 false) = false ∧
    Instr.wellFormed (.ltcFrame 0 0 60 0 false) = false ∧ Instr.wellFormed (.ltcFrame 0 0 0 30 false) = false ∧
    Instr.wellFormed (.ltcFrame 23 59 59 29 true) = true := by decide

theorem test_illformed_radio :
    Instr.wellFormed (.radioFrameReceive 2 (List.replicate 128 0) false 0 0 0) = false ∧ Instr.wellFormed (.recalRequest 3) = false ∧
    Instr.wellFormed (.rdmResponseEnd 0 0 (List.replicate 258 0)) = false := by decide +kernel

theorem test_illformed_ethernet :
    Instr.wellFormed (.ethSingleFrame 0 4) = false ∧ Instr.wellFormed (.udpSegmentation 0 4 1) = false ∧
    Instr.wellFormed (.ethTxComplete 0 4) = false ∧ Instr.wellFormed (.linkChange 0 true 3) = false ∧
    Instr.wellFormed (.ethSingleFrame 1 4) = true := by decide

/-- A remote frame with data, a classic frame that switches its bit rate, a base identifier beyond bits 28 to 18; a reserved code and
weight of an error. -/
theorem test_illformed_bus :
    Instr.wellFormed (.canFrameReceive 0 false true 1 false false false false [7] 0) = false ∧
    Instr.wellFormed (.canFrameReceive 0 false false 1 false true false false [7] 0) = false ∧
    Instr.wellFormed (.canFrameReceive 1 false false 1 false false false false [7] 0) = false ∧
    Instr.wellFormed (.canFrameReceive 1 true false 9 true true false false (List.replicate 12 7) 0) = true ∧
    Instr.wellFormed (.canError false 7 false 1) = false ∧ Instr.wellFormed (.canError false 1 false 3) = false := by decide

theorem test_illformed_link :
    Instr.wellFormed (.healthFrame (List.replicate 63 0)) = false ∧ Instr.wellFormed (.appFrame []) = false ∧
    Instr.wellFormed (.lcUnlock (List.replicate 65 0)) = false := by
  decide +kernel

theorem test_illformed_memory :
    Instr.wellFormed (.norEraseProgram true 0 1 [7]) = false ∧ Instr.wellFormed (.norEraseProgram false 0 2 [7]) = false ∧
    Instr.wellFormed (.remapInstall false 8 0) = false ∧ Instr.wellFormed (.remapInstall false 7 0x10000) = false ∧
    Instr.wellFormed (.remapRemove false 8 0) = false ∧ Instr.wellFormed (.remapRemove true 15 0x1FFFFFF) = true := by decide

/-! ### The opcode table gives no row any bits -/

theorem test_no_word_spells_a_command : decodeTableWord 32 0 = none ∧ State.reset.withFetchWord 32 0xFFFFFFFF = State.reset :=
  ⟨rfl, rfl⟩

/-! ### Words of instructions -/

/-- The worked example of the chapter on the core: its five encodings. -/
theorem test_words_of_the_interval_routine :
    decodeInstr 5 0x45040000 = some (.ld 5 8 4 0) ∧
    decodeInstr 5 0x10840008 = some (.addi 5 4 4 8) ∧
    decodeInstr 5 0x10A5FFFF = some (.addi 5 5 5 0xFFFF) ∧
    decodeInstr 5 0x00C64030 = some (.addp 5 6 6 8 false) ∧
    decodeInstr 5 0x6425FFFC = some (.br 5 1 5 0xFFFC) := by decide +kernel

/-- The worked example of the chapter on the extensions: its encodings. -/
theorem test_words_of_the_lamp_routine :
    decodeInstr 3 0x31808000 = some (.li 3 12 0x8000) ∧
    decodeInstr 3 0x454C0000 = some (.ld 3 10 12 0) ∧
    decodeInstr 3 0x01A5800B = some (.slli 3 13 5 16 false) ∧
    decodeInstr 3 0x014A6803 = some (.or 3 10 10 13 false) ∧
    decodeInstr 3 0xA1845000 = some (.lmix 3 12 4 10) ∧
    decodeInstr 3 0xC0005004 = some (.openp 3 20) ∧
    decodeInstr 3 0xC0045000 = some (.push 3 20 4) ∧
    decodeInstr 3 0xC00C5000 = some (.push 3 20 12) ∧
    decodeInstr 3 0xC0005005 = some (.closep 3 20 0) ∧
    decodeInstr 3 0x61E00002 = some (.bc 3 15 2) ∧
    decodeInstr 3 0xC4000001 = some (.done 3) ∧
    decodeInstr 3 0x4C8C0018 = some (.sd 3 4 12 0x18) ∧
    decodeInstr 3 0xC5AD0002 = some (.spawn 3 13 13) ∧
    decodeInstr 3 0xC4000000 = some (.takeDispatch 3) := by decide +kernel

/-- A word of each further family, its fields written out in the order of R55 (R59, R60, R62, R64, R66, R67, R71, R75, R79, R93). -/
theorem test_words_of_the_formats :
    decodeInstr 23 0b00000001001111110000110000000000 = some (.add 23 9 31 1 true) ∧
    decodeInstr 23 0b00000100110001010011110000000100 = some (.mulwu 23 6 5 7 true) ∧
    decodeInstr 23 0b00000100110001010011100000001011 = some (.remu 23 6 5 7 false) ∧
    decodeInstr 23 0b00101000110000001000000000000001 = some (.lhi 23 6 0x8001) ∧
    decodeInstr 23 0b00101100000001101000000000000001 = some (.cmpi 23 6 0x8001) ∧
    decodeInstr 23 0b01010000110001010101100000000001 = some (.sh 23 6 5 0x801) ∧
    decodeInstr 23 0b01010100110001010011100000010101 = some (.lbux 23 6 5 7 true) ∧
    decodeInstr 23 0b01011000110001010100000000000100 = some (.amocas 23 6 5 8) ∧
    decodeInstr 23 0b01101010000000000000000000000001 = some (.j 23 0x2000001) ∧
    decodeInstr 23 0b01110011110001010000000000000001 = some (.jalr 23 30 5) ∧
    decodeInstr 23 0b10000000110001010011110000010010 = some (.pmulq15 23 6 5 7 true) ∧
    decodeInstr 23 0b10100000000001010011100000000010 = some (.ltemp 23 5 7) ∧
    decodeInstr 23 0b11100000110010000000000000000001 = some (.twait 23 6 8) ∧
    decodeInstr 23 0b11100100000000000000000000000000 = some (.fence 23) ∧
    decodeInstr 23 0b11110000110010000000001000000001 = some (.gcall 23 6 8 0x201) ∧
    decodeInstr 23 0b11110100110010001000011000000001 = some (.gpost 23 6 8 33 0x201) ∧
    decodeInstr 23 0b11111000110000000000000000100001 = some (.mfc 23 6 33) ∧
    decodeInstr 23 0b11111000000001100000000001100001 = some (.mtc 23 6 33) ∧
    decodeInstr 23 0b11111000000100000000100011000000 = some (.trap 23 0x201) ∧
    decodeInstr 23 0b11111000000000000000000010000000 = some (.eret 23) := by decide +kernel

/-- Reserved majors, undefined functions and nonzero unused fields spell nothing, and erased NOR is illegal (R56 to R58). -/
theorem test_words_of_no_instruction :
    [0xFFFFFFFF, 0x08000000, 0x38000000, 0xA4000000, 0x00000017, 0x00000810, 0x50006000, 0xC4000800].all
      (fun w => decodeInstr 0 w == none) = true := by decide +kernel

/-! ### Examples of the spec, and results worked out by hand from its rules -/

/-- A next state with a property. -/
def after (o : Host.Outcome State Fault Refusal) (f : State → Bool) : Bool :=
  match o with
  | .next t => f t
  | _ => false

/-- Core 0 in running order, with these registers. -/
def core0 (l : List (RegNo × Word)) : State := arranged [Op.core 0 fun k => { k with run := .running }, regs 0 l]

def reads (r : RegNo) (v : Word) (t : State) : Bool := (t.core 0).rd r == v

/-- The sum wraps to 0 and carries, and the pc moves on (R55, R56). -/
theorem test_add_wraps :
    after (exec (.add 0 3 4 5 true) (core0 [(4, 0xFFFFFFFF), (5, 1)]))
      (fun t => reads 3 0 t && (t.core 0).pc == 0x08000004) = true := by decide +kernel

/-- w0 reads 0 after a write (R46). -/
theorem test_w0_discards : after (exec (.addi 0 0 0 5) (core0 [])) (reads 0 0) = true := by decide +kernel

/-- Division by zero, and the one quotient that does not fit (R63). -/
theorem test_div_corners :
    after (exec (.div 0 3 4 0 false) (core0 [(4, 7)])) (reads 3 0xFFFFFFFF) = true ∧
    after (exec (.rem 0 3 4 0 false) (core0 [(4, 7)])) (reads 3 7) = true ∧
    after (exec (.div 0 3 4 5 false) (core0 [(4, 0x80000000), (5, 0xFFFFFFFF)])) (reads 3 0x80000000) = true ∧
    after (exec (.rem 0 3 4 5 false) (core0 [(4, 0x80000000), (5, 0xFFFFFFFF)])) (reads 3 0) = true := by decide +kernel

/-- `QMULQ31` saturates for 0x80000000 × 0x80000000 (R66). -/
theorem test_qmulq31_saturates :
    after (exec (.qmulq31 0 3 4 4 false) (core0 [(4, 0x80000000)])) (reads 3 0x7FFFFFFF) = true := by decide +kernel

/-- The destination is also a source: w4 = w4 − w5. -/
theorem test_sub_in_place : after (exec (.sub 0 4 4 5 false) (core0 [(4, 5), (5, 7)])) (reads 4 0xFFFFFFFE) = true := by decide +kernel

/-- Signed and unsigned high halves differ (R61). -/
theorem test_mulh_signs :
    after (exec (.mulh 0 3 4 4 false) (core0 [(4, 0xFFFFFFFF)])) (reads 3 0) = true ∧
    after (exec (.mulhu 0 3 4 4 false) (core0 [(4, 0xFFFFFFFF)])) (reads 3 0xFFFFFFFE) = true := by decide +kernel

/-- The loop branch of the spec's demand-interval example: at 0x110, back by four words to 0x100 (R77). -/
theorem test_branch_back :
    after (exec (.br 0 5 1 0xFFFC) ((Op.core 0 fun k => { k with pc := 0x110 }).run (core0 [(5, 1)]))) (fun t => (t.core 0).pc == 0x100) = true := by
  decide +kernel

/-- The fade of the spec's example: levels 0x7777, 0xBBBB and 0xFFFF, dwells of 333, 333 and 0 ms (R182). -/
theorem test_fade_example :
    (List.range 3).map (fun i => (fadeColour 0x3333000000000000 0xFFFF000000000000 3 i).toNat / 2 ^ 48) = [0x7777, 0xBBBB, 0xFFFF] ∧
    (List.range 3).map (fadeDwell 1000 3) = [333, 333, 0] := by decide +kernel

/-- The point of the spec's façade example: its codes are 114, 95 and 40, widened to 16 bits (R244, R245). -/
theorem test_sampling_example :
    let s := arranged
      [ cfg [(F.PMAP_CTRL_IN0_EN, 1), (F.PMAP_IN_FMT_WIDTH 0, 1920), (F.PMAP_IN_FMT_HEIGHT 0, 1080), (F.PMAP_IN_FMT_FORMAT 0, 1)],
        Op.setReg (A.PMAP_IN_BASE 0) 0x80000000,
        Op.hwWrite (0x80000000 + 140 * 5760 + 376 * 3) [200, 90, 40, 120, 100, 40, 0, 0],
        Op.hwWrite (0x80000000 + 141 * 5760 + 376 * 3) [180, 80, 40, 100, 96, 40, 0, 0] ]
    s.sampled 0 0 6030 2253 = [0x7272, 0x5F5F, 0x2828] := by decide +kernel

/-- The guard and the prediction of the spec's drift example (R285): neighbour 37 at 40 s and at 50 s. -/
theorem test_drift_example :
    let s := arranged
      [ cfg [(F.RAD_GUARD_BASE, 200), (F.RAD_TMPL_B_RXWAIT, 2200), (F.RAD_DRIFT_FLOOR, 10000), (F.RAD_DRIFT_SHIFT, 2)],
        Op.setNbr 37 0x20 8 40000000000, Op.setNbr 37 0x30 4 3046 ]
    let p := arranged [Op.setNbr 37 0x20 8 20000000000, Op.setNbr 37 0x28 4 1200, Op.setNbr 37 0x2C 4 15000]
    s.guardOf 37 50000000000 = (361, false) ∧ p.pred 37 40000000000 = 301200 := by decide +kernel

/-- The compatibility checks of the spec's example (R413): the candidate that offers interface 0x21 v4.0 alone fails against the image's
second entry; rebuilt to offer v3.2 too, it passes. -/
theorem test_compatibility_example :
    let s (x : List Nat) := arranged
      [ cfg [(Block.upd.run, 1)], Op.setReg A.UPD_CC_ADDR 0x10000000,
        dws 0x10000000 (x ++ List.replicate (8 - x.length) 0 ++ [0x0100032100030230] ++ List.replicate 7 0) ]
    after (exec .compatCheck (s [0x0100023000000421]))
      (fun t => t.fld F.UPD_CC_STAT_RESULT == 2 && t.fld F.UPD_CC_STAT_SIDE == 1 && t.fld F.UPD_CC_STAT_ENTRY == 1) = true ∧
    after (exec .compatCheck (s [0x0000042100020321, 0x01000230])) (fun t => t.fld F.UPD_CC_STAT_RESULT == 1) = true := by decide +kernel

/-- Step 2 of the spec's maintenance example: STO holds the grant, and the self-test with its retry flag is queued (R465, R467). -/
theorem test_maintenance_queues :
    after (exec (.maintRequest 0x8000000B) (arranged [cfg [(F.MEM_MAINT_STAT_GRANT, 1)], Op.setEvq .mem [7]]))
      (fun t => t.fld F.MEM_MAINT_STAT_GRANT == 1 && t.fld F.MEM_MAINT_STAT_RESULT == 1 && t.bit ⟨A.MEM_MAINT_STAT, 10, 1⟩) = true := by
  decide +kernel

/-- The trim of the spec's example: −416 steps is 0xE60 (R479), and −2,048 is written as −2,047. -/
theorem test_trim :
    after (exec (.trimWrite 0x00000E60) State.reset) (fun t => t.fld F.BON_TRIM_STEPS == 0xE60) = true ∧
    after (exec (.trimWrite 0x00000800) State.reset) (fun t => t.fld F.BON_TRIM_STEPS == 0x801) = true := by decide +kernel

/-- `RILL_CFG9` of the spec's example: 32 slots from slot 1,024 on, packet mode (R147). -/
theorem test_rill_example :
    let s := arranged [Op.setReg (A.RILL_CFG 9) 0x01100400]
    (s.fld (F.RILL_CFG_BASE 9), 2 ^ (s.fld (F.RILL_CFG_SIZE 9) + 4), s.bit (F.RILL_CFG_PACKET 9)) = (1024, 32, true) := by decide +kernel

/-- The empty queue's step is a tick of 4 ns (log entry 20). -/
theorem test_idle_step : after (step State.reset) (fun t => t.pending == [] && t.blk.clk.tb == State.reset.blk.clk.tb + 4) = true := by decide +kernel

/-- `SET` loads the RTC on the next pulse edge and not before (R478): 2 s and 3 pulses from the set registers. -/
theorem test_rtc_set_at_edge :
    let s := (Op.clk fun c => { c with frac := 999999999 }).run (arranged [Op.setReg A.BON_RTC_SET_LO 2, Op.setReg A.BON_RTC_SET_SUB 3])
    after (exec .rtcSet s) (fun t => t.rtc == s.rtc && after (step t) fun u => u.rtc == 2 * 32768 + 3 && !(u.bit F.BON_STAT_TIME_LOST)) = true := by
  decide +kernel

/-! ### Witnesses of the statements' hypotheses -/

theorem test_witness_StepRunsTheFrontCommand :
    let i : Instr := .weirDispatch
    let rest : List Instr := [.feedRillSubmit]
    let s : State := { State.reset with pending := [.weirDispatch, .feedRillSubmit] }
    (s.pending = i :: rest) := by decide +kernel

theorem test_witness_IdleStepIsOneTick :
    let s : State := arranged [Op.clk fun c => { c with frac := 999999999 }]
    (s.pending = []) ∧
    (s.blk.clk.frac < 1000000000) := by decide +kernel

theorem test_witness_ResetValues :
    let b := Block.weir
    let r := Block.weir.map[1]
    let j := 0
    let a := b.base + r.off + j * r.stride
    (a ∉ [A.SYS_RST_CAUSE, A.RAD_PHY, A.OXB_STAT, A.LCS_STAT]) := by decide +kernel

theorem test_witness_EveryCommandAnswers :
    let s : State := arranged [Op.setReg A.LAMP_FAULT_CNT 7, dws 0x10000000 [5, 6]]
    (s.Inv) := by decide +kernel

theorem test_witness_EveryStepKeepsTheInvariant :
    let s : State := arranged [Op.setReg A.LAMP_FAULT_CNT 7, dws 0x10000000 [5, 6]]
    (s.Inv) := by decide +kernel

theorem test_witness_RegisterFile :
    let d : RegNo := 30
    let e : RegNo := 29
    (isPair d = true) ∧
    (e ≠ d) ∧
    (e ≠ d + 1) := by decide +kernel

theorem test_witness_InstructionWordsRoundTrip :
    (let i : Instr := .gpost 23 31 30 63 1023
     let c : CoreId := 23
     let w : Word := 0xF7FEFFFF
     (encodeInstr i = some (c, w))) ∧
    (let c : CoreId := 23
     let w : Word := 0xF7FEFFFF
     let i : Instr := .gpost 23 31 30 63 1023
     (decodeInstr c w = some i) ∧
     ((wordField w 26 6 = 0 → wordField w 0 10 = 0x36 → w.getLsbD 10 = false))) := by decide +kernel

theorem test_witness_WordInstructionsComplete :
    ∀ o ∈ wordOps,
    let c : CoreId := 0
    let s : State := arranged [regs 0 [(5, 0x80000000), (6, 0xFFFFFFFF)]]
    (s.ready c = true) := by decide +kernel

theorem test_witness_DivisionCorners :
    ∀ p ∈ [(Instr.div, true, true), (Instr.divu, true, false), (Instr.rem, false, true), (Instr.remu, false, false)],
    let c : CoreId := 0
    let d : RegNo := 4
    let s : State := arranged [regs 0 [(5, 0x80000000), (6, 0xFFFFFFFF)]]
    (s.ready c = true) ∧
    (d ≠ 0) := by decide +kernel

theorem test_witness_ShiftUnaryAndImmediateInstructionsComplete :
    let c : CoreId := 0
    let s : State := arranged [regs 0 [(5, 0x80000000), (6, 0xFFFFFFFF)]]
    (s.ready c = true) := by decide +kernel

theorem test_witness_PairInstructionsComplete :
    let c : CoreId := 0
    let s : State := arranged [regs 0 [(5, 0x80000000), (6, 0xFFFFFFFF)]]
    (s.ready c = true) := by decide +kernel

theorem test_witness_SaturatingInstructionsComplete :
    (∀ o ∈ fixedOps,
     let c : CoreId := 0
     let s : State := arranged [regs 0 [(5, 0x80000000), (6, 0xFFFFFFFF)]]
     (s.ready c = true)) ∧
    (let c : CoreId := 0
     let s : State := arranged [regs 0 [(5, 0x80000000), (6, 0xFFFFFFFF)]]
     (s.ready c = true)) := by decide +kernel

theorem test_witness_LoadsAndStoresComplete_1 :
    let c : CoreId := 23
    let d : RegNo := 4
    let a : RegNo := 1
    let b : RegNo := 2
    let imm : BitVec 16 := 0
    let narrow : BitVec 12 := 0
    let scaled : Bool := true
    ∀ o ∈ loadForms c d a b imm narrow scaled,
    let s : State := arranged [regs 23 [(1, 0xBFF8)], Op.core 23 fun k => { k with loads := List.replicate 7 ⟨[(9, 1)], .shared, 0⟩ }]
    (s.ready c = true) ∧
    ((o.pair = true → isPair d = true)) ∧
    (let k := s.fed c o.uses
     let x := (o.addr k).toNat
     (regionOf x = .localD) ∧
     (x % o.size = 0) ∧
     (s.localClean c x o.size) ∧
     (k.loads.length < 8)) := by decide +kernel

theorem test_witness_LoadsAndStoresComplete_2 :
    let c : CoreId := 23
    let d : RegNo := 4
    let a : RegNo := 1
    let b : RegNo := 2
    let imm : BitVec 16 := 0
    let narrow : BitVec 12 := 0
    let scaled : Bool := true
    ∀ o ∈ storeForms c d a b imm narrow scaled,
    let s : State := arranged [regs 23 [(1, 0x8000)], Op.core 23 fun k => { k with stores := List.replicate 7 ⟨0x10000000, 0x11, 0⟩ }]
    (s.Inv) ∧
    (s.ready c = true) ∧
    ((o.pair = true → isPair d = true)) ∧
    (let k := s.fed c o.uses
     let x := (o.addr k).toNat
     (regionOf x = .localD) ∧
     (x % o.size = 0) ∧
     (s.localClean c x o.size) ∧
     (s.bit F.MEM_FLIP_CFG_ARM = false) ∧
     (k.storeSlots < 8)) := by decide +kernel

theorem test_witness_LoadsAndStoresComplete_3 :
    let c : CoreId := 23
    let d : RegNo := 4
    let a : RegNo := 1
    let b : RegNo := 2
    let imm : BitVec 16 := 0
    let scaled : Bool := true
    ∀ o ∈ (storeForms c d a b imm 0 scaled).filter (·.pair),
    let s : State := arranged [regs 23 [(1, 0xEFFFFFF8)], Op.core 23 fun k => { k with stores := List.replicate 7 ⟨0x10000000, 0x11, 0⟩ }]
    (s.Inv) ∧
    (s.ready c = true) ∧
    (isPair d = true) ∧
    (let k := s.fed c o.uses
     let x := (o.addr k).toNat
     (regionOf x = .basin ∨ regionOf x = .dram) ∧
     (x % 8 = 0) ∧
     (s.domOn (memDomain x) = true) ∧
     (k.storeSlots < 8) ∧
     ((s.setCore c k).transactions < 192) ∧
     (s.memIdle)) := by decide +kernel

theorem test_witness_LoadsAndStoresComplete_4 :
    let c : CoreId := 23
    let d : RegNo := 4
    let a : RegNo := 1
    let b : RegNo := 2
    let imm : BitVec 16 := 0
    let narrow : BitVec 12 := 0
    let scaled : Bool := true
    ∀ o ∈ (loadForms c d a b imm narrow scaled).filter (fun o => 4 ≤ o.size),
    let s : State := arranged [regs 23 [(1, 0xEFFFFFF8)], Op.core 23 fun k => { k with loads := List.replicate 7 ⟨[(9, 1)], .near, 0⟩ }]
    (s.ready c = true) ∧
    ((o.pair = true → isPair d = true)) ∧
    (let k := s.fed c o.uses
     let x := (o.addr k).toNat
     (x % o.size = 0) ∧
     (4 ≤ o.size) ∧
     (k.loads.length < 8) ∧
     ((s.setCore c k).transactions < 192) ∧
     (regionOf x = .basin ∨ regionOf x = .dram ∨ (regionOf x = .rill ∧ o.size = 8 ∧ k.sys = true)) ∧
     (s.domOn (memDomain x) = true) ∧
     (weight (s.errAt (x / 8 * 8)) = 0) ∧
     (s.memIdle)) := by decide +kernel

theorem test_witness_LoadsAndStoresComplete_5 :
    let c : CoreId := 23
    let d : RegNo := 4
    let a : RegNo := 1
    let b : RegNo := 2
    let imm : BitVec 16 := 0
    let narrow : BitVec 12 := 0
    let scaled : Bool := true
    ∀ o ∈ (loadForms c d a b imm narrow scaled).filter (fun o => o.size = 8),
    let s : State := arranged [regs 23 [(1, 0x200FFFF8)], Op.core 23 fun k => { k with loads := List.replicate 7 ⟨[(9, 1)], .near, 0⟩ }]
    (s.ready c = true) ∧
    ((o.pair = true → isPair d = true)) ∧
    (let k := s.fed c o.uses
     let x := (o.addr k).toNat
     (x % o.size = 0) ∧
     (4 ≤ o.size) ∧
     (k.loads.length < 8) ∧
     ((s.setCore c k).transactions < 192) ∧
     (regionOf x = .basin ∨ regionOf x = .dram ∨ (regionOf x = .rill ∧ o.size = 8 ∧ k.sys = true)) ∧
     (s.domOn (memDomain x) = true) ∧
     (weight (s.errAt (x / 8 * 8)) = 0) ∧
     (s.memIdle)) := by decide +kernel

theorem test_witness_LoadsAndStoresComplete_6 :
    let c : CoreId := 23
    let d : RegNo := 4
    let a : RegNo := 1
    let b : RegNo := 2
    let imm : BitVec 16 := 0
    let narrow : BitVec 12 := 0
    let scaled : Bool := true
    ∀ o ∈ (loadForms c d a b imm narrow scaled).filter (fun o => 4 ≤ o.size),
    let s : State := arranged [regs 23 [(1, 0x0800FFF8)], Op.core 23 fun k => { k with loads := List.replicate 7 ⟨[(9, 1)], .near, 0⟩ }]
    (s.ready c = true) ∧
    ((o.pair = true → isPair d = true)) ∧
    (let k := s.fed c o.uses
     let x := (o.addr k).toNat
     (x % o.size = 0) ∧
     (4 ≤ o.size) ∧
     (k.loads.length < 8) ∧
     ((s.setCore c k).transactions < 192) ∧
     (regionOf x = .rom) ∧
     (k.sys = true)) := by decide +kernel

theorem test_witness_LoadsAndStoresComplete_7 :
    let c : CoreId := 23
    let d : RegNo := 4
    let a : RegNo := 1
    let b : RegNo := 2
    let imm : BitVec 16 := 0
    let narrow : BitVec 12 := 0
    let scaled : Bool := true
    ∀ o ∈ (loadForms c d a b imm narrow scaled).filter (fun o => 4 ≤ o.size),
    let s : State := arranged [regs 23 [(1, 0x0FFFFFF8)], Op.core 23 fun k => { k with loads := List.replicate 7 ⟨[(9, 1)], .near, 0⟩ }]
    (s.ready c = true) ∧
    ((o.pair = true → isPair d = true)) ∧
    (let k := s.fed c o.uses
     let x := (o.addr k).toNat
     (x % o.size = 0) ∧
     (4 ≤ o.size) ∧
     (k.loads.length < 8) ∧
     ((s.setCore c k).transactions < 192) ∧
     (regionOf x = .nor) ∧
     (s.domOn 15 = true)) := by decide +kernel

theorem test_witness_AccessesRefused_1 :
    let c : CoreId := 23
    let d : RegNo := 4
    let a : RegNo := 1
    let b : RegNo := 2
    let imm : BitVec 16 := 0
    let narrow : BitVec 12 := 0
    let scaled : Bool := true
    ∀ o ∈ (storeForms c d a b imm narrow scaled).filter (!·.pair),
    let s : State := arranged [regs 23 [(1, 0x103FFFF8)], Op.core 23 fun k => { k with stores := List.replicate 7 ⟨0x10000000, 0x11, 0⟩ }]
    (s.Inv) ∧
    (s.ready c = true) ∧
    (let k := s.fed c o.uses
     let x := (o.addr k).toNat
     (regionOf x = .basin ∨ regionOf x = .dram) ∧
     (x % o.size = 0) ∧
     (s.domOn (memDomain x) = true) ∧
     (s.powered .mem = true) ∧
     (k.storeSlots < 8) ∧
     ((s.setCore c k).transactions < 192)) := by decide +kernel

theorem test_witness_AccessesRefused_2 :
    let c : CoreId := 23
    let d : RegNo := 4
    let a : RegNo := 1
    let b : RegNo := 2
    let imm : BitVec 16 := 0
    let narrow : BitVec 12 := 0
    let scaled : Bool := true
    let s : State := arranged [regs 23 [(1, 0x80000001)]]
    (s.ready c = true) ∧
    ((isPair d = true) ∧
     (isPair b = true) ∧
     (let k := s.fed c [d, d + 1, a, b, b + 1]
      let x := k.rd a
      (x.toNat % 8 ≠ 0))) ∧
    (∀ o ∈ (loadForms c d a b imm narrow scaled).filter (fun o => o.size != 1),
     ((o.pair = true → isPair d = true)) ∧
     (let k := s.fed c o.uses
      let x := o.addr k
      (x.toNat % o.size ≠ 0))) := by decide +kernel

theorem test_witness_AccessesRefused_3 :
    let c : CoreId := 23
    let d : RegNo := 4
    let a : RegNo := 1
    let b : RegNo := 2
    let imm : BitVec 16 := 0
    let narrow : BitVec 12 := 0
    let scaled : Bool := true
    let s : State := arranged [regs 23 [(1, 0x80000001)]]
    (s.ready c = true) ∧
    ∀ o ∈ (storeForms c d a b imm narrow scaled).filter (fun o => o.size != 1),
    ((o.pair = true → isPair d = true)) ∧
    (let k := s.fed c o.uses
     let x := o.addr k
     (x.toNat % o.size ≠ 0)) := by decide +kernel

theorem test_witness_AccessesRefused_4 :
    let c : CoreId := 23
    let d : RegNo := 4
    let a : RegNo := 1
    let b : RegNo := 2
    let imm : BitVec 16 := 0
    let narrow : BitVec 12 := 0
    let scaled : Bool := true
    let s : State := arranged [regs 23 [(1, 0xEFFFFFFE)]]
    (s.ready c = true) ∧
    ∀ o ∈ (loadForms c d a b imm narrow scaled).filter (fun o => o.size < 4),
    (o.size < 4) ∧
    (let k := s.fed c o.uses
     let x := (o.addr k).toNat
     (regionOf x = .basin ∨ regionOf x = .dram) ∧
     (x % o.size = 0) ∧
     ((s.setCore c k).transactions < 192) ∧
     (k.faults = [])) := by decide +kernel

theorem test_witness_AtomicsComplete :
    ∀ o ∈ [(Instr.amoswap, fun (_ _ y : DWord) => y), (Instr.amoadd, fun old _ y => old + y), (Instr.amoand, fun old _ y => old &&& y),
        (Instr.amoor, fun old _ y => old ||| y), (Instr.amocas, fun old z y => if old = z then y else old)],
    let c : CoreId := 23
    let d : RegNo := 4
    let a : RegNo := 1
    let b : RegNo := 6
    let s : State := arranged [regs 23 [(1, 0x103FFFF8)], Op.core 23 fun k => { k with loads := List.replicate 7 ⟨[(9, 1)], .shared, 0⟩ }]
    (s.Inv) ∧
    (s.ready c = true) ∧
    (isPair d = true) ∧
    (isPair b = true) ∧
    (let k := s.fed c [d, d + 1, a, b, b + 1]
     let x := (k.rd a).toNat
     (regionOf x = .basin) ∧
     (x % 8 = 0) ∧
     (weight (s.errAt x) = 0) ∧
     (k.loads.length < 8) ∧
     (k.storeSlots < 8) ∧
     ((s.setCore c k).transactions < 192) ∧
     (s.memIdle)) := by decide +kernel

theorem test_witness_CoreEventsAndReturnsComplete_1 :
    (let c : CoreId := 3
     let n : Nat := 0
     let l : Load := ⟨[(4, 7)], .shared, 0⟩
     let s : State := arranged [padsUp, Op.core 3 fun k => { k with loads := [⟨[(4, 7)], .shared, 0⟩, ⟨[(6, 9)], .lamp, 3⟩] }]
     ((s.core c).loads[n]? = some l) ∧
     (l.kind ≠ .lamp)) ∧
    (let c : CoreId := 3
     let s : State := arranged [padsUp, Op.core 3 fun k => { k with loads := [⟨[(4, 7)], .shared, 0⟩, ⟨[(6, 9)], .lamp, 3⟩] }]
     (s.bankA = true) ∧
     (s.domOn (coreDomain c) = true) ∧
     (s.powered .lcs = true) ∧
     (s.bit F.LCS_STAT_DEBUG = true) ∧
     ((s.core c).run ≠ .off) ∧
     ((s.core c).run ≠ .halted)) := by decide +kernel

theorem test_witness_CoreEventsAndReturnsComplete_2 :
    let c : CoreId := 3
    let n : Nat := 1
    let l : Load := ⟨[(6, 9)], .lamp, 3⟩
    let s : State := arranged [padsUp, Op.core 3 fun k => { k with loads := [⟨[(4, 7)], .shared, 0⟩, ⟨[(6, 9)], .lamp, 3⟩] }]
    ((s.core c).loads[n]? = some l) ∧
    (l.kind = .lamp) := by decide +kernel

theorem test_witness_CoreEventsAndReturnsComplete_3 :
    let c : CoreId := 0
    let s : State := arranged [padsUp, Op.core 0 fun k => { k with mode := 9, budget := 0 }]
    (s.issues c = true) ∧
    ((s.core c).budgeted = true) ∧
    ((s.core c).budget = 0) ∧
    ((s.core c).faults = []) := by decide +kernel

theorem test_witness_CoreEventsAndReturnsComplete_4 :
    let c : CoreId := 0
    let w : Word := 0xFC000000
    let s : State := State.reset
    let major := fieldOf w 26 6
    (s.ready c = true) ∧
    ([0x02, 0x03, 0x0E, 0x0F, 0x17, 0x1D, 0x1E, 0x1F, 0x3A, 0x3B, 0x3F].contains major ∨ (0x21 ≤ major ∧ major ≤ 0x27) ∨
      (0x29 ≤ major ∧ major ≤ 0x2F) ∨ (0x32 ≤ major ∧ major ≤ 0x37)) := by decide +kernel

theorem test_witness_CoreEventsAndReturnsComplete_5 :
    let c : CoreId := 0
    let w : Word := 0x04000007
    let s : State := State.reset
    let major := fieldOf w 26 6
    let fn := fieldOf w 0 10
    (s.ready c = true) ∧
    ((major = 0x00 ∧ ((0x17 ≤ fn ∧ fn ≤ 0x1F) ∨ (0x22 ≤ fn ∧ fn ≤ 0x2F) ∨ 0x37 ≤ fn)) ∨ (major = 0x01 ∧ (fn = 7 ∨ 0x0C ≤ fn)) ∨
     (major = 0x14 ∧ 6 ≤ fieldOf w 12 4) ∨ (major = 0x15 ∧ (0x20 ≤ fn ∨ 0x0A ≤ fn % 16)) ∨ (major = 0x16 ∧ 5 ≤ fn) ∨
     (major = 0x1C ∧ 2 ≤ fn) ∨ (major = 0x20 ∧ (fn = 0x0E ∨ fn = 0x0F ∨ 0x13 ≤ fn)) ∨ (major = 0x28 ∧ 4 ≤ fn) ∨
     (major = 0x30 ∧ 10 ≤ fn) ∨ (major = 0x31 ∧ 3 ≤ fn) ∨ (major = 0x38 ∧ 3 ≤ fn) ∨ (major = 0x39 ∧ 1 ≤ fn) ∨
     (major = 0x3E ∧ 5 ≤ fieldOf w 6 5)) := by decide +kernel

theorem test_witness_CoreEventsAndReturnsComplete_6 :
    let c : CoreId := 0
    let w : Word := 0x04000007
    let s : State := State.reset
    (s.ready c = true) ∧
    (let reason := 2
     (illegalReason w = some reason)) := by decide +kernel

theorem test_witness_BranchesComplete_1 :
    let c : CoreId := 0
    let cond : BitVec 5 := 5
    let a : RegNo := 0
    let off : BitVec 16 := 1
    let s : State := State.reset
    (s.ready c = true) ∧
    (let target := (s.core c).pc + 4 * off.signExtend 32
     let fetched (taken : Bool) : Prop := taken = true → [Region.localI, .rom, .nor].contains (regionOf target.toNat) = true
     (let k := s.fed c []
      let taken := condHolds cond.toNat k.st
      (cond.toNat ≤ 16) ∧
      (fetched taken)) ∧
     (let k := s.fed c [a]
      let taken := testHolds cond.toNat (k.rd a).toInt
      (cond.toNat ≤ 5) ∧
      (fetched taken))) := by decide +kernel

theorem test_witness_BranchesComplete_2 :
    let c : CoreId := 0
    let cond : BitVec 5 := 6
    let s : State := State.reset
    (s.ready c = true) ∧
    (5 < cond.toNat) := by decide +kernel

theorem test_witness_BranchesComplete_3 :
    let c : CoreId := 0
    let cond : BitVec 5 := 16
    let off : BitVec 16 := 1
    let s : State := State.reset
    (s.ready c = true) ∧
    (let target := (s.core c).pc + 4 * off.signExtend 32
     let fetched (taken : Bool) : Prop := taken = true → [Region.localI, .rom, .nor].contains (regionOf target.toNat) = true
     (let k := s.fed c []
      let taken := condHolds cond.toNat k.st
      (cond.toNat ≤ 16) ∧
      (fetched taken)) ∧
     ((5 < cond.toNat))) := by decide +kernel

theorem test_witness_BranchesComplete_4 :
    let c : CoreId := 0
    let cond : BitVec 5 := 17
    let s : State := State.reset
    (s.ready c = true) ∧
    (16 < cond.toNat) := by decide +kernel

theorem test_witness_JumpsComplete_1 :
    let c : CoreId := 0
    let s : State := arranged [Op.core 0 fun k => { k with pc := 0x3FFC }]
    (s.ready c = true) ∧
    (let cond : BitVec 5 := 16
     let off : BitVec 16 := 0x1001
     let target := (s.core c).pc + 4 * off.signExtend 32
     ([Region.localI, .rom, .nor, .none].contains (regionOf target.toNat) = false) ∧
     (cond.toNat ≤ 16) ∧
     (condHolds cond.toNat (s.core c).st = true)) := by decide +kernel

theorem test_witness_JumpsComplete_2 :
    let c : CoreId := 0
    let a : RegNo := 0
    let s : State := arranged [Op.core 0 fun k => { k with pc := 0x3FFC }]
    (s.ready c = true) ∧
    (let cond : BitVec 5 := 5
     let off : BitVec 16 := 0x1001
     let target := (s.core c).pc + 4 * off.signExtend 32
     ([Region.localI, .rom, .nor, .none].contains (regionOf target.toNat) = false) ∧
     (cond.toNat ≤ 5) ∧
     (testHolds cond.toNat ((s.fed c [a]).rd a).toInt = true)) := by decide +kernel

theorem test_witness_ControlRegisterInstructionsComplete_1 :
    let c : CoreId := 0
    let d : RegNo := 4
    let s : State := State.reset
    (s.ready c = true) ∧
    ((s.core c).sys = true) ∧
    (((s.fed c [d]).loads = [])) ∧
    (let n : BitVec 6 := 15
     (15 ≤ n.toNat ∧ n.toNat < 32 ∨ 36 ≤ n.toNat)) := by decide +kernel

theorem test_witness_ControlRegisterInstructionsComplete_2 :
    let c : CoreId := 0
    let s : State := arranged [Op.core 0 fun k => { k with mode := 0, pc := 0x100 }]
    (s.ready c = true) ∧
    ((s.core c).sys = false) := by decide +kernel

theorem test_witness_ExceptionsComplete_1 :
    (let c : CoreId := 0
     let uses : List RegNo := [4]
     let code : Nat := 0xFF
     let detail : Nat := 0xFFFF
     let s : State := State.reset
     ((s.fed c uses).stores = []) ∧
     ((s.fed c uses).exl = false) ∧
     (code < 2 ^ 8) ∧
     (detail < 2 ^ 16)) ∧
    (let c : CoreId := 0
     let s : State := State.reset
     (s.ready c = true) ∧
     (let k := s.fed c []
      ((k.sys = true) ∧
       (k.exl = false)) ∧
      ((k.exl = false) ∧
       (k.stores = [])) ∧
      ((k.attached = false)))) := by decide +kernel

theorem test_witness_ExceptionsComplete_2 :
    let c : CoreId := 0
    let s : State := arranged [Op.core 0 fun k => { k with mode := 3 }]
    (s.ready c = true) ∧
    (let k := s.fed c []
     (k.sys = true) ∧
     (k.exl = true)) := by decide +kernel

theorem test_witness_ExceptionsComplete_3 :
    let c : CoreId := 0
    let s : State := arranged [Op.core 0 fun k => { k with mode := 0, pc := 0x100 }]
    (s.ready c = true) ∧
    (let k := s.fed c []
     (k.sys = false)) := by decide +kernel

theorem test_witness_ExceptionsComplete_4 :
    let c : CoreId := 0
    let s : State := arranged [Op.core 0 fun k => { k with attached := true }]
    (s.ready c = true) ∧
    (let k := s.fed c []
     (k.attached = true)) := by decide +kernel

theorem test_witness_RillReadsAndMarksComplete_1 :
    (let c : CoreId := 0
     let d : RegNo := 4
     let n : RillNo := 63
     let s : State := arranged [rillUp 63 0, Op.rillPush 63 5]
     (s.ready c = true) ∧
     (s.consumes c n = true) ∧
     (isPair d = true) ∧
     ((s.rill n).unread ≠ 0) ∧
     (s.itemClean n)) ∧
    (let c : CoreId := 0
     let n : RillNo := 63
     let s : State := arranged [rillUp 63 0, Op.rillPush 63 5]
     (s.ready c = true) ∧
     (s.consumes c n = true) ∧
     (s.quiet n) ∧
     (let r := s.rill n
      ((r.markOff = none)) ∧
      ((r.nread = 0)))) := by decide +kernel

theorem test_witness_RillReadsAndMarksComplete_2 :
    let c : CoreId := 0
    let d : RegNo := 30
    let n : RillNo := 0
    let s : State := arranged [rillUp 0 0]
    (s.ready c = true) ∧
    (s.consumes c n = true) ∧
    (isPair d = true) ∧
    ((s.rill n).unread = 0) := by decide +kernel

theorem test_witness_RillReadsAndMarksComplete_3 :
    let c : CoreId := 0
    let n : RillNo := 5
    let s : State := arranged [rillUp 5 0, Op.rill 5 fun r => { r with nread := 3, markOff := some 3 }]
    (s.ready c = true) ∧
    (s.consumes c n = true) ∧
    (s.quiet n) ∧
    (let r := s.rill n
     (let m := 3
      (r.markOff = some m)) ∧
     ((r.nread ≠ 0))) := by decide +kernel

theorem test_witness_RillPushesAndPacketsComplete_1 :
    let c : CoreId := 0
    let n : RillNo := 63
    let a : RegNo := 6
    let s : State := arranged [rillUp 63 0]
    (s.Inv) ∧
    (s.ready c = true) ∧
    (s.produces c n = true) ∧
    (s.quiet n) ∧
    (s.isPacket n = false) ∧
    (isPair a = true) ∧
    ((s.core c).stores = []) ∧
    ((s.core c).popen = 0) ∧
    (s.rillFree n ≠ 0) := by decide +kernel

theorem test_witness_RillPushesAndPacketsComplete_2 :
    let c : CoreId := 0
    let n : RillNo := 63
    let a : RegNo := 6
    let s : State := arranged [rillUp 63 0, Op.rill 63 fun r => { r with unread := 16 }]
    (s.Inv) ∧
    (s.ready c = true) ∧
    (s.produces c n = true) ∧
    (s.quiet n) ∧
    (s.isPacket n = false) ∧
    (isPair a = true) ∧
    ((s.core c).stores = []) ∧
    ((s.core c).popen = 0) ∧
    (s.rillFree n = 0) := by decide +kernel

theorem test_witness_RillPushesAndPacketsComplete_3 :
    let c : CoreId := 0
    let w : CoreId := 1
    let ws : List CoreId := [2]
    let n : RillNo := 63
    let a : RegNo := 6
    let d : RegNo := 4
    let s : State := arranged [rillUp 63 0, Op.core 1 fun k => { k with run := .rillWait 4 63 }, Op.rill 63 fun r => { r with waiters := [1, 2] }]
    (s.Inv) ∧
    (s.ready c = true) ∧
    (s.produces c n = true) ∧
    (s.fld (F.RILL_BRIM_HIGH n) = 0) ∧
    (s.memIdle) ∧
    (s.isPacket n = false) ∧
    (isPair a = true) ∧
    ((s.core c).stores = []) ∧
    ((s.core c).popen = 0) ∧
    (w ≠ c) ∧
    ((s.rill n).waiters = w :: ws) ∧
    ((s.core w).run = .rillWait d n) ∧
    (isPair d = true) ∧
    ((s.rill n).unread = 0) ∧
    (s.rillFree n ≠ 0) ∧
    (s.bit F.MEM_FLIP_CFG_ARM = false) := by decide +kernel

theorem test_witness_RillPushesAndPacketsComplete_4 :
    let c : CoreId := 0
    let n : RillNo := 6
    let s : State := arranged [rillUp 6 1, Op.rill 6 fun r => { r with unread := 14 }]
    (s.Inv) ∧
    (s.ready c = true) ∧
    (s.produces c n = true) ∧
    (s.isPacket n = true) ∧
    (s.quiet n) ∧
    ((s.core c).stores = []) ∧
    (let r := s.rill n
     let k := s.core c
     (k.popenOpen = false) ∧
     (r.pkt = none) ∧
     (2 ≤ s.rillFree n)) := by decide +kernel

theorem test_witness_RillPushesAndPacketsComplete_5 :
    let c : CoreId := 0
    let n : RillNo := 6
    let a : RegNo := 4
    let s : State := arranged
        [rillUp 6 1, Op.rill 6 fun r => { r with npkt := 1, pkt := some (.core 0) },
        Op.core 0 fun k => { k with popen := popenWord false 6 65534 }]
    (s.Inv) ∧
    (s.ready c = true) ∧
    (s.produces c n = true) ∧
    (s.isPacket n = true) ∧
    (s.quiet n) ∧
    ((s.core c).stores = []) ∧
    (let r := s.rill n
     let k := s.core c
     ((isPair a = true) ∧
      (k.popenOpen = true) ∧
      (k.popenRill = n) ∧
      (k.popenBroken = false) ∧
      (k.popenCount < 65535) ∧
      (s.rillFree n ≠ 0)) ∧
     ((k.popenOpen = true) ∧
      (k.popenRill = n) ∧
      ((k.popenBroken = false)) ∧
      ((r.pkt = some (.core c))))) := by decide +kernel

theorem test_witness_RillPushesAndPacketsComplete_6 :
    let c : CoreId := 0
    let n : RillNo := 63
    let s : State := arranged [rillUp 63 1, Op.rill 63 fun r => { r with unread := 15 }]
    (s.Inv) ∧
    (s.ready c = true) ∧
    (s.produces c n = true) ∧
    (s.isPacket n = true) ∧
    (s.quiet n) ∧
    ((s.core c).stores = []) ∧
    (let r := s.rill n
     let k := s.core c
     (k.popenOpen = false) ∧
     (r.pkt.isSome = true ∨ s.rillFree n < 2)) := by decide +kernel

theorem test_witness_RillPushesAndPacketsComplete_7 :
    let c : CoreId := 0
    let n : RillNo := 6
    let a : RegNo := 4
    let s : State := arranged
        [rillUp 6 1, Op.rill 6 fun r => { r with npkt := 1, unread := 15, pkt := some (.core 0) },
        Op.core 0 fun k => { k with popen := popenWord false 6 65534 }]
    (s.Inv) ∧
    (s.ready c = true) ∧
    (s.produces c n = true) ∧
    (s.isPacket n = true) ∧
    (s.quiet n) ∧
    ((s.core c).stores = []) ∧
    (let k := s.core c
     (isPair a = true) ∧
     (k.popenOpen = true) ∧
     (k.popenRill = n) ∧
     (k.popenBroken = false) ∧
     (k.popenCount < 65535) ∧
     (s.rillFree n = 0)) := by decide +kernel

theorem test_witness_RillPushesAndPacketsComplete_8 :
    let c : CoreId := 0
    let n : RillNo := 6
    let a : RegNo := 4
    let s : State := arranged
        [rillUp 6 1, Op.rill 6 fun r => { r with npkt := 1, unread := 15, pkt := some (.core 0) },
        Op.core 0 fun k => { k with popen := popenWord true 6 65535 }]
    (s.Inv) ∧
    (s.ready c = true) ∧
    (s.produces c n = true) ∧
    (s.isPacket n = true) ∧
    (s.quiet n) ∧
    ((s.core c).stores = []) ∧
    (let k := s.core c
     ((isPair a = true) ∧
      (k.popenOpen = true) ∧
      (k.popenRill = n) ∧
      (k.popenBroken = true)) ∧
     ((k.popenOpen = true) ∧
      (k.popenRill = n) ∧
      (k.popenBroken = true))) := by decide +kernel

theorem test_witness_RillControlCompletes_1 :
    (let c : CoreId := 3
     let d : RegNo := 4
     let n : RillNo := 63
     let s : State := arranged [Op.core 3 fun k => { k with mode := 0, pc := 0x100 }, cfg [(F.RILL_CFG_SYSONLY 63, 1)]]
     (s.ready c = true) ∧
     (isPair d = true) ∧
     ∀ p ∈ [(Instr.pop c d n, both d), (Instr.peek c d n, both d), (Instr.takeRill c d n, both d), (Instr.mark c n, []), (Instr.rewind c n, []),
         (Instr.release c n, [])],
     ((s.core c).sys = false) ∧
     (s.bit (F.RILL_CFG_SYSONLY n) = true)) ∧
    (let n : RillNo := 63
     let s : State := arranged [Op.core 3 fun k => { k with mode := 0, pc := 0x100 }, cfg [(F.RILL_CFG_SYSONLY 63, 1)]]
     (s.Inv) ∧
     (s.powered .rill = true) ∧
     (s.rillEn n = false)) := by decide +kernel

theorem test_witness_RillControlCompletes_2 :
    (let c : CoreId := 3
     let d : RegNo := 4
     let n : RillNo := 63
     let s : State := State.reset
     (s.ready c = true) ∧
     (isPair d = true) ∧
     ∀ p ∈ [(Instr.pop c d n, both d), (Instr.peek c d n, both d), (Instr.takeRill c d n, both d), (Instr.mark c n, []), (Instr.rewind c n, []),
         (Instr.release c n, [])],
     ((s.core c).sys = true) ∧
     (s.rillOn n = false) ∧
     (s.ending .rill = false)) ∧
    (let c : CoreId := 3
     let n : RillNo := 63
     let s : State := State.reset
     (s.ready c = true) ∧
     ((s.core c).stores = []) ∧
     (let k := s.core c
      let holds := k.popenOpen && k.popenRill == n
      (k.sys = true ∨ s.bit (F.RILL_CFG_SYSONLY n) = false) ∧
      (s.rillOn n = false) ∧
      (s.ending .rill = false) ∧
      ((k.popenOpen = false)) ∧
      ((holds = true ∨ s.isFeed n = false)))) := by decide +kernel

theorem test_witness_RillControlCompletes_3 :
    (let c : CoreId := 3
     let d : RegNo := 4
     let n : RillNo := 4
     let s : State := arranged [rillUp 4 0, cfg [(F.RILL_CFG_FEED 4, 1)]]
     (s.ready c = true) ∧
     (isPair d = true) ∧
     ∀ p ∈ [(Instr.pop c d n, both d), (Instr.peek c d n, both d), (Instr.takeRill c d n, both d), (Instr.mark c n, []), (Instr.rewind c n, []),
         (Instr.release c n, [])],
     ((s.core c).sys = true) ∧
     (s.rillOn n = true) ∧
     (s.isFeed n = true)) ∧
    (let c : CoreId := 3
     let n : RillNo := 4
     let s : State := arranged [rillUp 4 0, cfg [(F.RILL_CFG_FEED 4, 1)]]
     (s.ready c = true) ∧
     ((s.core c).stores = []) ∧
     (let k := s.core c
      let holds := k.popenOpen && k.popenRill == n
      (k.sys = true ∨ s.bit (F.RILL_CFG_SYSONLY n) = false) ∧
      (s.rillOn n = true) ∧
      ((k.popenOpen = false) ∧
       (s.isPacket n = false)) ∧
      ((holds = false)))) ∧
    (let n : RillNo := 4
     let s : State := arranged [rillUp 4 0, cfg [(F.RILL_CFG_FEED 4, 1)]]
     (s.Inv) ∧
     (s.powered .rill = true) ∧
     (s.rillEn n = true) ∧
     (s.quiet n) ∧
     ((s.rill n).pkt = none)) := by decide +kernel

theorem test_witness_RillControlCompletes_4 :
    let c : CoreId := 3
    let a : RegNo := 4
    let n : RillNo := 63
    let s : State := arranged [Op.core 3 fun k => { k with mode := 0, pc := 0x100 }, cfg [(F.RILL_CFG_SYSONLY 63, 1)]]
    (s.ready c = true) ∧
    ((s.core c).stores = []) ∧
    (let k := s.core c
     let ps := [(Instr.push c n a, both a, true), (Instr.openp c n, [], false), (Instr.closep c n a, [a], true), (Instr.cancelp c n, [], false)]
     ∀ p ∈ ps,
     (k.sys = false) ∧
     (s.bit (F.RILL_CFG_SYSONLY n) = true) ∧
     ((p.1 = Instr.push c n a → isPair a = true))) := by decide +kernel

theorem test_witness_RillControlCompletes_5 :
    let c : CoreId := 3
    let a : RegNo := 4
    let n : RillNo := 63
    let s : State := arranged [Op.core 3 fun k => { k with popen := popenWord false 5 0 }]
    (s.ready c = true) ∧
    ((s.core c).stores = []) ∧
    (let k := s.core c
     (k.sys = true ∨ s.bit (F.RILL_CFG_SYSONLY n) = false) ∧
     ((k.popenOpen = true)) ∧
     ((s.rillOn n = false) ∧
      (s.ending .rill = false) ∧
      (isPair a = true))) := by decide +kernel

theorem test_witness_RillControlCompletes_6 :
    let c : CoreId := 3
    let a : RegNo := 4
    let n : RillNo := 63
    let s : State := arranged [rillUp 63 1]
    (s.ready c = true) ∧
    ((s.core c).stores = []) ∧
    (let k := s.core c
     let holds := k.popenOpen && k.popenRill == n
     (k.sys = true ∨ s.bit (F.RILL_CFG_SYSONLY n) = false) ∧
     (s.rillOn n = true) ∧
     (isPair a = true) ∧
     (holds = false) ∧
     (s.isPacket n = true)) := by decide +kernel

theorem test_witness_WorkInstructionsComplete_1 :
    let c : CoreId := 0
    let s : State := State.reset
    (s.ready c = true) ∧
    ((s.core c).stores = []) ∧
    ((s.core c).sys = true) ∧
    ((s.core c).exl = false) ∧
    ((s.core c).item.getLsbD 0 = false) := by decide +kernel

theorem test_witness_WorkInstructionsComplete_2 :
    let c : CoreId := 0
    let s : State := arranged [Op.core 0 fun k => { k with item := 1 }]
    (s.ready c = true) ∧
    ((s.core c).stores = []) ∧
    ((s.core c).item.getLsbD 0 = true) ∧
    ((s.core c).popen = 0) ∧
    ((s.core c).work.all (!·.1.edf) = true) := by decide +kernel

theorem test_witness_WorkInstructionsComplete_3 :
    let c : CoreId := 0
    let d : RegNo := 4
    let a : RegNo := 5
    let s : State := arranged
        [regs 0 [(5, 0xBFE8)], cfg [(Block.weir.run, 1), (F.WEIR_GCFG_EN 3, 1)],
        Op.putBytes (localKey 0 0xBFE8) (leBytes 8 (0x100 + 15 * 2 ^ 32 + 3 * 2 ^ 36))]
    (s.ready c = true) ∧
    ((s.core c).stores = []) ∧
    (let k := s.settled c [d, a]
     let x := (k.rd a).toNat
     let w (i : Nat) : Nat := s.store.le (localKey c.val (x + 8 * i)) 8
     (regionOf x = .localD) ∧
     (regionOf (x + 16) = .localD) ∧
     (x % 8 = 0) ∧
     ((∀ i < 3, s.localClean c (x + 8 * i) 8)) ∧
     (s.running .weir = true) ∧
     (s.validDescriptor (BitVec.ofNat 64 (w 0)) = true) ∧
     ((k.sys = true ∨ s.bit (F.WEIR_GCFG_MODE (w 0 / 2 ^ 36 % 4)) = false)) ∧
     (s.blk.weir.ready.length < 4095)) := by decide +kernel

theorem test_witness_WeirCommandsComplete_1 :
    let s : State := arranged
        [cfg [(Block.weir.run, 1), (F.WEIR_GCFG_EN 3, 1)],
        Op.weir fun w => { w with ready := [⟨0x100, 15, 3, false, 0, 7, 0⟩], waiting := [(0, some 3)] }]
    let g : Nat := 3
    let c : CoreId := 0
    let q : Option Nat := some 3
    let i : Item := ⟨0x100, 15, 3, false, 0, 7, 0⟩
    let rest : List Item := []
    (s.running .weir = true) ∧
    (s.blk.stopping.getLsbD 1 = false) ∧
    (s.nextGroup = some g) ∧
    (s.blk.weir.waiting.find? (inQueue g) = some (c, q)) ∧
    (chooseItem s.blk.weir.ready g (s.bit (F.WEIR_GCFG_ORDER g)) = some (i, rest)) ∧
    ((i.group = g ∧ i ∈ s.blk.weir.ready ∧
       ∀ j ∈ s.blk.weir.ready, j.group = g)) ∧
    (let r : RegNo := 31
     (r.val < 4 ∨ 8 ≤ r.val)) := by decide +kernel

theorem test_witness_WeirCommandsComplete_2 :
    let s : State := State.reset
    (s.Inv) ∧
    (s.powered .weir = true) ∧
    (s.bit F.WEIR_CTRL_RUN = false) := by decide +kernel

theorem test_witness_WeirCommandsComplete_3 :
    let s : State := arranged
        [rillUp 63 0, cfg [(Block.weir.run, 1), (F.WEIR_GCFG_EN 3, 1), (F.RILL_CFG_FEED 63, 1), (F.RILL_FEED_FLAGS_GROUP 63, 3)],
        Op.rillPush 63 5]
    (s.Inv) ∧
    (let n : RillNo := 63
     (s.working .rill = true) ∧
     (s.running .weir = true) ∧
     (s.blk.weir.ready.length < 4095) ∧
     (s.nextFeed = some n) ∧
     (s.itemClean n) ∧
     (s.quiet n) ∧
     ((s.reg (A.RILL_FEED_ENTRY n)).toNat % 4 = 0) ∧
     (s.bit (F.WEIR_GCFG_EN (s.fld (F.RILL_FEED_FLAGS_GROUP n))) = true) ∧
     (s.fld (F.WEIR_GCFG_ORDER (s.fld (F.RILL_FEED_FLAGS_GROUP n))) = s.fld (F.RILL_FEED_FLAGS_EDF n))) := by decide +kernel

theorem test_witness_TimeAndCallInstructionsComplete_1 :
    let c : CoreId := 0
    let d : RegNo := 4
    let a : RegNo := 6
    let s : State := arranged [timeIs 5, regs 0 [(6, 0), (7, 5)]]
    (s.ready c = true) ∧
    ((isPair d = true)) ∧
    ((isPair a = true) ∧
     (let uses := d :: both a
      let x := ((s.fed c uses).rdp a).toNat
      ((x ≤ s.now)) ∧
      ((0 < x) ∧
       (x ≤ 2 ^ 30)))) ∧
    (((s.core c).stores = [])) := by decide +kernel

theorem test_witness_TimeAndCallInstructionsComplete_2 :
    let c : CoreId := 0
    let d : RegNo := 4
    let a : RegNo := 6
    let s : State := arranged [timeIs 5, regs 0 [(6, 0), (7, 0x40000005)]]
    (s.ready c = true) ∧
    (isPair a = true) ∧
    (let uses := d :: both a
     let x := ((s.fed c uses).rdp a).toNat
     ((s.now < x) ∧
      (x ≤ s.now + 2 ^ 30)) ∧
     ((2 ^ 30 < x))) := by decide +kernel

theorem test_witness_TimeAndCallInstructionsComplete_3 :
    let c : CoreId := 0
    let d : RegNo := 4
    let a : RegNo := 6
    let s : State := arranged [timeIs 5, regs 0 [(6, 0), (7, 0x40000006)]]
    (s.ready c = true) ∧
    (isPair a = true) ∧
    (let uses := d :: both a
     let x := ((s.fed c uses).rdp a).toNat
     (s.now + 2 ^ 30 < x)) := by decide +kernel

theorem test_witness_TimeAndCallInstructionsComplete_4 :
    let c : CoreId := 0
    let d : RegNo := 4
    let a : RegNo := 6
    let s : State := arranged [timeIs 5, regs 0 [(6, 0), (7, 0)]]
    (s.ready c = true) ∧
    (isPair a = true) ∧
    (let uses := d :: both a
     let x := ((s.fed c uses).rdp a).toNat
     (x = 0)) := by decide +kernel

theorem test_witness_TimeAndCallInstructionsComplete_5 :
    let c : CoreId := 0
    let d : RegNo := 4
    let s : State := arranged [timeIs 5, regs 0 [(6, 0), (7, 0)], Op.core 0 fun k => { k with run := .timeWait 4 5 }]
    let x := 5
    ((s.core c).run = .timeWait d x) ∧
    (x ≤ s.now) ∧
    (s.domOn (coreDomain c) = true) := by decide +kernel

theorem test_witness_TimeAndCallInstructionsComplete_6 :
    let c : CoreId := 0
    let d : RegNo := 4
    let a : RegNo := 5
    let n : RillNo := 63
    let service : BitVec 10 := 0x40
    let s : State := arranged
        [rillUp 63 0, regs 0 [(5, 0x103FFFC0)], dws 0x103FFFC0 [1, 2, 3, 4, 5, 6, 7, 8], cfg [(Block.gnt.run, 1)],
        Op.gnt fun g => { g with calls := List.replicate 15 ⟨1, 0, none, true, 1, none, none, false, false⟩ }]
    (s.ready c = true) ∧
    ((s.core c).stores = []) ∧
    (let k := s.fed c [d, a]
     let x := (k.rd a).toNat
     (x % 64 = 0) ∧
     (regionOf x = .basin) ∧
     (s.domOn 9 = true) ∧
     (s.memIdle) ∧
     ((∀ j < 8, s.isValid (x + 8 * j) = true ∧ weight (s.errAt (x + 8 * j)) = 0)) ∧
     (s.gnt.calls.length < 16) ∧
     (s.unqueued) ∧
     (s.running .gnt = true) ∧
     (s.blk.stopping.getLsbD 16 = false) ∧
     (svcDefined service.toNat = true) ∧
     (s.rillOn n = true)) := by decide +kernel

theorem test_witness_TimeAndCallInstructionsComplete_7 :
    let c : CoreId := 0
    let d : RegNo := 4
    let a : RegNo := 5
    let s : State := arranged
        [rillUp 63 0, regs 0 [(5, 0x103FFFC0)], dws 0x103FFFC0 [1, 2, 3, 4, 5, 6, 7, 8], cfg [(Block.gnt.run, 1)],
        Op.gnt fun g => { g with calls := List.replicate 16 ⟨1, 0, none, true, 1, none, none, false, false⟩ }]
    (s.ready c = true) ∧
    ((s.core c).stores = []) ∧
    (let k := s.fed c [d, a]
     let x := (k.rd a).toNat
     (x % 64 = 0) ∧
     (regionOf x = .basin) ∧
     (s.domOn 9 = true) ∧
     (s.memIdle) ∧
     ((∀ j < 8, s.isValid (x + 8 * j) = true ∧ weight (s.errAt (x + 8 * j)) = 0)) ∧
     (s.gnt.calls.length = 16)) := by decide +kernel

theorem test_witness_LampReportsAndWindowsComplete_1 :
    let s : State := arranged [cfg [(F.LAMP_CURVE_ADDR_INDEX, 256)]]
    (s.Inv) ∧
    (s.powered .lamp = true) ∧
    (s.fld F.LAMP_CURVE_ADDR_INDEX ≤ 256) ∧
    (s.bit F.LAMP_CTRL_RUN = false) := by decide +kernel

theorem test_witness_LampReportsAndWindowsComplete_2 :
    let s : State := arranged [rillUp 63 0, cfg [(F.MEM_EVT_EN, 1), (F.MEM_EVT_RILL, 63)], Op.setEvq .mem [7]]
    (s.Inv) ∧
    (let v : DWord := 7
     let vs : List DWord := []
     (s.powered .mem = true) ∧
     (s.evq .mem = v :: vs) ∧
     (s.bit F.MEM_EVT_EN = true) ∧
     (let n := rillNo (s.fld F.MEM_EVT_RILL)
      (s.rillOn n = true) ∧
      (s.isPacket n = false) ∧
      ((s.rill n).pkt = none) ∧
      (s.rillFree n ≠ 0) ∧
      (s.quiet n))) := by decide +kernel

theorem test_witness_LampReportsAndWindowsComplete_3 :
    let c : CoreId := 0
    let a : RegNo := 5
    let b : RegNo := 6
    let s : State := arranged [lampRecord 65535 false, regs 0 [(5, 65535), (6, 0xFFFF)]]
    (s.Inv) ∧
    (s.ready c = true) ∧
    (let k := s.fed c [a, b]
     let i := (k.rd a).toNat
     (s.lampTakes = true) ∧
     (i < 2 ^ 16) ∧
     ((k.rd b).toNat < 2 ^ 16) ∧
     (s.lampClean i) ∧
     (k.loads.length < 8) ∧
     ((s.setCore c k).transactions < 192) ∧
     (s.therm i = none)) := by decide +kernel

theorem test_witness_LampReportsAndWindowsComplete_4 :
    let c : CoreId := 0
    let a : RegNo := 5
    let b : RegNo := 6
    let s : State := arranged [lampRecord 65535 true, Op.setTherm 65535 (some ⟨1, none, 0, 0⟩), regs 0 [(5, 65535), (6, 0xFFFF)]]
    (s.Inv) ∧
    (s.ready c = true) ∧
    (let k := s.fed c [a, b]
     let i := (k.rd a).toNat
     (s.lampTakes = true) ∧
     (i < 2 ^ 16) ∧
     ((k.rd b).toNat < 2 ^ 16) ∧
     (s.lampClean i) ∧
     (k.loads.length < 8) ∧
     ((s.setCore c k).transactions < 192) ∧
     (let old := ⟨1, none, 0, 0⟩
      (s.therm i = some old) ∧
      (s.bit F.LAMP_EVT_CFG_EN = false) ∧
      (s.fld F.LAMP_FAULT_NOW_COUNT < 2 ^ 17 - 1))) := by decide +kernel

theorem test_witness_LampReportsAndWindowsComplete_5 :
    let c : CoreId := 0
    let d : RegNo := 4
    let a : RegNo := 5
    let s : State := arranged [regs 0 [(5, 0x103FFFC0)]]
    (s.Inv) ∧
    (s.ready c = true) ∧
    (let k := s.fed c [d, a]
     (k.stores = []) ∧
     ((k.rd a).toNat % 64 = 0) ∧
     (s.reaches (k.rd a).toNat = true) ∧
     (s.powered .lamp = true)) := by decide +kernel

theorem test_witness_LampEntriesComplete_1 :
    let c : CoreId := 0
    let d : RegNo := 4
    let a : RegNo := 5
    let b : RegNo := 6
    let s : State := arranged [lampRecord 65535 true, regs 0 [(5, 65535)]]
    (s.Inv) ∧
    (s.ready c = true) ∧
    (s.lampTakes = true) ∧
    (isPair d = true) ∧
    (isPair b = true) ∧
    (let k := s.fed c (both d ++ a :: both b)
     let i := (k.rd a).toNat
     (i < 2 ^ 16) ∧
     (s.lampClean i) ∧
     (k.loads.length < 8) ∧
     ((s.setCore c k).transactions < 192)) := by decide +kernel

theorem test_witness_LampEntriesComplete_2 :
    let s : State := arranged [lampRecord 7 false, batchRuns (batch 1), dws 0x10001000 [0xFFFF111122223333, 7]]
    let b : Batch := batch 1
    (s.Inv) ∧
    (s.lampTakes = true) ∧
    (s.blk.lamp.cur = some b) ∧
    (b.status = none) ∧
    (b.op = 1) ∧
    (let a := b.src + 16 * b.idx
     let i := (s.dword (a + 8)).toNat
     (s.readable a) ∧
     (s.readable (a + 8)) ∧
     (i < 2 ^ 16) ∧
     (s.lampClean i) ∧
     (s.reaches (b.dst + 8 * b.idx) = true)) := by decide +kernel

theorem test_witness_LampEntriesComplete_3 :
    let s : State := arranged
        [lampRecord 7 false, batchRuns (batch 2), dws 0x10001000 [0xFFFF111122223333, 5, 7 + 16 * 2 ^ 16 + 1000 * 2 ^ 32, 0]]
    let b : Batch := batch 2
    (s.Inv) ∧
    (s.lampTakes = true) ∧
    (s.blk.lamp.cur = some b) ∧
    (b.status = none) ∧
    (b.op = 2) ∧
    (let a := b.src + 32 * b.idx
     let w := (s.dword (a + 16)).toNat
     let n := w / 2 ^ 16 % 2 ^ 5
     let D := w / 2 ^ 32
     ((∀ j < 4, s.readable (a + 8 * j))) ∧
     (w / 2 ^ 21 % 2 ^ 11 = 0) ∧
     (s.dword (a + 24) = 0) ∧
     (1 ≤ n) ∧
     (n ≤ 16) ∧
     ((∀ j < n, fadeDwell D n j ≤ 65535)) ∧
     (s.lampClean (w % 2 ^ 16)) ∧
     ((∀ j < 21, s.reaches (b.dst + 168 * b.idx + 8 * j) = true))) := by decide +kernel

theorem test_witness_LampEntriesComplete_4 :
    let s : State := arranged
        [lampRecord 7 false, batchRuns (batch 3), dws 0x10001000 ((7 * 2 ^ 16 + 16) :: List.replicate 20 0xFFFFFFFFFFFFFFFF)]
    let b : Batch := batch 3
    (s.Inv) ∧
    (s.lampTakes = true) ∧
    (s.blk.lamp.cur = some b) ∧
    (b.status = none) ∧
    (b.op = 3) ∧
    (let a := b.src + 168 * b.idx
     let h := (s.dword a).toNat
     let n := h % 2 ^ 5
     let dwell (j : Nat) : Nat := (s.dword (a + 0x88 + 8 * (j / 4))).toNat / 2 ^ (16 * (j % 4)) % 2 ^ 16
     ((∀ j < 21, s.readable (a + 8 * j))) ∧
     (h / 2 ^ 5 % 2 ^ 3 = 0) ∧
     (1 ≤ n) ∧
     (n ≤ 16) ∧
     ((∀ j < 16, n ≤ j → s.dword (a + 8 + 8 * j) = 0 ∧ dwell j = 0)) ∧
     (s.lampClean (h / 2 ^ 16 % 2 ^ 16)) ∧
     ((∀ j < 21, s.reaches (b.dst + 168 * b.idx + 8 * j) = true))) := by decide +kernel

theorem test_witness_ConversionResults_1 :
    (let s : State := arranged [lampRecord 0 false, Op.putBytes (recKey 0 + 2) (List.replicate 8 0x7F)]
     let i : Nat := 0
     let k : Nat := 0
     let th : Option Therm := none
     let colour : DWord := 0xFFFFFFFFFFFFFFFF
     let noderate : Bool := false
     (k < 4) ∧
     (let chans := s.recU i 1 1 % 8
      let q16 (v : Nat) : Nat := (v * 65537 + 32768) / 2 ^ 16
      let decoded (j : Nat) : Nat :=
        let e := q16 (colour.toNat / 2 ^ (32 - 16 * j) % 2 ^ 16)
        let c := s.recU i 1 1 / 2 ^ 4 % 4
        if c = 0 then e else s.decodeCurve c e
      let sum : Int := s.recS i (4 + 6 * k) * decoded 0 + s.recS i (6 + 6 * k) * decoded 1 + s.recS i (8 + 6 * k) * decoded 2
      let mixed := (max 0 (min ((sum + 8192) / 2 ^ 14) 262143)).toNat
      let ck := match th with | some t => s.compensation i k t | none => 65536
      let dr := match th with | some t => if noderate then 65536 else s.derating i t | none => 65536
      let v := (mixed * q16 (colour.toNat / 2 ^ 48) * s.recU i 2 2 * ck * dr + 2 ^ 62) / 2 ^ 63
      ((65536 < v) ∧
       (k < chans)) ∧
      ((noderate = false)))) ∧
    (let n : Nat := 16
     (1 ≤ n) ∧
     (n ≤ 16)) := by decide +kernel

theorem test_witness_ConversionResults_2 :
    let k : Nat := 3
    let noderate : Bool := true
    (k < 4) ∧
    (noderate = true) := by decide +kernel

theorem test_witness_LampMemoryAndBatchesComplete_1 :
    let s : State := arranged [lampRecord 7 false, batchRuns (batch 4), dws 0x10001000 [0x0101, 2, 3, 4, 5, 6, 7, 8]]
    let b : Batch := batch 4
    (s.Inv) ∧
    (s.lampTakes = true) ∧
    (s.blk.lamp.cur = some b) ∧
    (b.status = none) ∧
    (let i := b.first + b.idx
     (i < s.fld F.LAMP_RECCNT_COUNT) ∧
     (b.op = 4) ∧
     (let a := b.src + 64 * b.idx
      (a % 8 = 0) ∧
      ((∀ j < 8, s.readable (a + 8 * j))) ∧
      ((s.therm i).all (·.state != 2) = true))) := by decide +kernel

theorem test_witness_LampMemoryAndBatchesComplete_2 :
    let s : State := arranged [lampRecord 7 false, batchRuns (batch 5)]
    let b : Batch := batch 5
    (s.Inv) ∧
    (s.lampTakes = true) ∧
    (s.blk.lamp.cur = some b) ∧
    (b.status = none) ∧
    (let i := b.first + b.idx
     (i < s.fld F.LAMP_RECCNT_COUNT) ∧
     (b.op = 5) ∧
     (let dst := b.dst + 80 * b.idx
      ((∀ j < 8, s.recErr i j = 0)) ∧
      ((∀ j < 10, s.reaches (dst + 8 * j) = true)))) := by decide +kernel

theorem test_witness_LampMemoryAndBatchesComplete_3 :
    let s : State := arranged [rillUp 63 0, batchRuns { batch 1 with status := some 1, rill := 63 }]
    let b : Batch := { batch 1 with status := some 1, rill := 63 }
    let st : Nat := 1
    (s.Inv) ∧
    (s.blk.lamp.cur = some b) ∧
    (b.status = some st) ∧
    (b.written = false) ∧
    (4 ≤ b.rill) ∧
    (b.rill ≤ 63) ∧
    (s.reaches (b.desc + 0x20) = true) ∧
    (let n := rillNo b.rill
     (s.rillOn n = true) ∧
     (s.isPacket n = false) ∧
     ((s.rill n).pkt = none) ∧
     (s.rillFree n ≠ 0) ∧
     (s.quiet n)) := by decide +kernel

theorem test_witness_TablesAndSolarCommandsComplete_1 :
    let s : State := arranged
        [corrRuns, cfg [(F.CORR_CTRL_SOL_EN, 1), (F.CORR_SOL_CFG_PERIOD, 1), (F.CORR_SOL_CFG_RILL, 63), (F.CORR_SOL_CFG_SITE_EN, 15)]]
    (s.Inv) ∧
    (let second := s.now / 10 ^ 9 * 10 ^ 9
     (s.corrWorks = true) ∧
     (s.bit F.CORR_CTRL_SOL_EN = true) ∧
     (s.timeSet = true) ∧
     (s.utc second % (s.fld F.CORR_SOL_CFG_PERIOD : Int) = 0) ∧
     (s.rillOn (rillNo (s.fld F.CORR_SOL_CFG_RILL)) = false)) ∧
    ((s.powered .corr = true) ∧
     (s.blk.corr.query = none)) := by decide +kernel

theorem test_witness_TablesAndSolarCommandsComplete_2 :
    let s : State := arranged [Op.corr fun c => { c with query := some (0, 3) }]
    (s.Inv) ∧
    ((s.powered .corr = true) ∧
     (s.blk.corr.query.isSome = true)) ∧
    (let q := (0, 3)
     (s.blk.corr.query = some q) ∧
     (s.powered .corr = true)) := by decide +kernel

theorem test_witness_TablesAndSolarCommandsComplete_3 :
    let s : State := arranged [tables]
    (s.Inv) ∧
    (s.powered .corr = true) ∧
    (s.bit F.CORR_STAT_LOADING = true) ∧
    (let at' (off n : Nat) : List DWord := (List.range n).map fun j => s.dword ((s.reg A.CORR_TBL_BASE).toNat + off + 8 * j)
     let nn := s.fld F.CORR_TBL_CNT1_NODES
     let ne := s.fld F.CORR_TBL_CNT1_EDGES
     let sizes := [(0, nn), (0x10000, (ne + 1) / 2), (0x30000, 2 * s.fld F.CORR_TBL_CNT2_SCHED), (0x31000, s.fld F.CORR_TBL_CNT2_HOL),
       (0x31400, 2 * s.fld F.CORR_TBL_CNT2_OFFS)]
     let nodes := at' 0 nn
     let edges := ((at' 0x10000 ((ne + 1) / 2)).flatMap fun d : DWord => [d.setWidth 32, (d >>> 32).setWidth 32]).take ne
     let sched := pairsOf (at' 0x30000 (2 * s.fld F.CORR_TBL_CNT2_SCHED))
     let hols := at' 0x31000 (s.fld F.CORR_TBL_CNT2_HOL)
     let offs := pairsOf (at' 0x31400 (2 * s.fld F.CORR_TBL_CNT2_OFFS))
     ((∀ p ∈ sizes, ∀ j < p.2, s.readable ((s.reg A.CORR_TBL_BASE).toNat + p.1 + 8 * j))) ∧
     (nodes.all (nodeOk ne) = true) ∧
     (edges.all (edgeOk nodes) = true) ∧
     (sched.all (schedOk (s.fld F.CORR_SOL_CFG_SITE_EN)) = true) ∧
     (hols.all holidayOk = true) ∧
     ((List.range offs.length).all (offsetOk offs) = true)) := by decide +kernel

theorem test_witness_TablesAndSolarCommandsComplete_4 :
    let utc : Int := 1577836800 * 10 ^ 9
    (1577836800 * 10 ^ 9 ≤ utc) ∧
    (utc < 4102444800 * 10 ^ 9) := by decide +kernel

theorem test_witness_PresenceCompletes :
    let s : State := arranged
        [corrRuns, Op.corr fun c => { c with image := some street }, rillUp 5 0, cfg
        [(F.CORR_CTRL_COR_EN, 1), (F.CORR_RILLS_EVT_IN, 5), (F.CORR_RILLS_COR_OUT, 7), (F.CORR_SEG_DS_SEGMENT, 4095),
        (F.CORR_PROF_A_LEVEL 15, 255), (F.CORR_PROF_A_LEAD 15, 4095), (F.CORR_TRACK_SECONDS, 10)],
        Op.rillPush 5 (BitVec.ofNat 64 (2 ^ 6 + 0x3FF * 2 ^ 20 + 4095 * 2 ^ 30 + 15 * 2 ^ 43 + 2 ^ 47))]
    let im : Image := street
    (s.Inv) ∧
    (s.blk.corr.image = some im) ∧
    (s.corrWorks = true) ∧
    (s.bit F.CORR_CTRL_COR_EN = true) ∧
    (s.blk.corr.held = none) ∧
    (let inn := rillNo (s.fld F.CORR_RILLS_EVT_IN)
     let out := rillNo (s.fld F.CORR_RILLS_COR_OUT)
     let v := (s.item inn).toNat
     let n := v / 2 ^ 6 % 2 ^ 14
     let r := im.nodes.getD n 0
     let prof := if v / 2 ^ 47 % 2 = 1 then v / 2 ^ 43 % 2 ^ 4 else nodeProfile r
     let level := s.fld (F.CORR_PROF_A_LEVEL prof)
     (s.rillOn inn = true) ∧
     ((s.rill inn).unread ≠ 0) ∧
     (s.itemClean inn) ∧
     (s.quiet inn) ∧
     (inn ≠ out) ∧
     (s.rillOn out = false) ∧
     (v / 2 ^ 30 % 2 ^ 12 = s.fld F.CORR_SEG_DS_SEGMENT) ∧
     (n < im.nodes.length) ∧
     (nodeValid r = true) ∧
     (v / 2 ^ 20 % 2 ^ 10 = 0x3FF ∨ v / 2 ^ 20 % 2 ^ 10 = nodeGroup r) ∧
     (v / 2 ^ 48 % 2 ^ 15 = 0) ∧
     (level ≠ 0)) := by decide +kernel

theorem test_witness_FaultsAndTicksComplete_1 :
    (let s : State := arranged
        [corrRuns, rillUp 6 1, cfg [(F.CORR_CTRL_FLT_EN, 1), (F.CORR_RILLS_FLT_IN, 6), (F.CORR_RILLS_FLT_OUT, 7), (F.CORR_FLT_WIN_MS, 1)],
        Op.rill 6 fun r => { r with unread := 3 }, dws 0x20000300 [2, 5 + 3 * 2 ^ 16 + 2 ^ 63, 9 + 2 ^ 63], timeIs 999999,
        Op.corr fun c => { c with faults := [⟨1, 5, 9, 3, 7, 1, 0, 0, 0, 0⟩] }]
     let a : DWord := 5 + 3 * 2 ^ 16 + 2 ^ 63
     let b : DWord := 9 + 2 ^ 63
     (s.Inv) ∧
     (let inn := rillNo (s.fld F.CORR_RILLS_FLT_IN)
      let out := rillNo (s.fld F.CORR_RILLS_FLT_OUT)
      let slot (j : Nat) : Nat := s.slotAddr inn ((s.rill inn).rd + j)
      let v := a.toNat
      let code := v % 2 ^ 16
      let subj := b.toNat % 2 ^ 63 + v / 2 ^ 34 % 2 * 2 ^ 63
      (s.corrWorks = true) ∧
      (s.bit F.CORR_CTRL_FLT_EN = true) ∧
      (s.rillOn inn = true) ∧
      (3 ≤ (s.rill inn).unread) ∧
      (s.quiet inn) ∧
      (inn ≠ out) ∧
      (s.rillOn out = false) ∧
      ((∀ j < 3, s.isValid (slot j) = true ∧ weight (s.errAt (slot j)) = 0)) ∧
      ((s.store.w64 (slot 0)).toNat % 2 ^ 16 = 2) ∧
      (s.store.w64 (slot 1) = a) ∧
      (s.store.w64 (slot 2) = b) ∧
      (let e := ⟨1, 5, 9, 3, 7, 1, 0, 0, 0, 0⟩
       (s.blk.corr.faults.find? (fun e => e.phase == 0 && e.code == code && e.subj == subj) = some e) ∧
       (code ≠ 0) ∧
       (v / 2 ^ 35 % 2 ^ 28 = 0) ∧
       (s.now < e.opened + s.fld F.CORR_FLT_WIN_MS * 10 ^ 6))) ∧
     ((s.powered .corr = true))) ∧
    (let s : State := arranged
        [corrRuns, rillUp 6 1, cfg [(F.CORR_CTRL_FLT_EN, 1), (F.CORR_RILLS_FLT_IN, 6), (F.CORR_RILLS_FLT_OUT, 7), (F.CORR_FLT_WIN_MS, 1)],
        Op.rill 6 fun r => { r with unread := 3 }, dws 0x20000300 [2, 5 + 3 * 2 ^ 16 + 2 ^ 63, 9 + 2 ^ 63], timeIs 999999,
        Op.corr fun c => { c with faults := [⟨1, 5, 9, 3, 7, 1, 0, 0, 0, 0⟩] }]
     (s.Inv) ∧
     (let tick := s.now / 10 ^ 7 * 10 ^ 7
      (s.corrWorks = true) ∧
      (s.blk.corr.held = none) ∧
      (s.bit F.CORR_CTRL_SCHED_EN = false) ∧
      (tick % 10 ^ 9 ≠ 0 ∨ s.bit F.CORR_CTRL_SOL_EN = false) ∧
      (s.rillOn (rillNo (s.fld F.CORR_RILLS_COR_OUT)) = false) ∧
      (s.rillOn (rillNo (s.fld F.CORR_RILLS_FLT_OUT)) = false))) := by decide +kernel

theorem test_witness_FaultsAndTicksComplete_2 :
    let s : State := arranged
        [corrRuns, rillUp 6 1, cfg [(F.CORR_CTRL_FLT_EN, 1), (F.CORR_RILLS_FLT_IN, 6), (F.CORR_RILLS_FLT_OUT, 7), (F.CORR_FLT_WIN_MS, 1)],
        Op.rill 6 fun r => { r with unread := 3 }, dws 0x20000300 [2, 0xFFFF + 15 * 2 ^ 16 + 2 ^ 63, 9 + 2 ^ 63]]
    let a : DWord := 0xFFFF + 15 * 2 ^ 16 + 2 ^ 63
    let b : DWord := 9 + 2 ^ 63
    (s.Inv) ∧
    (let inn := rillNo (s.fld F.CORR_RILLS_FLT_IN)
     let out := rillNo (s.fld F.CORR_RILLS_FLT_OUT)
     let slot (j : Nat) : Nat := s.slotAddr inn ((s.rill inn).rd + j)
     let v := a.toNat
     let code := v % 2 ^ 16
     let subj := b.toNat % 2 ^ 63 + v / 2 ^ 34 % 2 * 2 ^ 63
     (s.corrWorks = true) ∧
     (s.bit F.CORR_CTRL_FLT_EN = true) ∧
     (s.rillOn inn = true) ∧
     (3 ≤ (s.rill inn).unread) ∧
     (s.quiet inn) ∧
     (inn ≠ out) ∧
     (s.rillOn out = false) ∧
     ((∀ j < 3, s.isValid (slot j) = true ∧ weight (s.errAt (slot j)) = 0)) ∧
     ((s.store.w64 (slot 0)).toNat % 2 ^ 16 = 2) ∧
     (s.store.w64 (slot 1) = a) ∧
     (s.store.w64 (slot 2) = b) ∧
     (s.blk.corr.faults.find? (fun e => e.phase == 0 && e.code == code && e.subj == subj) = none) ∧
     (code ≠ 0) ∧
     (v / 2 ^ 35 % 2 ^ 28 = 0) ∧
     (s.blk.corr.faults.length < 4096)) := by decide +kernel

theorem test_witness_FaultsAndTicksComplete_3 :
    let s : State := arranged
        [corrRuns, rillUp 6 1, cfg [(F.CORR_CTRL_FLT_EN, 1), (F.CORR_RILLS_FLT_IN, 6), (F.CORR_RILLS_FLT_OUT, 7), (F.CORR_FLT_WIN_MS, 1)],
        Op.rill 6 fun r => { r with unread := 3 }, dws 0x20000300 [2, 2 ^ 63, 9 + 2 ^ 63]]
    let a : DWord := 2 ^ 63
    let b : DWord := 9 + 2 ^ 63
    (s.Inv) ∧
    (let inn := rillNo (s.fld F.CORR_RILLS_FLT_IN)
     let out := rillNo (s.fld F.CORR_RILLS_FLT_OUT)
     let slot (j : Nat) : Nat := s.slotAddr inn ((s.rill inn).rd + j)
     let v := a.toNat
     let code := v % 2 ^ 16
     (s.corrWorks = true) ∧
     (s.bit F.CORR_CTRL_FLT_EN = true) ∧
     (s.rillOn inn = true) ∧
     (3 ≤ (s.rill inn).unread) ∧
     (s.quiet inn) ∧
     (inn ≠ out) ∧
     (s.rillOn out = false) ∧
     ((∀ j < 3, s.isValid (slot j) = true ∧ weight (s.errAt (slot j)) = 0)) ∧
     ((s.store.w64 (slot 0)).toNat % 2 ^ 16 = 2) ∧
     (s.store.w64 (slot 1) = a) ∧
     (s.store.w64 (slot 2) = b) ∧
     (code = 0 ∨ v / 2 ^ 35 % 2 ^ 28 ≠ 0)) := by decide +kernel

theorem test_witness_FaultsAndTicksComplete_4 :
    let s : State := arranged [Op.corr fun c => { c with items := [7] }, rillUp 63 0, cfg [(F.CORR_SOL_CFG_RILL, 63)]]
    (s.Inv) ∧
    (let v := 7
     (s.blk.corr.items = [v]) ∧
     (s.powered .corr = true) ∧
     (s.blk.corr.held = none) ∧
     (s.blk.corr.events = []) ∧
     (let n := s.corrRill F.CORR_SOL_CFG_RILL
      (s.rillOn n = true) ∧
      (s.isPacket n = false) ∧
      ((s.rill n).pkt = none) ∧
      (s.rillFree n ≠ 0) ∧
      (s.quiet n))) := by decide +kernel

theorem test_witness_WalksAndVideoComplete :
    let s : State := arranged [showRuns 5, videoIn]
    let n : Fin 2 := 0
    let rtp : List Byte := [0x80, 0xE0, 0, 1, 0, 0, 0, 9, 0, 0, 0, 0, 0, 0, 0, 3, 0, 15, 0, 15, 1, 2, 3]
    let buf : Nat := 0
    (s.Inv) ∧
    (s.working .pmap = true) ∧
    (s.vidOn n = true) ∧
    (let len := beAt 14 2 rtp
     let line := beAt 16 2 rtp % 2 ^ 15
     let off := beAt 18 2 rtp
     let seq := beAt 12 2 rtp * 2 ^ 16 + beAt 2 2 rtp
     let a := s.vidBuf n buf + line * s.vidStride n + (if s.vidRgb n then 3 * off else 5 * off / 2)
     (rtp.length = 20 + len) ∧
     (beAt 0 1 rtp % 16 = 0) ∧
     (off < 2 ^ 15) ∧
     (line < s.vidH n) ∧
     (pixelBytes (s.vidRgb n) off + len ≤ pixelBytes (s.vidRgb n) (s.vidW n)) ∧
     ((s.ingest n).cur = none) ∧
     ((s.ingest n).expect.getD seq = seq) ∧
     (buf < 3) ∧
     ((s.ingest n).held ≠ some buf) ∧
     ((s.ingest n).newest ≠ some buf) ∧
     ((∀ b < buf, (s.ingest n).held = some b ∨ (s.ingest n).newest = some b)) ∧
     ((∀ j < len / 8 + 2, s.reaches (a / 8 * 8 + 8 * j) = true))) := by decide +kernel

theorem test_witness_ShowNetworkCompletes_1 :
    let s : State := arranged
        [showRuns 5000000, Op.setReg A.PMAP_SACN_BUF 0x80000000, Op.setReg A.PMAP_SACN_TPL 0x10002000,
        Op.shw fun h => { h with walk := some (walkOf (some ⟨63999, 63999, 512, List.replicate 3 7⟩) false) }]
    let w : Walk := walkOf (some ⟨63999, 63999, 512, List.replicate 3 7⟩) false
    (s.Inv) ∧
    (s.blk.shows.walk = some w) ∧
    (let g := ⟨63999, 63999, 512, List.replicate 3 7⟩
     (w.gather = some g) ∧
     (w.waiting = true) ∧
     (s.running .pmap = true) ∧
     (w.mapped = false) ∧
     (s.fld (F.PMAP_OCNT_COUNT w.bank) ≤ w.entry) ∧
     (s.fld (F.PMAP_PCNT_COUNT w.bank) ≤ w.point) ∧
     (let size := (256 + g.body.length + 63) / 64 * 64
      let o := if w.head + size ≤ 0x800000 then w.head else 0
      let a := (s.reg A.PMAP_SACN_BUF).toNat + o
      let tpl := (s.reg A.PMAP_SACN_TPL).toNat
      (s.ringFree o size = true) ∧
      (s.working .ethb = true) ∧
      (s.gated 3 = false) ∧
      (g.slots ≤ 512) ∧
      (g.body.length ≤ 262144) ∧
      ((∀ j < 17, s.readable (tpl / 8 * 8 + 8 * j))) ∧
      ((∀ j < size / 8, s.reaches (a + 8 * j) = true)))) := by decide +kernel

theorem test_witness_ShowNetworkCompletes_2 :
    let s : State := arranged [showRuns 5000000, Op.shw fun h => { h with walk := some (walkOf none true) }]
    let w : Walk := walkOf none true
    (s.Inv) ∧
    (s.blk.shows.walk = some w) ∧
    (w.mapped = true) ∧
    (w.done = none) ∧
    ((s.eth 1).shows.all (fun d => d.status.isSome || !(d.raw.isEmpty)) = true) := by decide +kernel

theorem test_witness_ShowNetworkCompletes_3 :
    let s : State := arranged
        [showRuns 5000000, timeIs 10000000000, cfg [(F.PMAP_SACN_CFG_DISC_EN, 1), (F.PMAP_OCNT_COUNT 0, 2)],
        Op.setReg (A.PMAP_OTAB 0) 0x10000000, Op.setReg A.PMAP_SACN_TPL 0x10002000, dws 0x10000000
        [1 + 2 ^ 16 + 63999 * 2 ^ 32 + 2 ^ 48, 1, 1 + 2 ^ 16 + 2 ^ 32 + 2 ^ 48, 1]]
    (s.Inv) ∧
    (s.working .pmap = true) ∧
    (s.bit F.PMAP_SACN_CFG_DISC_EN = true) ∧
    (s.blk.shows.disc + 10 ^ 10 ≤ s.now) ∧
    (s.working .ethb = true) ∧
    (s.gated 3 = false) ∧
    (let bank := s.fld F.PMAP_STAT_BANK
     let table := (s.reg (A.PMAP_OTAB bank)).toNat
     let tpl := (s.reg A.PMAP_SACN_TPL).toNat + 0x100
     ((∀ j < 2 * s.fld (F.PMAP_OCNT_COUNT bank), s.readable (table + 8 * j))) ∧
     (tpl % 8 = 0) ∧
     ((∀ j < 14, s.readable (tpl + 8 * j)))) := by decide +kernel

theorem test_witness_ShowOutputCompletes_1 :
    let s : State := arranged [padsUp, showRuns 7, timeIs 7]
    let T : Nat := 7
    let k : Nat := 77
    (s.Inv) ∧
    (s.flk.next = some (T, k)) ∧
    (s.working .flk = true) ∧
    (T ≤ s.now) ∧
    (s.bit F.FLK_EVT_EN = false) ∧
    (s.bit F.FLK_SYNC_EN = false) ∧
    (s.flk.after = false) ∧
    (s.blk.oxb.showHold = none) ∧
    ((s.eth 0).waiting = []) ∧
    ((s.eth 1).waiting = []) := by decide +kernel

theorem test_witness_ShowOutputCompletes_2 :
    let s : State := arranged
        [padsUp, showRuns 100000000, Op.shw fun h => { h with ports := h.ports.set 15 ⟨0, 0, some 7, 0, [], true, false, .idle⟩ }, timeIs 7]
    let p : Fin 16 := 15
    (s.Inv) ∧
    (s.powered .pxp = true) ∧
    (let q := s.port p
     (let e := 7
      (q.sends = some e) ∧
      (e ≤ s.now)) ∧
     ((q.rdm = .idle))) := by decide +kernel

theorem test_witness_ShowOutputCompletes_3 :
    let s : State := arranged
        [padsUp, showRuns 100000000, Op.shw fun h => { h with ports := h.ports.set 15 ⟨0, 0, none, 0, [], true, true, .queued⟩ }, cfg
        [(F.PXP_CFG_MODE 15, 2), (F.PXP_RDM_CTL_LEN 15, 255)], Op.setReg (A.PXP_RDM_ADDR 15) 0x10000000]
    let p : Fin 16 := 15
    (s.Inv) ∧
    (s.powered .pxp = true) ∧
    (let q := s.port p
     ((q.rdm ≠ .idle)) ∧
     (let n := s.fld (F.PXP_RDM_CTL_LEN p)
      let a := (s.reg (A.PXP_RDM_ADDR p)).toNat
      (q.rdm = .queued) ∧
      (s.working .pxp = true) ∧
      (s.gated 2 = false) ∧
      (q.dmxEnded = true) ∧
      (q.sends = none) ∧
      ((s.portNext p).all ((192 + 44 * n + 2800 + 11500) * 1000 ≤ ·) = true) ∧
      ((∀ j < n / 8 + 2, s.readable (a / 8 * 8 + 8 * j))))) := by decide +kernel

theorem test_witness_ShowOutputCompletes_4 :
    let s : State := arranged
        [padsUp, showRuns 100000000, Op.shw fun h => { h with ports := h.ports.set 15 ⟨0, 0, none, 0, [], true, true, .running 7⟩ }, cfg
        [(F.PXP_RDM_CTL_RILL 15, 63)], Op.setReg (A.PXP_RDM_ADDR 15) 0x10000000, timeIs 200000]
    let p : Fin 16 := 15
    let kind : BitVec 2 := 0
    let bytes : List Byte := List.replicate 257 7
    (s.Inv) ∧
    (s.powered .pxp = true) ∧
    (let q := s.port p
     let a := (s.reg (A.PXP_RDM_ADDR p)).toNat + 0x200
     let fin := 7
     (q.rdm = .running fin) ∧
     (rdmEndFrom fin kind ≤ s.now) ∧
     ((kind = 2 ∨ s.bankB = true)) ∧
     ((kind = 2 → bytes = [])) ∧
     (bytes.length ≤ 257) ∧
     (s.memIdle) ∧
     (s.rillOn (rillNo (s.fld (F.PXP_RDM_CTL_RILL p))) = false) ∧
     ((∀ j < bytes.length / 8 + 2, s.reaches (a / 8 * 8 + 8 * j) = true))) := by decide +kernel

theorem test_witness_FrameLockCompletes_1 :
    let s : State := arranged [padsUp, showRuns 5, Op.flk fun k => { k with want := some 0 }]
    let n : Nat := 0
    let r : BitVec 2 := 2
    (s.Inv) ∧
    (s.working .flk = true) ∧
    ((r ≠ 3)) ∧
    ((n < 3) ∧
     (s.flk.want = some n) ∧
     (s.sourceReady n = true) ∧
     (s.blk.shows.walk = none)) := by decide +kernel

theorem test_witness_FrameLockCompletes_2 :
    let s : State := arranged
        [padsUp, showRuns 5, Op.flk fun k => { k with want := some 2, ltc := ⟨some 0, some 0, List.replicate 8 16666666, 4, 0, true⟩ },
        Op.shw fun h => { h with walk := some (walkOf none true) }]
    let n : Nat := 2
    (s.Inv) ∧
    (s.working .flk = true) ∧
    (n < 3) ∧
    (s.flk.want = some n) ∧
    (s.sourceReady n = true) ∧
    (s.blk.shows.walk.isSome = true) := by decide +kernel

theorem test_witness_FrameLockCompletes_3 :
    let s : State := arranged [padsUp, showRuns 5, Op.flk fun k => { k with gen := { k.gen with edge := some 0 } }]
    (s.Inv) ∧
    (s.working .flk = true) ∧
    (s.flkSrc ≠ 1) ∧
    (s.flk.want = none) ∧
    (s.bankA = true) ∧
    (let e := 0
     (s.flk.gen.edge = some e)) := by decide +kernel

theorem test_witness_FrameLockCompletes_4 :
    let s : State := arranged
        [padsUp, showRuns 5, timeIs 117000000, Op.flk fun k => { k with ltc := ⟨some 0, some 0, List.replicate 8 16666666, 4, 6, true⟩ }]
    let ltc : Bool := true
    (s.Inv) ∧
    (s.working .flk = true) ∧
    ((s.flkSrc ≠ 1) ∧
     (s.flk.want = none) ∧
     (s.bankA = true) ∧
     (s.flk.gen.edge = none)) ∧
    (let src := if ltc then 2 else 1
     let track := s.flkTrack src
     let period := s.flkPm track
     (track.locked = true) ∧
     ((track.stamp.getD 0) * 100 * period.2 + (100 * track.misses + 102) * period.1 ≤ s.now * 100 * period.2) ∧
     (track.misses < 7)) := by decide +kernel

theorem test_witness_FrameLockCompletes_5 :
    let s : State := arranged
        [padsUp, showRuns 5, timeIs 134000000, cfg [(F.FLK_STAT_SRC, 1)],
        Op.flk fun k => { k with gen := ⟨some 0, some 0, List.replicate 8 16666666, 4, 7, true⟩ }]
    let ltc : Bool := false
    (s.Inv) ∧
    (s.working .flk = true) ∧
    (let src := if ltc then 2 else 1
     let track := s.flkTrack src
     let period := s.flkPm track
     (track.locked = true) ∧
     ((track.stamp.getD 0) * 100 * period.2 + (100 * track.misses + 102) * period.1 ≤ s.now * 100 * period.2) ∧
     (track.misses = 7) ∧
     (s.flkSrc = src)) := by decide +kernel

theorem test_witness_FrameLockCompletes_6 :
    let s : State := arranged
        [padsUp, showRuns 5, timeIs 200000000, cfg [(F.FLK_LTC_CFG_EN, 1), (F.FLK_LTC_CFG_RATE, 2), (F.FLK_STAT_LTC_LOCK, 1)]]
    (s.Inv) ∧
    (s.flkSrc ≠ 2) ∧
    (s.flk.want = none) ∧
    (let period := ltcPeriod (s.fld F.FLK_LTC_CFG_RATE)
     (s.running .flk = true) ∧
     (s.bit F.FLK_STAT_LTC_LOCK = true) ∧
     (s.flk.ltcStamp * period.2 + 4 * period.1 ≤ s.now * period.2)) := by decide +kernel

theorem test_witness_FrameLockCompletes_7 :
    let s : State := arranged
        [padsUp, showRuns 5, timeIs 200000000, cfg
        [(F.FLK_LTC_CFG_EN, 1), (F.FLK_LTC_CFG_RATE, 2), (F.FLK_CUE_RILL_EN, 1), (F.FLK_CUE_RILL_RILL, 63), (F.FLK_STAT_LTC_LOCK, 1)],
        Op.flk fun k => { k with valid := 4, newLock := false, cPrev := some 2589405, cues := [2589406, 2589407, 2589408] }]
    let hh : BitVec 6 := 23
    let mm : BitVec 6 := 59
    let ss : BitVec 6 := 59
    let ff : BitVec 6 := 29
    let reverse : Bool := false
    (s.Inv) ∧
    (s.flkSrc ≠ 2) ∧
    (s.flk.want = none) ∧
    (let rate := s.fld F.FLK_LTC_CFG_RATE
     let tm := 60 * hh.toNat + mm.toNat
     let fps := if rate = 0 then 24 else if rate = 1 then 25 else 30
     let c := fps * (3600 * hh.toNat + 60 * mm.toNat + ss.toNat) + ff.toNat - (if rate = 2 then 2 * (tm - tm / 10) else 0)
     (s.bankA = true) ∧
     (s.working .flk = true) ∧
     (s.bit F.FLK_LTC_CFG_EN = true) ∧
     (c < 2 ^ 24) ∧
     (let p := 2589405
      (s.flk.cPrev = some p) ∧
      (s.bit F.FLK_STAT_LTC_LOCK = true ∨ s.ltcFollows = true) ∧
      (reverse = false) ∧
      (s.flk.newLock = false) ∧
      (p < c) ∧
      (c ≤ p + 2) ∧
      (s.bit F.FLK_CUE_RILL_EN = true) ∧
      (s.rillOn (rillNo (s.fld F.FLK_CUE_RILL_RILL)) = false) ∧
      (let fired := s.flk.cues.filter fun q => p < q.toNat % 2 ^ 24 && q.toNat % 2 ^ 24 ≤ c
       ((s.evq .flk).length + fired.length ≤ 16) ∧
       (fired.all (!·.getLsbD 24) = true)))) := by decide +kernel

theorem test_witness_FrameLockCompletes_8 :
    let s : State := arranged [padsUp, showRuns 5, timeIs 200000000, cfg [(F.FLK_LTC_CFG_EN, 1), (F.FLK_LTC_CFG_RATE, 2)]]
    let hh : BitVec 6 := 23
    let mm : BitVec 6 := 59
    let ss : BitVec 6 := 59
    let ff : BitVec 6 := 29
    (s.Inv) ∧
    (s.flkSrc ≠ 2) ∧
    (s.flk.want = none) ∧
    (let rate := s.fld F.FLK_LTC_CFG_RATE
     let tm := 60 * hh.toNat + mm.toNat
     let fps := if rate = 0 then 24 else if rate = 1 then 25 else 30
     let c := fps * (3600 * hh.toNat + 60 * mm.toNat + ss.toNat) + ff.toNat - (if rate = 2 then 2 * (tm - tm / 10) else 0)
     (s.bankA = true) ∧
     (s.working .flk = true) ∧
     (s.bit F.FLK_LTC_CFG_EN = true) ∧
     (c < 2 ^ 24) ∧
     (s.bit F.FLK_STAT_LTC_LOCK = false) ∧
     (s.ltcFollows = false)) := by decide +kernel

theorem test_witness_RadioCommandsComplete_1 :
    let s : State := arranged [radRuns, cfg [(F.RAD_NBR_SEL_INDEX, 511)]]
    let k : Fin 8 := 7
    let v : Word := 15
    (s.Inv) ∧
    (s.powered .rad = true) ∧
    (let sel := s.fld F.RAD_NBR_SEL_INDEX
     ((s.blk.rad.queue.all (·.nbr != sel) = true) ∧
      (sel < 512)) ∧
     ((s.blk.rad.queue.all (·.key != k.val) = true) ∧
      (v.toNat % 16 = k.val + 8)) ∧
     (let base := (s.reg (A.RAD_KEY_NEXT_BASE k)).toNat
      (s.blk.rad.armed.getLsbD k = false) ∧
      (s.blk.rad.stalled.getLsbD k = false) ∧
      ((s.reg (A.RAD_KEY_CEIL k)).toNat ≤ base) ∧
      (base < v.toNat))) := by decide +kernel

theorem test_witness_RadioCommandsComplete_2 :
    let s : State := arranged [radRuns, Op.rad fun r => { r with armed := 0x80 }]
    let k : Fin 8 := 7
    let v : Word := 7
    (s.Inv) ∧
    (s.powered .rad = true) ∧
    (let base := (s.reg (A.RAD_KEY_NEXT_BASE k)).toNat
     (s.blk.rad.armed.getLsbD k = true ∨ base < (s.reg (A.RAD_KEY_CEIL k)).toNat ∨ v.toNat ≤ base)) := by decide +kernel

theorem test_witness_RadioQueuesComplete_1 :
    let s : State := arranged
        [radRuns, rillUp 5 0, Op.rillPush 5 0x103FFFC0, dws 0x103FFFC0
        [511 + 0xFF * 2 ^ 16 + 3 * 2 ^ 32, 0x10002000 + 11 * 2 ^ 32 + 3 * 2 ^ 48, 0, 0, 0, 0, 0, 0], Op.hwWrite 0x10002000 airData]
    let desc : Word := 0
    (s.Inv) ∧
    (let n := rillNo (s.fld F.RAD_RILLS_TXREQ)
     let a := (s.item n).toNat % 2 ^ 32
     let at' (x m : Nat) : List Byte := (List.range m).map fun j => BitVec.ofNat 8 (s.byteAt (x + j))
     let u (o w : Nat) : Nat := leNat (at' (a + o) w)
     let g : RadFrame := { desc := a, nbr := u 0 2, key := u 2 1, level := u 3 1, flags := u 4 1, retries := u 5 1, expire := u 0x10 8,
                           hdr := at' (u 8 4) (u 0x0C 2), payload := at' (u 8 4 + u 0x0C 2) (u 0x0E 2), since := s.now, tries := 0,
                           fc := none, seq := none }
     (s.working .rad = true) ∧
     (s.blk.rad.done = []) ∧
     (s.rillFree (rillNo (s.fld F.RAD_RILLS_TXDONE)) ≠ 0) ∧
     (s.blk.rad.queue.length < 1024) ∧
     (s.rillOn n = true) ∧
     ((s.rill n).unread ≠ 0) ∧
     (s.itemClean n) ∧
     (s.quiet n) ∧
     (a % 64 = 0) ∧
     ((∀ j < 8, s.readable (a + 8 * j))) ∧
     ((∀ j < (u 0x0C 2 + u 0x0E 2) / 8 + 2, s.readable (u 8 4 / 8 * 8 + 8 * j))) ∧
     (radDescOk (at' a 64) = true) ∧
     (s.headerOk g.key g.level g.hdr.length g.hdr = true) ∧
     (((s.radiosTo g.nbr).isEmpty = true ∨ (s.radiosTo g.nbr).any (fun r => s.frameLen g r ≤ s.frameLimit r) = true))) := by decide +kernel

theorem test_witness_RadioQueuesComplete_2 :
    let s : State := arranged [radRuns, queued (radFrame 0 59999999), rillUp 6 0]
    let desc : Word := 0x10000040
    let f : RadFrame := radFrame 0 59999999
    (s.Inv) ∧
    (let txdone := rillNo (s.fld F.RAD_RILLS_TXDONE)
     (s.powered .rad = true) ∧
     (s.waitingFrame desc.toNat = some f) ∧
     (f.desc = desc.toNat) ∧
     (desc.toNat % 64 = 0) ∧
     (s.reaches (desc.toNat + 0x20) = true) ∧
     (s.blk.rad.done = []) ∧
     (s.takes txdone) ∧
     (f.expire ≠ 0) ∧
     (f.expire < s.now)) := by decide +kernel

theorem test_witness_RadioQueuesComplete_3 :
    let s : State := arranged [radRuns, queued (radFrame 0 1), rillUp 6 0, Op.setNbrFlag 511 2 true, cfg [(F.RAD_SLEEPY_MAXAGE, 0)]]
    let desc : Word := 0x10000040
    let f : RadFrame := radFrame 0 1
    (s.Inv) ∧
    (let txdone := rillNo (s.fld F.RAD_RILLS_TXDONE)
     (s.powered .rad = true) ∧
     (s.waitingFrame desc.toNat = some f) ∧
     (f.desc = desc.toNat) ∧
     (desc.toNat % 64 = 0) ∧
     (s.reaches (desc.toNat + 0x20) = true) ∧
     (s.blk.rad.done = []) ∧
     (s.takes txdone) ∧
     (s.nbrFlag f.nbr 2 = true) ∧
     (f.since + s.fld F.RAD_SLEEPY_MAXAGE * 10 ^ 9 < s.now)) := by decide +kernel

theorem test_witness_RadioQueuesComplete_4 :
    let s : State := arranged [radRuns, rillUp 7 0, Op.rillPush 7 5]
    (s.Inv) ∧
    (let n := rillNo (s.fld F.RAD_RILLS_RXFREE)
     (s.working .rad = true) ∧
     (s.rillOn n = true) ∧
     ((s.rill n).unread ≠ 0) ∧
     (s.itemClean n) ∧
     (s.quiet n)) := by decide +kernel

theorem test_witness_RadioScheduleComplete_1 :
    let s : State := arranged [radRuns, cfg [(F.RAD_NBR_SEL_INDEX, 511)]]
    (s.Inv) ∧
    (s.powered .rad = true) ∧
    (s.bit F.RAD_STAT_CALBUSY = false) ∧
    (s.fld F.MEM_MAINT_STAT_GRANT = 0) ∧
    ((∀ a ∈ [1, 2, 3], s.maintQueued a = false)) := by decide +kernel

theorem test_witness_RadioScheduleComplete_2 :
    let s : State := arranged [radRuns, cfg [(F.RAD_SYNC_PARENT, 511)], Op.rad fun r => { r with asn := some 6 }]
    let p : BitVec 10 := 511
    (s.Inv) ∧
    (s.powered .rad = true) ∧
    (s.blk.rad.asn = s.slotNow) ∧
    (p.toNat < 512) ∧
    (s.fld F.RAD_SYNC_PARENT < 512) := by decide +kernel

theorem test_witness_RadioScheduleComplete_3 :
    let s : State := arranged
        [radRuns, Op.rad fun r => { r with loading := some 1 }, Op.setReg A.RAD_SCHED_BASE1 0x10008000,
        dws 0x10008000 ([1 + 2 ^ 8 + 2 ^ 16, 7, 0, 0, 0, 0, 0, 0, 127] ++ List.replicate 15 0 ++ [26] ++ List.replicate 7 0 ++
        [0x00001FF010000006])]
    (s.Inv) ∧
    (let b := 1
     (s.blk.rad.loading = some b) ∧
     (let a := (s.reg (if b = 0 then A.RAD_SCHED_BASE0 else A.RAD_SCHED_BASE1)).toNat
      let w := (s.dword a).toNat
      let hops (o m : Nat) : List Nat := (List.range m).map fun j => s.byteAt (a + o + j)
      let sub := hops 0x40 (w % 2 ^ 8)
      let ghz := hops 0xC0 (w / 2 ^ 8 % 2 ^ 5)
      let frames := (List.range 4).map fun i => (s.dword (a + 8 + 8 * i)).toNat
      let cells := (List.range (w / 2 ^ 16 % 2 ^ 12)).map fun j => s.dword (a + 0x100 + 8 * j)
      (s.powered .rad = true) ∧
      (a % 64 = 0) ∧
      (w / 2 ^ 13 % 2 ^ 3 = 0) ∧
      (w / 2 ^ 28 = 0) ∧
      (sub ≠ []) ∧
      (sub.length ≤ 128) ∧
      (ghz ≠ []) ∧
      (ghz.length ≤ 16) ∧
      (cells.length ≤ 2048) ∧
      ((∀ c ∈ sub, c < 128)) ∧
      ((∀ c ∈ ghz, 11 ≤ c ∧ c ≤ 26)) ∧
      ((∀ l ∈ frames, l < 2 ^ 16)) ∧
      ((∀ j < 32 + cells.length, s.readable (a + 8 * j))) ∧
      (cells.all (cellOk frames) = true))) := by decide +kernel

theorem test_witness_RadioScheduleComplete_4 :
    let s : State := arranged [radRuns, cfg [(F.RAD_STAT_SCANNING, 1), (F.RAD_SCAN_DWELL, 60)], Op.rad fun r => { r with bank := some cellBank }]
    (s.Inv) ∧
    (let bank := cellBank
     (s.blk.rad.bank = some bank) ∧
     (s.running .rad = true) ∧
     (s.bit F.RAD_STAT_SCANNING = true) ∧
     (s.blk.rad.scanSince + s.fld F.RAD_SCAN_DWELL * 10 ^ 6 ≤ s.now) ∧
     (bank.sub ≠ [])) := by decide +kernel

theorem test_witness_RadioScheduleComplete_5 :
    let s : State := arranged
        [radRuns, rillUp 8 0, timeIs 300000000, Op.setNbrFlag 511 0 true, Op.putBytes (nbrKey 511 0x10) (leBytes 2 (1)),
        Op.putBytes (nbrKey 511 0x38) (leBytes 8 (0))]
    let n : Fin 512 := 511
    (s.Inv) ∧
    (let ka := s.nbr n 0x10 2
     let evt := rillNo (s.fld F.RAD_RILLS_EVT)
     (s.running .rad = true) ∧
     (s.bit F.RAD_CTRL_ROLE = false) ∧
     (s.nbrFlag n 0 = true) ∧
     (s.nbrFlag n 3 = false) ∧
     (ka ≠ 0) ∧
     (s.nbr n 0x38 8 + 3 * ka * 10 ^ 8 ≤ s.now) ∧
     (s.takes evt) ∧
     (s.evq .rad = [])) := by decide +kernel

theorem test_witness_RadioScheduleComplete_6 :
    let s : State := arranged [radRuns, rillUp 8 0, cfg [(F.MEM_MAINT_STAT_GRANT, 4)], Op.rad fun r => { r with calRuns := true, cal := 3 }]
    (s.Inv) ∧
    (let evt := rillNo (s.fld F.RAD_RILLS_EVT)
     (s.powered .rad = true) ∧
     (s.blk.rad.calRuns = true) ∧
     (s.fld F.MEM_MAINT_STAT_GRANT = 4) ∧
     (s.blk.rad.cal < 4) ∧
     (s.takes evt) ∧
     (s.evq .rad = [])) := by decide +kernel

theorem test_witness_RadioAirCompletes_1 :
    let s : State := arranged [radRuns, rillUp 6 0, Op.rad fun r => { r with bank := some cellBank }, queued (radFrame 0 0)]
    let late : BitVec 3 := 6
    let bank : Bank := cellBank
    let slot : Nat := 6
    let c : DWord := 0x00001FF010000006
    let f : RadFrame := radFrame 0 0
    (s.Inv) ∧
    (let asn := slot % 2 ^ 40
     let txdone := rillNo (s.fld F.RAD_RILLS_TXDONE)
     (s.working .rad = true) ∧
     (s.bit F.RAD_CTRL_ROLE = false) ∧
     (s.slotNow = some slot) ∧
     (s.blk.rad.asn ≠ some slot) ∧
     (s.blk.rad.acts = Vector.replicate 3 .idle) ∧
     (s.blk.rad.done = []) ∧
     (s.blk.rad.next = none) ∧
     (s.blk.rad.bank = some bank) ∧
     (s.bit F.OXB_CFG_AUTOSAFE = false) ∧
     (s.fld F.RAD_CTRL_RADIO_EN = 1) ∧
     (s.gated 0 = false) ∧
     (s.blk.rad.calRuns = false) ∧
     (late.getLsbD 0 = false) ∧
     ((bank.cellsAt asn 0).head? = some c) ∧
     (cellTx c = true) ∧
     (cellShared c = false) ∧
     (cellPolled c = false) ∧
     (cellAdv c = false) ∧
     (s.blk.rad.queue.find? (·.nbr == cellNbr c) = some f) ∧
     (f.key = 0xFF) ∧
     (f.flags = 0) ∧
     (s.nbrFlag f.nbr 2 = false) ∧
     (f.expire = 0) ∧
     (s.frameLen f 0 ≤ s.frameLimit 0) ∧
     ((bank.cellsAt asn 0).all (fun d => !(cellTx d && cellShared d)) = true) ∧
     (s.reaches (f.desc / 8 * 8 + 0x20) = true) ∧
     (s.takes txdone) ∧
     (f.desc < 2 ^ 32)) := by decide +kernel

theorem test_witness_RadioAirCompletes_2 :
    let s : State := arranged
        [radRuns, rillUp 9 0, Op.setReg A.RAD_RXBUF_BASE 0x80000000,
        Op.rad fun r => { r with bufs := [65535, 3], acts := r.acts.set 0 (.listens 511 1 59999990 10 0 0 false false false) }]
    let r : Fin 3 := 0
    let psdu : List Byte := airData
    let sof : BitVec 64 := 60000000
    let m : Mhr := (parseMhr none airData).get (by decide)
    let buf : Nat := 65535
    let bufs : List Nat := [3]
    (s.Inv) ∧
    (s.running .rad = true) ∧
    (s.bit F.RAD_STAT_SCANNING = false) ∧
    (sof.toNat ≤ s.now) ∧
    (s.blk.rad.bufs = buf :: bufs) ∧
    (psdu.length + s.fcsLen r ≤ s.frameLimit r) ∧
    (parseMhr none psdu = some m) ∧
    (m.version = 2) ∧
    (m.ftype = 1) ∧
    (m.sec = false) ∧
    (m.ackReq = false) ∧
    (s.forUs m = true) ∧
    (s.sender m = none) ∧
    (s.classOf 1 (psdu.drop m.len) = none) ∧
    (m.len ≤ psdu.length) ∧
    (let rill := rillNo (s.fld F.RAD_RX_CFG_DEFRILL)
     (s.blk.rad.arrived.all (·.rill != s.fld F.RAD_RX_CFG_DEFRILL) = true) ∧
     (let a := (s.reg A.RAD_RXBUF_BASE).toNat + 2112 * buf
      (s.takes rill) ∧
      ((∀ j < 64 + psdu.length, s.reaches (a + j) = true)) ∧
      ∀ listen ∈ (match s.blk.rad.acts[r] with
             | .listens _ chan centre half _ _ _ _ got => [(chan, centre, half, got)]
             | _ => []),
      (listen.2.2.2 = false) ∧
      (((sof.toNat : Int) - listen.2.1).natAbs ≤ listen.2.2.1) ∧
      (buf < 2 ^ 16))) := by decide +kernel

theorem test_witness_EthernetCompletes_1 :
    let s : State := arranged [sends (sendOf 0 0 none)]
    let x : Fin 2 := 1
    let q : Fin 4 := 3
    let d : Send := sendOf 0 0 none
    (s.Inv) ∧
    (let p := s.eth x
     ∀ c ∈ [(Instr.ethSingleFrame x q.castSucc, 0)],
     (d.d.kind = c.2) ∧
     (p.tx[q] = some d) ∧
     (d.status = none) ∧
     (d.raw = []) ∧
     (d.sent < d.d.frames) ∧
     (s.running (ethBlock x) = true) ∧
     (s.linkUp x = true) ∧
     (s.paused x = false) ∧
     (s.txFirst x (.queue q) = true) ∧
     (p.launch = none) ∧
     ((s.eth 0).waiting = []) ∧
     ((s.eth 1).waiting = []) ∧
     ((∀ j < d.d.hlen / 8 + 2, s.readable (d.d.hdr / 8 * 8 + 8 * j))) ∧
     ((∀ j < d.d.blen / 8 + 2, s.readable (d.d.body / 8 * 8 + 8 * j)))) := by decide +kernel

theorem test_witness_EthernetCompletes_2 :
    let s : State := arranged [sends (sendOf 0 0 (some 5)), rillUp 63 0]
    let x : Fin 2 := 1
    let q : Fin 4 := 3
    let d : Send := sendOf 0 0 (some 5)
    (s.Inv) ∧
    (let p := s.eth x
     let st := 5
     (d.status = some st) ∧
     (let done := rillNo (s.fld (F.ETH_TQ_CFG_DONE x q))
      (p.tx[q] = some d) ∧
      (d.written = false) ∧
      (d.d.flag 3 = false) ∧
      (s.powered (ethBlock x) = true) ∧
      (d.addr % 64 = 0) ∧
      (d.addr < 2 ^ 32) ∧
      (s.reaches (d.addr + 0x30) = true) ∧
      (s.takes done) ∧
      ((s.eth 0).waiting = []) ∧
      ((s.eth 1).waiting = []))) := by decide +kernel

theorem test_witness_EthernetCompletes_3 :
    let s : State := arranged [cfg [(F.ETH_STAT_PAUSED 1, 1), (F.ETH_CFG_IF 1, 1), (F.ETHA_MDIO_STAT_BUSY, 1)]]
    let x : Fin 2 := 1
    (s.Inv) ∧
    (let p := s.eth x
     ((s.powered (ethBlock x) = true) ∧
      ((s.paused x = true) ∧
       (p.pauseEnd ≤ s.now) ∧
       (p.launchLate = []) ∧
       ((s.eth 0).waiting = []) ∧
       ((s.eth 1).waiting = [])) ∧
      ((s.fld (F.ETH_CFG_IF x) ≠ 0) ∧
       ((s.eth 0).waiting = []) ∧
       ((s.eth 1).waiting = []))) ∧
     ((s.powered .etha = true) ∧
      (s.bit F.ETHA_MDIO_STAT_BUSY = true))) := by decide +kernel

theorem test_witness_EthernetCompletes_4 :
    let s : State := arranged [receives]
    let x : Fin 2 := 1
    let f : List Byte := frameOf 59
    (s.Inv) ∧
    (s.working (ethBlock x) = true) ∧
    (f.length < 60) := by decide +kernel

theorem test_witness_EthernetCompletes_5 :
    let s : State := arranged [receives]
    let x : Fin 2 := 1
    let f : List Byte := frameOf 125
    (s.Inv) ∧
    (s.working (ethBlock x) = true) ∧
    (60 ≤ f.length) ∧
    (s.fld (F.ETH_CFG_MAXLEN x) < f.length + 4) := by decide +kernel

theorem test_witness_EthernetCompletes_6 :
    let s : State := arranged [receives]
    let x : Fin 2 := 1
    let f : List Byte := frameOf 60
    (s.Inv) ∧
    (s.working (ethBlock x) = true) ∧
    (let fits := 60 ≤ f.length ∧ f.length + 4 ≤ s.fld (F.ETH_CFG_MAXLEN x)
     (fits) ∧
     (s.bit F.ETHA_BR_CFG_FWD = false)) := by decide +kernel

theorem test_witness_EthernetCompletes_7 :
    let s : State := arranged [receives]
    let x : Fin 2 := 1
    let f : List Byte := 0 :: frameOf 60
    (s.Inv) ∧
    (s.working (ethBlock x) = true) ∧
    (let be (o n : Nat) : Nat := ((f.drop o).take n).foldl (fun v b => 256 * v + b.toNat) 0
     let own := s.fld (F.ETH_MAC_HI_ADDR x) * 2 ^ 32 + s.fld (F.ETH_MAC_LO_ADDR x)
     let fits := 60 ≤ f.length ∧ f.length + 4 ≤ s.fld (F.ETH_CFG_MAXLEN x)
     (fits) ∧
     (be 12 2 ≠ 0x8808) ∧
     (be 12 2 ≠ 0x8100) ∧
     (s.bit F.ETHA_BR_CFG_FWD = false) ∧
     (be 0 6 ≠ own) ∧
     (be 0 6 / 2 ^ 40 % 2 = 0)) := by decide +kernel

theorem test_witness_EthernetCompletes_8 :
    let s : State := arranged
        [receives, rillUp 63 0, Op.setReg (A.ETH_RQ_BASE 1 0) 0x10000000, Op.eth 1 fun p => { p with inHand := p.inHand.set 0 (some 7) }]
    let x : Fin 2 := 1
    let f : List Byte := frameOf 124
    let full : Bool := false
    let i : Nat := 7
    (s.Inv) ∧
    (s.working (ethBlock x) = true) ∧
    (let be (o n : Nat) : Nat := ((f.drop o).take n).foldl (fun v b => 256 * v + b.toNat) 0
     let own := s.fld (F.ETH_MAC_HI_ADDR x) * 2 ^ 32 + s.fld (F.ETH_MAC_LO_ADDR x)
     let fits := 60 ≤ f.length ∧ f.length + 4 ≤ s.fld (F.ETH_CFG_MAXLEN x)
     (fits) ∧
     (be 12 2 ≠ 0x8808) ∧
     (be 12 2 ≠ 0x8100) ∧
     (s.bit F.ETHA_BR_CFG_FWD = false) ∧
     (be 0 6 = own) ∧
     (own / 2 ^ 40 % 2 = 0) ∧
     (be 12 2 ≠ 0x0800) ∧
     (s.bit (F.ETH_PTPQ_EN x) = false) ∧
     ((∀ r < 16, s.bit (F.ETH_RULE_A_EN x r) = false)) ∧
     (s.bit (F.ETH_RQ_CFG_EN x 0) = true) ∧
     ((s.eth x).inHand[0] = some i) ∧
     (full = false) ∧
     (f.length + 32 ≤ 2048) ∧
     ((s.eth x).items.all (·.1 != 0) = true) ∧
     (let done := rillNo (s.fld (F.ETH_RQ_CFG_DONE x 0))
      let a := (s.reg (A.ETH_RQ_BASE x 0)).toNat + i * (if s.bit (F.ETH_RQ_CFG_BIG x 0) then 10240 else 2048)
      (s.takes done) ∧
      ((∀ j < 32 + f.length, s.reaches (a + j) = true)) ∧
      (a % 8 = 0))) := by decide +kernel

theorem test_witness_EthernetCompletes_9 :
    let s : State := arranged [receives]
    let x : Fin 2 := 1
    let f : List Byte := [1, 0x80, 0xC2, 0, 0, 1, 9, 8, 7, 6, 5, 4, 0x88, 8, 0, 1] ++ List.replicate 44 0
    let full : Bool := true
    (s.Inv) ∧
    (s.working (ethBlock x) = true) ∧
    (let be (o n : Nat) : Nat := ((f.drop o).take n).foldl (fun v b => 256 * v + b.toNat) 0
     let fits := 60 ≤ f.length ∧ f.length + 4 ≤ s.fld (F.ETH_CFG_MAXLEN x)
     (fits) ∧
     (be 12 2 = 0x8808) ∧
     (full = true)) := by decide +kernel

theorem test_witness_EthernetCompletes_10 :
    let s : State := arranged [receives]
    let x : Fin 2 := 1
    let f : List Byte := [1, 0x80, 0xC2, 0, 0, 1, 9, 8, 7, 6, 5, 4, 0x88, 8, 0, 1] ++ List.replicate 44 0
    let full : Bool := false
    (s.Inv) ∧
    (s.working (ethBlock x) = true) ∧
    (let be (o n : Nat) : Nat := ((f.drop o).take n).foldl (fun v b => 256 * v + b.toNat) 0
     let fits := 60 ≤ f.length ∧ f.length + 4 ≤ s.fld (F.ETH_CFG_MAXLEN x)
     (fits) ∧
     (be 12 2 = 0x8808) ∧
     (full = false) ∧
     (be 14 2 = 1) ∧
     (be 0 6 = 0x0180C2000001) ∧
     ((be 16 2 = 0 → (s.eth x).launchLate = [] ∧ (s.eth 0).waiting = [] ∧ (s.eth 1).waiting = []))) := by decide +kernel

theorem test_witness_NetworkTimeCompletes_1 :
    let s : State := arranged []
    let sel : BitVec 2 := 0
    (s.Inv) ∧
    (s.powered .tsu = true) ∧
    (s.bit F.TSU_EVT_EN = false) ∧
    (let using_ := s.fld F.TSU_STAT_SEL
     let arg : Nat := (s.reg A.TSU_ARG_HI).toNat * 2 ^ 32 + (s.reg A.TSU_ARG_LO).toNat
     let alone := s.met.interval = none ∧ s.running .flk = false ∧ s.bit F.BON_CFG_FOLLOW = false ∧
       ∀ c : CoreId, (match (s.core c).run with | .timeWait _ _ => false | _ => true) = true
     ((alone) ∧
      (0 ≤ (s.now : Int) + (BitVec.ofNat 64 arg).toInt) ∧
      ((s.now : Int) + (BitVec.ofNat 64 arg).toInt < 2 ^ 64)) ∧
     ((sel.toNat = using_ ∨ s.running .tsu = false))) := by decide +kernel

theorem test_witness_NetworkTimeCompletes_2 :
    let s : State := arranged [cfg [(F.TSU_STAT_SEL, 1), (Block.tsu.run, 1)]]
    let k : Fin 3 := 0
    let sel : BitVec 2 := 0
    (s.Inv) ∧
    (s.powered .tsu = true) ∧
    (s.bit F.TSU_EVT_EN = false) ∧
    (let q := s.tsu.trk[k]
     let using_ := s.fld F.TSU_STAT_SEL
     ((using_ = k.val + 1) ∧
      (q.n = 0)) ∧
     ((s.running .tsu = true) ∧
      (sel = 0) ∧
      (using_ ≠ 0))) := by decide +kernel

theorem test_witness_NetworkTimeCompletes_3 :
    let s : State := arranged [cfg [(Block.tsu.run, 1), (F.TSU_STAT_SET, 1)], cfg [(F.TSU_LOCK_N, 2)]]
    let k : Fin 3 := 1
    (s.Inv) ∧
    (s.powered .tsu = true) ∧
    (s.bit F.TSU_EVT_EN = false) ∧
    (let q := s.tsu.trk[k]
     let st := s.fld ⟨A.TSU_STAT, 8 + 3 * k.val, 3⟩
     let using_ := s.fld F.TSU_STAT_SEL
     (s.running .tsu = true) ∧
     (k.val ≠ 2) ∧
     (s.tsu.want = none) ∧
     (q.n = 0) ∧
     (st = 0) ∧
     (using_ ≠ k.val + 1) ∧
     (1 < s.fld F.TSU_LOCK_N)) := by decide +kernel

theorem test_witness_NetworkTimeCompletes_4 :
    let s : State := arranged
        [cfg [(Block.tsu.run, 1), (F.TSU_STAT_SET, 1)], timeIs 2000000000, cfg [(F.TSU_STAT_SEL, 2), (⟨A.TSU_STAT, 11, 3⟩, 2)],
        Op.setReg (A.TSU_T_MT_LO 1) 1000000001, Op.setReg (A.TSU_T_MO_LO 1) 0xFFFFFFFF,
        Op.tsu fun u => { u with trk := u.trk.set 1 { u.trk[1] with n := 15, t := 1000000000 } }]
    let k : Fin 3 := 1
    (s.Inv) ∧
    (s.powered .tsu = true) ∧
    (s.bit F.TSU_EVT_EN = false) ∧
    (let q := s.tsu.trk[k]
     let st := s.fld ⟨A.TSU_STAT, 8 + 3 * k.val, 3⟩
     let using_ := s.fld F.TSU_STAT_SEL
     (let at' : Nat := (s.reg (A.TSU_T_MT_HI k)).toNat * 2 ^ 32 + (s.reg (A.TSU_T_MT_LO k)).toNat
      (s.running .tsu = true) ∧
      (k.val ≠ 2) ∧
      (s.tsu.want = none) ∧
      (q.n ≠ 0) ∧
      (q.t < at') ∧
      (st = 2) ∧
      (using_ = k.val + 1)) ∧
     ((s.running .tsu = true) ∧
      (st ≠ 0) ∧
      (st ≠ 4) ∧
      (q.seen + s.fld (F.TSU_T_CFG_TIMEOUT k) * 10 ^ 6 ≤ s.now) ∧
      (using_ ≠ k.val + 1 ∨ s.bit F.TSU_SRC_AUTO = false))) := by decide +kernel

theorem test_witness_NetworkTimeCompletes_5 :
    let s : State := arranged
        [cfg [(Block.tsu.run, 1), (F.TSU_STAT_SET, 1)], timeIs 2000000000, Op.setReg (A.TSU_T_MT_LO 1) 1000000000,
        Op.tsu fun u => { u with trk := u.trk.set 1 { u.trk[1] with n := 15, t := 1000000000 } }]
    let k : Fin 3 := 1
    (s.Inv) ∧
    (s.powered .tsu = true) ∧
    (s.bit F.TSU_EVT_EN = false) ∧
    (let q := s.tsu.trk[k]
     let at' : Nat := (s.reg (A.TSU_T_MT_HI k)).toNat * 2 ^ 32 + (s.reg (A.TSU_T_MT_LO k)).toNat
     (s.running .tsu = true) ∧
     (k.val ≠ 2) ∧
     (s.tsu.want = none) ∧
     (q.n ≠ 0) ∧
     (at' ≤ q.t)) := by decide +kernel

theorem test_witness_NetworkTimeCompletes_6 :
    let s : State := arranged [cfg [(Block.tsu.run, 1), (F.TSU_STAT_SET, 1)], cfg [(F.TSU_STAT_SEL, 1)]]
    let k : Fin 3 := 1
    let sel : BitVec 2 := 2
    (s.Inv) ∧
    (s.powered .tsu = true) ∧
    (s.bit F.TSU_EVT_EN = false) ∧
    (let st := s.fld ⟨A.TSU_STAT, 8 + 3 * k.val, 3⟩
     let using_ := s.fld F.TSU_STAT_SEL
     (s.running .tsu = true) ∧
     (sel.toNat = k.val + 1) ∧
     (using_ ≠ 0) ∧
     (using_ ≠ k.val + 1) ∧
     (st ≠ 2) ∧
     (st ≠ 3)) := by decide +kernel

theorem test_witness_NetworkTimeCompletes_7 :
    let s : State := arranged [padsUp, timeIs 500000000, cfg [(F.TSU_PPSI_EN, 1)], Op.tsu fun u => { u with ppsEdge := some 0 }]
    (s.Inv) ∧
    (s.powered .tsu = true) ∧
    (s.bit F.TSU_EVT_EN = false) ∧
    (s.bankA = true) ∧
    (s.running .tsu = false) ∧
    (s.bit F.TSU_PPSI_EN = true) ∧
    (s.tsu.ppsEdge.all (· + 5 * 10 ^ 8 ≤ s.now) = true) := by decide +kernel

theorem test_witness_NetworkTimeCompletes_8 :
    let s : State := arranged [padsUp, cfg [(Block.tsu.run, 1), (F.TSU_STAT_SET, 1)], cfg [(F.TSU_PPSI_EN, 1), (F.TSU_LOCK_N, 2)]]
    (s.Inv) ∧
    (s.powered .tsu = true) ∧
    (s.bit F.TSU_EVT_EN = false) ∧
    (let using_ := s.fld F.TSU_STAT_SEL
     let z := s.tsu.trk[(2 : Fin 3)]
     (s.bankA = true) ∧
     (s.running .tsu = true) ∧
     (s.bit F.TSU_PPSI_EN = true) ∧
     (s.tsu.ppsEdge = none) ∧
     (z.n = 0) ∧
     (s.fld F.TSU_STAT_ST2 = 0) ∧
     (using_ ≠ 3) ∧
     (s.tsu.want = none) ∧
     (1 < s.fld F.TSU_LOCK_N) ∧
     (s.now < 2 ^ 64)) := by decide +kernel

theorem test_witness_NetworkTimeCompletes_9 :
    let s : State := arranged [padsUp, cfg [(Block.tsu.run, 1), (F.TSU_STAT_SET, 1)], timeIs 1000000000, cfg [(F.TSU_PPSI_EN, 1)]]
    (s.Inv) ∧
    (s.powered .tsu = true) ∧
    (s.bit F.TSU_EVT_EN = false) ∧
    (s.bit F.TSU_PPSI_EN = true) ∧
    (s.tsu.ppsRef + 10 ^ 9 ≤ s.now) := by decide +kernel

theorem test_witness_NetworkTimeCompletes_10 :
    let s : State := arranged [cfg [(Block.tsu.run, 1), (F.TSU_STAT_SET, 1)], timeIs 1000000004, cfg [(F.TSU_PPSO_EN, 1)]]
    (s.Inv) ∧
    (s.powered .tsu = true) ∧
    (s.bit F.TSU_EVT_EN = false) ∧
    (s.bit F.TSU_STAT_SET = true) ∧
    (s.bit F.TSU_PPSO_EN = true) ∧
    (((s.now : Int) - (s.reg A.TSU_PPSO_OFS).toInt) % 10 ^ 9 < 5) := by decide +kernel

theorem test_witness_NetworkTimeCompletes_11 :
    let s : State := arranged
        [cfg [(Block.tsu.run, 1), (F.TSU_STAT_SET, 1)], timeIs 1000000, cfg [(F.TSU_PPSO_WIDTH, 1)], Op.tsu fun u => { u with ppsOut := some 0 }]
    (s.Inv) ∧
    (s.powered .tsu = true) ∧
    (s.bit F.TSU_EVT_EN = false) ∧
    (let rise := 0
     (s.tsu.ppsOut = some rise) ∧
     (rise + s.fld F.TSU_PPSO_WIDTH * 10 ^ 6 ≤ s.now)) := by decide +kernel

theorem test_witness_CabinetBusCompletes_1 :
    (let s : State := arranged
        [padsUp, cfg [(Block.can.run, 1), (F.CAN_STAT_SYNCED, 1), (F.CAN_RILLS_RX, 5), (F.CAN_RILLS_TXDONE, 6), (F.CAN_RILLS_EVT, 8)],
        Op.setReg A.CAN_TX_PEND 0x80000000, rillUp 6 0, Op.can fun c => { c with sof := [(31, 7)] }]
     let e : Fin 32 := 31
     let v : Word := 0x80000000
     let sof : Nat := 7
     (s.Inv) ∧
     (s.powered .can = true) ∧
     (let done := rillNo (s.fld F.CAN_RILLS_TXDONE)
      let hasItem := s.takes done ∧ s.blk.can.items = [] ∧ s.blk.can.sof = [(e.val, sof)]
      ((s.bankA = true) ∧
       (s.receives = true) ∧
       (s.mayStart = false ∨ s.blk.can.cur = none)) ∧
      (((∀ i < 32, v.getLsbD i = true → s.txPending i = true ∨ s.txBad i = false))) ∧
      ((s.mayStart = true) ∧
       (s.txPending e = true) ∧
       ((∀ i < 32, s.txPending i = true → s.arbitration e < s.arbitration i ∨ (s.arbitration e = s.arbitration i ∧ e.val ≤ i)))) ∧
      ((s.reg A.CAN_TX_PEND = BitVec.twoPow 32 e.val) ∧
       (v = BitVec.twoPow 32 e.val) ∧
       ∀ c ∈ [Instr.canTxCancel v, .abortall],
       (s.blk.can.cur ≠ some e.val) ∧
       (hasItem)))) ∧
    (let s : State := arranged
        [padsUp, cfg [(Block.can.run, 1), (F.CAN_STAT_SYNCED, 1), (F.CAN_RILLS_RX, 5), (F.CAN_RILLS_TXDONE, 6), (F.CAN_RILLS_EVT, 8)],
        Op.setReg A.CAN_TX_PEND 0x80000000, rillUp 6 0, Op.can fun c => { c with sof := [(31, 7)] }]
     (s.Inv) ∧
     (s.powered .can = true) ∧
     (let evt := rillNo (s.fld F.CAN_RILLS_EVT)
      let hears := s.onBus = true ∧ s.busOff = false
      ((hears) ∧
       (s.bit F.CAN_STAT_TXING = false) ∧
       (s.blk.can.items = []) ∧
       (s.working .rill = true) ∧
       (s.rillEn evt = false)) ∧
      ((s.running .can = true)))) := by decide +kernel

theorem test_witness_CabinetBusCompletes_2 :
    let s : State := arranged
        [padsUp, cfg [(Block.can.run, 1), (F.CAN_STAT_SYNCED, 1), (F.CAN_RILLS_RX, 5), (F.CAN_RILLS_TXDONE, 6), (F.CAN_RILLS_EVT, 8)],
        Op.setReg A.CAN_TX_PEND 0x80000000, rillUp 6 0, Op.can fun c => { c with sof := [(31, 7)] }, Op.can fun c => { c with cur := some 31 }]
    let e : Fin 32 := 31
    (s.Inv) ∧
    (s.powered .can = true) ∧
    (s.mayStart = true) ∧
    (s.blk.can.cur = some e.val) := by decide +kernel

theorem test_witness_CabinetBusCompletes_3 :
    let s : State := arranged
        [padsUp, cfg [(Block.can.run, 1), (F.CAN_STAT_SYNCED, 1), (F.CAN_RILLS_RX, 5), (F.CAN_RILLS_TXDONE, 6), (F.CAN_RILLS_EVT, 8)],
        Op.setReg A.CAN_TX_PEND 0x80000000, rillUp 6 0, Op.can fun c => { c with sof := [(31, 7)] }, cfg [(F.CAN_STAT_TXING, 1)],
        Op.can fun c => { c with cur := some 31 }]
    let e : Fin 32 := 31
    let v : Word := 0x80000000
    let sof : Nat := 7
    (s.Inv) ∧
    (s.powered .can = true) ∧
    (let done := rillNo (s.fld F.CAN_RILLS_TXDONE)
     let hasItem := s.takes done ∧ s.blk.can.items = [] ∧ s.blk.can.sof = [(e.val, sof)]
     ((s.bankA = true) ∧
      (s.bit F.CAN_STAT_TXING = true) ∧
      (s.blk.can.cur = some e.val) ∧
      ((s.fld F.CAN_STAT_STATE = 0) ∧
       (hasItem)) ∧
      ((s.blk.can.cancel = false) ∧
       (s.txFld e 1 7 1 = 0))) ∧
     ((s.reg A.CAN_TX_PEND = BitVec.twoPow 32 e.val) ∧
      (v = BitVec.twoPow 32 e.val) ∧
      ∀ c ∈ [Instr.canTxCancel v, .abortall],
      (s.blk.can.cur = some e.val) ∧
      (s.bit F.CAN_STAT_TXING = true))) := by decide +kernel

theorem test_witness_CabinetBusCompletes_4 :
    let s : State := arranged
        [padsUp, cfg [(Block.can.run, 1), (F.CAN_STAT_SYNCED, 1), (F.CAN_CFG_FDEN, 1), (F.CAN_RILLS_RX, 5), (F.CAN_RILLS_TXDONE, 6),
        (F.CAN_RILLS_EVT, 8)], rillUp 5 0, cfg [(F.CAN_ECNT_REC, 127), (F.CAN_ECNT_TEC, 127), (F.CAN_CFG_DEFACC, 0)]]
    let f : CanFrame := ⟨5, false, false, 8, true, true, false, false, List.replicate 8 7⟩
    (s.Inv) ∧
    (s.powered .can = true) ∧
    (let hears := s.onBus = true ∧ s.busOff = false
     let matches' (i : Nat) : Bool := s.bit (F.CAN_FLT_ID_EN i) &&
       (f.id.toNat ^^^ s.fld (F.CAN_FLT_ID_ID i)) &&& s.fld (F.CAN_FLT_MASK_MASK i) == 0 &&
       (!(s.bit (F.CAN_FLT_MASK_MXTD i)) || s.bit (F.CAN_FLT_ID_XTD i) == f.xtd)
     (s.bankA = true) ∧
     (hears) ∧
     (s.bit F.CAN_STAT_TXING = false) ∧
     (f.res = false) ∧
     (f.fdf = false ∨ s.bit F.CAN_CFG_FDEN = true) ∧
     (s.fld F.CAN_ECNT_REC ≤ 127) ∧
     (s.fld F.CAN_ECNT_TEC ≤ 127) ∧
     (s.fld F.CAN_STAT_STATE = 0) ∧
     ((∀ i < 32, matches' i = false)) ∧
     (s.bit F.CAN_CFG_DEFACC = false)) := by decide +kernel

theorem test_witness_CabinetBusCompletes_5 :
    let s : State := arranged
        [padsUp, cfg [(Block.can.run, 1), (F.CAN_STAT_SYNCED, 1), (F.CAN_CFG_FDEN, 1), (F.CAN_RILLS_RX, 5), (F.CAN_RILLS_TXDONE, 6),
        (F.CAN_RILLS_EVT, 8)], rillUp 5 0, cfg [(F.CAN_FLT_ID_EN 31, 1), (F.CAN_FLT_ID_ID 31, 5)], Op.setReg A.CAN_RX_FULL_LO 0xFFFFFFFF,
        Op.setReg A.CAN_RX_FULL_HI 0x7FFFFFFF]
    let f : CanFrame := ⟨5, false, false, 8, true, true, false, false, List.replicate 8 7⟩
    let n : Fin 32 := 31
    let e : Fin 64 := 63
    (s.Inv) ∧
    (s.powered .can = true) ∧
    (let rill := rillNo (s.fld F.CAN_RILLS_RX)
     let hears := s.onBus = true ∧ s.busOff = false
     let matches' (i : Nat) : Bool := s.bit (F.CAN_FLT_ID_EN i) &&
       (f.id.toNat ^^^ s.fld (F.CAN_FLT_ID_ID i)) &&& s.fld (F.CAN_FLT_MASK_MASK i) == 0 &&
       (!(s.bit (F.CAN_FLT_MASK_MXTD i)) || s.bit (F.CAN_FLT_ID_XTD i) == f.xtd)
     (s.bankA = true) ∧
     (hears) ∧
     (s.bit F.CAN_STAT_TXING = false) ∧
     (f.res = false) ∧
     (f.fdf = false ∨ s.bit F.CAN_CFG_FDEN = true) ∧
     (s.fld F.CAN_ECNT_REC ≤ 127) ∧
     (s.fld F.CAN_ECNT_TEC ≤ 127) ∧
     (s.fld F.CAN_STAT_STATE = 0) ∧
     (matches' n = true) ∧
     ((∀ i < n.val, matches' i = false)) ∧
     (s.bit (F.CAN_FLT_ID_REJECT n) = false) ∧
     ((∀ i < 64, i < e.val → ((if i < 32 then s.reg A.CAN_RX_FULL_LO else s.reg A.CAN_RX_FULL_HI).getLsbD (i % 32)) = true)) ∧
     (((if e.val < 32 then s.reg A.CAN_RX_FULL_LO else s.reg A.CAN_RX_FULL_HI).getLsbD (e.val % 32)) = false) ∧
     (s.takes rill) ∧
     (s.blk.can.items = []) ∧
     (f.data.length = dlcBytes f.fdf f.rtr f.dlc.toNat)) := by decide +kernel

theorem test_witness_CabinetBusCompletes_6 :
    let s : State := arranged
        [padsUp, cfg [(Block.can.run, 1), (F.CAN_STAT_SYNCED, 1), (F.CAN_CFG_FDEN, 1), (F.CAN_RILLS_RX, 5), (F.CAN_RILLS_TXDONE, 6),
        (F.CAN_RILLS_EVT, 8)], rillUp 5 0, cfg [(F.CAN_STAT_STATE, 2), (F.CAN_STAT_RECOVERING, 1)]]
    (s.Inv) ∧
    (s.powered .can = true) ∧
    (let evt := rillNo (s.fld F.CAN_RILLS_EVT)
     ((s.busOff = true)) ∧
     ((s.onBus = true) ∧
      (s.bit F.CAN_STAT_RECOVERING = true) ∧
      (s.blk.can.items = []) ∧
      (s.working .rill = true) ∧
      (s.rillEn evt = false))) := by decide +kernel

theorem test_witness_MeteringCompletes_1 :
    (let s : State := arranged [cfg [(Block.met.run, 1), (F.MET_CTRL_CHEN, 255), (F.MET_RILLS_DMD, 6)], cfg [(F.MET_STAT_SETTLING, 1)]]
     (s.Inv) ∧
     (s.running .met = true) ∧
     (s.bit F.MET_STAT_BATT = false) ∧
     (s.blk.pwr.vinGood = true) ∧
     (let m := s.met
      (s.bit F.MET_STAT_SETTLING = true) ∧
      (m.added = []) ∧
      (s.bit F.MET_RILLS_EVT_EN = false) ∧
      ((s.evq .met).length < 16))) ∧
    (let s : State := arranged [cfg [(Block.met.run, 1), (F.MET_CTRL_CHEN, 255), (F.MET_RILLS_DMD, 6)], cfg [(F.MET_STAT_SETTLING, 1)]]
     (s.Inv) ∧
     (s.powered .met = true) ∧
     (s.bit F.MET_CTRL_RUN = true)) := by decide +kernel

theorem test_witness_MeteringCompletes_2 :
    let s : State := arranged
        [cfg [(Block.met.run, 1), (F.MET_CTRL_CHEN, 255), (F.MET_RILLS_DMD, 6)], Op.met fun m => { m with added := [(35, 7)] }]
    (s.Inv) ∧
    (s.running .met = true) ∧
    (s.bit F.MET_STAT_BATT = false) ∧
    (s.blk.pwr.vinGood = true) ∧
    (let m := s.met
     (s.bit F.MET_STAT_SETTLING = false) ∧
     (let e := (35, 7)
      (m.added = [e]) ∧
      (e.1 < 36) ∧
      (s.bit F.MET_RILLS_EVT_EN = false) ∧
      ((s.evq .met).length < 16))) := by decide +kernel

theorem test_witness_MeteringCompletes_3 :
    let s : State := arranged
        [cfg [(Block.met.run, 1), (F.MET_CTRL_CHEN, 255), (F.MET_RILLS_DMD, 6)], cfg [(F.MET_CTRL_HPF, 0)],
        Op.met fun m => { m with regs := m.regs.set 37 (2 ^ 96 - 1) }]
    (s.Inv) ∧
    (s.running .met = true) ∧
    (s.bit F.MET_STAT_BATT = false) ∧
    (s.blk.pwr.vinGood = true) ∧
    (let m := s.met
     (s.bit F.MET_STAT_SETTLING = false) ∧
     (s.bit F.MET_CTRL_HPF = false) ∧
     (m.cross = none) ∧
     (m.cycle = none) ∧
     (0 ≤ histAt m.hist s.refCh 0) ∧
     ((∀ k : Fin 38, m.regs[k] < 2 ^ 96))) := by decide +kernel

theorem test_witness_MeteringCompletes_4 :
    let s : State := arranged [cfg [(Block.met.run, 1), (F.MET_CTRL_CHEN, 255), (F.MET_RILLS_DMD, 6)], Op.met fun m => { m with settle := 160 }]
    (s.Inv) ∧
    (s.powered .met = true) ∧
    (let m := s.met
     (160 ≤ m.settle)) := by decide +kernel

theorem test_witness_MeteringCompletes_5 :
    let s : State := arranged
        [cfg [(Block.met.run, 1), (F.MET_CTRL_CHEN, 255), (F.MET_RILLS_DMD, 6)], cfg [(F.MET_THEFT_HOLD, 1), (F.MET_RESID_HOLD, 1)],
        Op.met fun m => { m with cutHeld := 8000, residHeld := 8000 }]
    (s.Inv) ∧
    (s.powered .met = true) ∧
    (let m := s.met
     let waits := s.bit F.MET_RILLS_EVT_EN = false ∧ (s.evq .met).length < 16
     (waits) ∧
     (s.running .met = true) ∧
     ((m.cutTold = false) ∧
      (s.fld F.MET_THEFT_HOLD * 8000 ≤ m.cutHeld)) ∧
     ((m.residTold = false) ∧
      (s.fld F.MET_RESID_HOLD * 8000 ≤ m.residHeld))) := by decide +kernel

theorem test_witness_MeteringCompletes_6 :
    let s : State := arranged [cfg [(Block.met.run, 1), (F.MET_CTRL_CHEN, 255), (F.MET_RILLS_DMD, 6)], cfg [(F.MET_CTRL_RUN, 0)]]
    (s.Inv) ∧
    (s.powered .met = true) ∧
    (let waits := s.bit F.MET_RILLS_EVT_EN = false ∧ (s.evq .met).length < 16
     (waits) ∧
     (s.bit F.MET_CTRL_RUN = false)) := by decide +kernel

theorem test_witness_MeteringCompletes_7 :
    let s : State := arranged
        [cfg [(Block.met.run, 1), (F.MET_CTRL_CHEN, 255), (F.MET_RILLS_DMD, 6)], timeIs 60000000000,
        Op.met fun m => { m with interval := some ⟨0, Vector.replicate 38 0, true, false, false, false⟩ }]
    (s.Inv) ∧
    (s.powered .met = true) ∧
    (let m := s.met
     let i := ⟨0, Vector.replicate 38 0, true, false, false, false⟩
     (m.interval = some i) ∧
     (let len : Int := ([1, 5, 10, 15, 30, 60].getD (s.fld F.MET_DMD_LEN) 60) * 60 * 10 ^ 9
      let off : Int := s.fld F.MET_TAI_UTC_SECONDS * 10 ^ 9
      let bound := ((((i.start : Int) - off) / len + 1) * len + off).toNat
      (s.running .met = true) ∧
      (bound ≤ s.now) ∧
      (s.bit F.MET_RILLS_DMD_EN = false))) := by decide +kernel

theorem test_witness_MeteringCompletes_8 :
    let s : State := arranged
        [cfg [(Block.met.run, 1), (F.MET_CTRL_CHEN, 255), (F.MET_RILLS_DMD, 6)], timeIs 60000000000, cfg [(F.MET_RILLS_DMD_EN, 1)],
        Op.met fun m => { m with interval := some ⟨0, Vector.replicate 38 0, true, false, false, false⟩, records := List.replicate 7 [] }]
    (s.Inv) ∧
    (s.powered .met = true) ∧
    (let m := s.met
     let i := ⟨0, Vector.replicate 38 0, true, false, false, false⟩
     (m.interval = some i) ∧
     (let len : Int := ([1, 5, 10, 15, 30, 60].getD (s.fld F.MET_DMD_LEN) 60) * 60 * 10 ^ 9
      let off : Int := s.fld F.MET_TAI_UTC_SECONDS * 10 ^ 9
      let bound := ((((i.start : Int) - off) / len + 1) * len + off).toNat
      (s.running .met = true) ∧
      (bound ≤ s.now) ∧
      (s.bit F.MET_RILLS_DMD_EN = true) ∧
      (m.records ≠ []) ∧
      (m.records.length < 8))) := by decide +kernel

theorem test_witness_MeteringCompletes_9 :
    let s : State := arranged
        [cfg [(Block.met.run, 1), (F.MET_CTRL_CHEN, 255), (F.MET_RILLS_DMD, 6)], rillUp 6 1, cfg
        [(F.MET_RILLS_DMD_EN, 1), (F.RILL_CFG_SIZE 6, 1)], Op.met fun m => { m with records := [List.replicate 16 7] }]
    (s.Inv) ∧
    (s.powered .met = true) ∧
    (let m := s.met
     let r := List.replicate 16 7
     (m.records = [r]) ∧
     (let n := rillNo (s.fld F.MET_RILLS_DMD)
      (s.bit F.MET_RILLS_DMD_EN = true) ∧
      (s.rillOn n = true) ∧
      (s.isPacket n = true) ∧
      ((s.rill n).pkt = none) ∧
      (r.length = 16) ∧
      (17 ≤ s.rillFree n) ∧
      (s.quiet n))) := by decide +kernel

theorem test_witness_MeteringCompletes_10 :
    let s : State := arranged
        [cfg [(Block.met.run, 1), (F.MET_CTRL_CHEN, 255), (F.MET_RILLS_DMD, 6)], Op.setEvq .met (List.replicate 15 7),
        Op.met fun m => { m with extreme := m.extreme.set 7 (-8) }]
    let c : Fin 8 := 7
    (s.Inv) ∧
    (s.powered .met = true) ∧
    (let m := s.met
     let waits := s.bit F.MET_RILLS_EVT_EN = false ∧ (s.evq .met).length < 16
     (waits) ∧
     (s.running .met = true) ∧
     (s.chanLive c = true) ∧
     (8 ≤ m.extreme[c].natAbs)) := by decide +kernel

theorem test_witness_MeteringCompletes_11 :
    let s : State := arranged
        [cfg [(Block.met.run, 1), (F.MET_CTRL_CHEN, 255), (F.MET_RILLS_DMD, 6)], Op.setEvq .met (List.replicate 15 7), cfg
        [(F.MET_MODFAULT_NOW, 128)], Op.met fun m => { m with calm := m.calm.set 7 80 }]
    let c : Fin 8 := 7
    (s.Inv) ∧
    (s.powered .met = true) ∧
    (let m := s.met
     let waits := s.bit F.MET_RILLS_EVT_EN = false ∧ (s.evq .met).length < 16
     (waits) ∧
     (s.running .met = true) ∧
     (natBits (s.fld F.MET_MODFAULT_NOW) c 1 = 1) ∧
     (80 ≤ m.calm[c])) := by decide +kernel

theorem test_witness_OxbowCompletes_1 :
    (let s : State := arranged
        [padsUp, oxbRuns, cfg [(F.OXB_STAT_STATE, 1)], Op.oxb fun o => { o with edge := some 0 }, Op.oxb fun o => { o with kick := 100000 }]
     (s.Inv) ∧
     (s.powered .oxb = true) ∧
     (s.evq .oxb = []) ∧
     (s.working .rill = true) ∧
     (s.rillEn (rillNo (s.fld F.OXB_RILLS_EVT)) = false) ∧
     (let o := s.oxb
      let st := s.fld F.OXB_STAT_STATE
      let ms (p n : Nat) : Prop := n * 32768 ≤ (s.pulses - p) * 1000
      let heard (p : Option Nat) (n : Nat) : Prop := p.any (fun p => decide ((s.pulses - p) * 1000 < n * 32768)) = true
      let quiet := ¬ heard o.edge (s.fld F.OXB_TIMES_LOSS)
      let seen := o.edge.filter (o.watch ≤ ·)
      let lost := ms (seen.getD o.watch) (s.fld F.OXB_TIMES_LOSS) ∧ (st = 2 ∨ seen.isSome = true)
      let alive := ¬ ms o.kick (s.fld F.OXB_WDOG_MS)
      let free := o.clash = false ∧ alive ∧ ¬ heard o.ownerRep 250 ∧ s.bit F.OXB_STAT_STBUSY = false
      ((st = 1 ∨ st = 2) ∧
       (free) ∧
       (o.retry = none) ∧
       (lost)) ∧
      ((st = 1) ∧
       (ms o.since (s.fld F.OXB_TIMES_START)) ∧
       (quiet) ∧
       (free) ∧
       (o.retry = none)) ∧
      ((st ≠ 0) ∧
       (o.health.all (fun p => 99 * 32768 ≤ (s.pulses - p) * 1000) = true)))) ∧
    (let s : State := arranged
        [padsUp, oxbRuns, cfg [(F.OXB_STAT_STATE, 1)], Op.oxb fun o => { o with edge := some 0 }, Op.oxb fun o => { o with kick := 100000 }]
     let k : Fin 8 := 7
     let p : List Byte := []
     (s.Inv) ∧
     (s.powered .oxb = true) ∧
     (s.evq .oxb = []) ∧
     (s.working .rill = true) ∧
     (s.rillEn (rillNo (s.fld F.OXB_RILLS_EVT)) = false) ∧
     (let o := s.oxb
      let ms (p n : Nat) : Prop := n * 32768 ≤ (s.pulses - p) * 1000
      let hwm := (s.reg (A.OXB_HWM k)).toNat
      let free := s.bit F.OXB_RES_BUSY = false
      ((s.fld F.OXB_STAT_STATE ≠ 0) ∧
       (o.linkLost = false) ∧
       (ms o.frame 300)) ∧
      ((free) ∧
       ((s.reg A.OXB_RES_BASE).toNat ≤ hwm)))) := by decide +kernel

theorem test_witness_OxbowCompletes_2 :
    let s : State := arranged
        [padsUp, oxbRuns, cfg [(F.OXB_STAT_STATE, 1)], Op.oxb fun o => { o with edge := some 99999 }, Op.oxb fun o => { o with kick := 100000 }]
    (s.Inv) ∧
    (s.powered .oxb = true) ∧
    (s.evq .oxb = []) ∧
    (s.working .rill = true) ∧
    (s.rillEn (rillNo (s.fld F.OXB_RILLS_EVT)) = false) ∧
    (let o := s.oxb
     let st := s.fld F.OXB_STAT_STATE
     let ms (p n : Nat) : Prop := n * 32768 ≤ (s.pulses - p) * 1000
     let heard (p : Option Nat) (n : Nat) : Prop := p.any (fun p => decide ((s.pulses - p) * 1000 < n * 32768)) = true
     let quiet := ¬ heard o.edge (s.fld F.OXB_TIMES_LOSS)
     (st = 1) ∧
     (ms o.since (s.fld F.OXB_TIMES_START)) ∧
     (¬ quiet)) := by decide +kernel

theorem test_witness_OxbowCompletes_3 :
    let s : State := arranged
        [padsUp, oxbRuns, cfg [(F.OXB_STAT_STATE, 2)], Op.oxb fun o => { o with retry := some 100000 }, Op.oxb fun o => { o with kick := 100000 }]
    (s.Inv) ∧
    (s.powered .oxb = true) ∧
    (s.evq .oxb = []) ∧
    (s.working .rill = true) ∧
    (s.rillEn (rillNo (s.fld F.OXB_RILLS_EVT)) = false) ∧
    (let o := s.oxb
     let st := s.fld F.OXB_STAT_STATE
     let ms (p n : Nat) : Prop := n * 32768 ≤ (s.pulses - p) * 1000
     let heard (p : Option Nat) (n : Nat) : Prop := p.any (fun p => decide ((s.pulses - p) * 1000 < n * 32768)) = true
     let quiet := ¬ heard o.edge (s.fld F.OXB_TIMES_LOSS)
     let alive := ¬ ms o.kick (s.fld F.OXB_WDOG_MS)
     let free := o.clash = false ∧ alive ∧ ¬ heard o.ownerRep 250 ∧ s.bit F.OXB_STAT_STBUSY = false
     let p := 100000
     (o.retry = some p) ∧
     (st = 2) ∧
     (p ≤ s.pulses) ∧
     (quiet) ∧
     (free)) := by decide +kernel

theorem test_witness_OxbowCompletes_4 :
    let s : State := arranged [padsUp, oxbRuns, cfg [(F.OXB_STAT_STATE, 3)]]
    (s.Inv) ∧
    (s.powered .oxb = true) ∧
    (s.evq .oxb = []) ∧
    (s.working .rill = true) ∧
    (s.rillEn (rillNo (s.fld F.OXB_RILLS_EVT)) = false) ∧
    (let o := s.oxb
     let st := s.fld F.OXB_STAT_STATE
     let ms (p n : Nat) : Prop := n * 32768 ≤ (s.pulses - p) * 1000
     (st = 3) ∧
     (ms o.kick (s.fld F.OXB_WDOG_MS))) := by decide +kernel

theorem test_witness_OxbowCompletes_5 :
    let s : State := arranged [padsUp, oxbRuns, cfg [(F.OXB_STAT_STATE, 4)]]
    (s.Inv) ∧
    (s.powered .oxb = true) ∧
    (s.evq .oxb = []) ∧
    (s.working .rill = true) ∧
    (s.rillEn (rillNo (s.fld F.OXB_RILLS_EVT)) = false) ∧
    (let o := s.oxb
     let st := s.fld F.OXB_STAT_STATE
     let ms (p n : Nat) : Prop := n * 32768 ≤ (s.pulses - p) * 1000
     (st = 4) ∧
     (ms o.kick (s.fld F.OXB_WDOG_MS))) := by decide +kernel

theorem test_witness_OxbowCompletes_6 :
    let s : State := arranged
        [padsUp, oxbRuns, cfg [(F.OXB_STAT_STATE, 4), (F.OXB_CFG_POS, 0), (F.OXB_CFG_REVERT, 1), (F.OXB_REVERT_SECONDS, 3)],
        Op.oxb fun o => { o with revert := some 1696, report := some 99999 }]
    (s.Inv) ∧
    (s.powered .oxb = true) ∧
    (s.evq .oxb = []) ∧
    (s.working .rill = true) ∧
    (s.rillEn (rillNo (s.fld F.OXB_RILLS_EVT)) = false) ∧
    (let o := s.oxb
     let st := s.fld F.OXB_STAT_STATE
     let recent := o.report.any (fun p => decide ((s.pulses - p) * 1000 ≤ 250 * 32768)) = true
     (st = 4) ∧
     (s.bit F.OXB_CFG_POS = false) ∧
     (s.bit F.OXB_CFG_REVERT = true) ∧
     (s.bit F.OXB_STAT_REVERTREADY = false) ∧
     (recent) ∧
     (o.revert.any (fun p => s.fld F.OXB_REVERT_SECONDS * 1000 * 32768 ≤ (s.pulses - p) * 1000) = true)) := by decide +kernel

theorem test_witness_OxbowCompletes_7 :
    let s : State := arranged [padsUp, oxbRuns, cfg [(F.OXB_STAT_STBUSY, 1), (F.MEM_MAINT_STAT_GRANT, 5)]]
    (s.Inv) ∧
    (s.powered .oxb = true) ∧
    (s.evq .oxb = []) ∧
    (s.working .rill = true) ∧
    (s.rillEn (rillNo (s.fld F.OXB_RILLS_EVT)) = false) ∧
    (s.bit F.OXB_STAT_STBUSY = true) ∧
    (s.fld F.MEM_MAINT_STAT_GRANT = 5) := by decide +kernel

theorem test_witness_OxbowCompletes_8 :
    let s : State := arranged [padsUp, oxbRuns, cfg [(F.OXB_STAT_STATE, 2)], Op.oxb fun o => { o with linkUp := true, edge := some 99999 }]
    let k : Fin 8 := 7
    let p : List Byte := [0, 0, 1] ++ List.replicate 61 0
    let mark : Word := 0
    (s.Inv) ∧
    (s.powered .oxb = true) ∧
    (s.evq .oxb = []) ∧
    (s.working .rill = true) ∧
    (s.rillEn (rillNo (s.fld F.OXB_RILLS_EVT)) = false) ∧
    (let o := s.oxb
     let up := s.bankA = true ∧ s.fld F.OXB_STAT_STATE ≠ 0 ∧ o.linkUp = true ∧ o.linkLost = false
     let ms (p n : Nat) : Prop := n * 32768 ≤ (s.pulses - p) * 1000
     let hwm := (s.reg (A.OXB_HWM k)).toNat
     let idle := s.bit F.BON_STAT_COMMIT_BUSY = false
     let u (at' n : Nat) : Nat := leNat ((p.drop at').take n)
     ((up) ∧
      ((p.length = 64) ∧
       ((natBits (u 2 1) 0 1 = 1 ↔ s.bit F.OXB_CFG_POS = false)) ∧
       ((∀ j : Fin 8, u (0x20 + 4 * j) 4 ≤ (s.reg (A.OXB_HWM j)).toNat)) ∧
       (s.fld F.OXB_STAT_STATE ≠ 4)) ∧
      ((mark.toNat ≤ hwm) ∧
       (idle))) ∧
     (let e := 99999
      (o.edge = some e) ∧
      (up) ∧
      (¬ ms e 1))) := by decide +kernel

theorem test_witness_OxbowCompletes_9 :
    let s : State := arranged [padsUp, oxbRuns, cfg [(F.OXB_STAT_STATE, 2)], Op.oxb fun o => { o with linkUp := true, edge := some 99999 }]
    let k : Fin 8 := 7
    let mark : Word := 0xFFFFFFFF
    (s.Inv) ∧
    (s.powered .oxb = true) ∧
    (s.evq .oxb = []) ∧
    (s.working .rill = true) ∧
    (s.rillEn (rillNo (s.fld F.OXB_RILLS_EVT)) = false) ∧
    (let o := s.oxb
     let up := s.bankA = true ∧ s.fld F.OXB_STAT_STATE ≠ 0 ∧ o.linkUp = true ∧ o.linkLost = false
     let hwm := (s.reg (A.OXB_HWM k)).toNat
     let idle := s.bit F.BON_STAT_COMMIT_BUSY = false
     (up) ∧
     (hwm < mark.toNat) ∧
     (idle)) := by decide +kernel

theorem test_witness_OxbowCompletes_10 :
    let s : State := arranged
        [padsUp, oxbRuns, cfg [(F.OXB_STAT_STATE, 2)],
        Op.oxb fun o => { o with linkUp := true, reserving := some (7, 1000, 99000, 99000), syncSent := true }]
    let k : Fin 8 := 7
    let p : List Byte := []
    let mark : Word := 5096
    let marks : Vector Word 8 := Vector.replicate 8 0
    (s.Inv) ∧
    (s.powered .oxb = true) ∧
    (s.evq .oxb = []) ∧
    (s.working .rill = true) ∧
    (s.rillEn (rillNo (s.fld F.OXB_RILLS_EVT)) = false) ∧
    (let o := s.oxb
     let up := s.bankA = true ∧ s.fld F.OXB_STAT_STATE ≠ 0 ∧ o.linkUp = true ∧ o.linkLost = false
     let ms (p n : Nat) : Prop := n * 32768 ≤ (s.pulses - p) * 1000
     ((up) ∧
      (let r := ((7, 1000, 99000, 99000) : Nat × Nat × Nat × Nat)
       (o.reserving = some r) ∧
       (r.1 = k.val) ∧
       (mark.toNat = r.2.1 + 4096) ∧
       (s.powered .rad = true) ∧
       (s.blk.rad.armed.getLsbD k = false) ∧
       (s.blk.rad.stalled.getLsbD k = false) ∧
       ((s.reg (A.RAD_KEY_CEIL k)).toNat ≤ r.2.1)) ∧
      (((∀ j : Fin 8, marks[j].toNat ≤ (s.reg (A.OXB_HWM j)).toNat)) ∧
       (o.syncSent = true))) ∧
     (let r := ((7, 1000, 99000, 99000) : Nat × Nat × Nat × Nat)
      (o.reserving = some r) ∧
      (ms r.2.2.1 20))) := by decide +kernel

theorem test_witness_OxbowCompletes_11 :
    let s : State := arranged
        [padsUp, oxbRuns, cfg [(F.OXB_STAT_STATE, 2)], Op.oxb fun o => { o with linkUp := true }, rillUp 5 0, Op.setReg A.OXB_RXBUF 0x10000000,
        cfg [(F.OXB_RX_FULL_BUFS, 127)]]
    let k : Fin 8 := 7
    let p : List Byte := List.replicate 1024 7
    (s.Inv) ∧
    (s.powered .oxb = true) ∧
    (s.evq .oxb = []) ∧
    (s.working .rill = true) ∧
    (s.rillEn (rillNo (s.fld F.OXB_RILLS_EVT)) = false) ∧
    (let o := s.oxb
     let up := s.bankA = true ∧ s.fld F.OXB_STAT_STATE ≠ 0 ∧ o.linkUp = true ∧ o.linkLost = false
     (up) ∧
     (let rill := rillNo (s.fld F.OXB_RILLS_RX)
      let i := k.val
      let a := (s.reg A.OXB_RXBUF).toNat + 1024 * i
      (1 ≤ p.length) ∧
      (p.length ≤ 1024) ∧
      (natBits (s.fld F.OXB_RX_FULL_BUFS) i 1 = 0) ∧
      ((∀ j < i, natBits (s.fld F.OXB_RX_FULL_BUFS) j 1 = 1)) ∧
      (s.takes rill) ∧
      (o.items = []) ∧
      ((∀ j < p.length, s.reaches (a + j) = true)) ∧
      (a % 8 = 0))) := by decide +kernel

theorem test_witness_OxbowCompletes_12 :
    let s : State := arranged
        [padsUp, oxbRuns, cfg [(F.OXB_STAT_STATE, 2)], Op.setReg (A.OXB_HWM 7) 7,
        Op.oxb fun o => { o with clearing := some (7, 99000, 99000), linkUp := true, frame := 90000 }]
    let k : Fin 8 := 7
    let p : List Byte := []
    (s.Inv) ∧
    (s.powered .oxb = true) ∧
    (s.evq .oxb = []) ∧
    (s.working .rill = true) ∧
    (s.rillEn (rillNo (s.fld F.OXB_RILLS_EVT)) = false) ∧
    (let o := s.oxb
     let up := s.bankA = true ∧ s.fld F.OXB_STAT_STATE ≠ 0 ∧ o.linkUp = true ∧ o.linkLost = false
     let ms (p n : Nat) : Prop := n * 32768 ≤ (s.pulses - p) * 1000
     let hwm := (s.reg (A.OXB_HWM k)).toNat
     let idle := s.bit F.BON_STAT_COMMIT_BUSY = false
     let free := s.bit F.OXB_RES_BUSY = false
     ((up) ∧
      ((hwm ≠ 0) ∧
       (idle)) ∧
      (let r := ((7, 99000, 99000) : Nat × Nat × Nat)
       (o.clearing = some r) ∧
       (r.1 = k.val))) ∧
     ((free) ∧
      (idle) ∧
      (hwm ≠ 0) ∧
      (o.linkUp = true)) ∧
     (let r := ((7, 99000, 99000) : Nat × Nat × Nat)
      (o.clearing = some r) ∧
      (ms r.2.1 20))) := by decide +kernel

theorem test_witness_OxbowCompletes_13 :
    let s : State := arranged
        [padsUp, oxbRuns, cfg [(F.OXB_STAT_HWMLOST, 0)], Op.setReg (A.OXB_HWM 7) 0xFFFFEFFF, Op.oxb fun o => { o with linkUp := true }]
    let k : Fin 8 := 7
    (s.Inv) ∧
    (s.powered .oxb = true) ∧
    (s.evq .oxb = []) ∧
    (s.working .rill = true) ∧
    (s.rillEn (rillNo (s.fld F.OXB_RILLS_EVT)) = false) ∧
    (let o := s.oxb
     let hwm := (s.reg (A.OXB_HWM k)).toNat
     let idle := s.bit F.BON_STAT_COMMIT_BUSY = false
     let free := s.bit F.OXB_RES_BUSY = false
     (free) ∧
     (idle) ∧
     (s.bit F.OXB_STAT_HWMLOST = false) ∧
     (s.blk.rad.armed.getLsbD k = false) ∧
     (hwm < 0xFFFFF000) ∧
     (o.linkUp = true) ∧
     (s.bit F.OXB_STAT_PEERLOST = false)) := by decide +kernel

theorem test_witness_OxbowCompletes_14 :
    let s : State := arranged [padsUp, oxbRuns, Op.setReg (A.OXB_HWM 7) 7, Op.setReg A.OXB_RES_BASE 8]
    let k : Fin 8 := 7
    (s.Inv) ∧
    (s.powered .oxb = true) ∧
    (s.evq .oxb = []) ∧
    (s.working .rill = true) ∧
    (s.rillEn (rillNo (s.fld F.OXB_RILLS_EVT)) = false) ∧
    (let hwm := (s.reg (A.OXB_HWM k)).toNat
     let idle := s.bit F.BON_STAT_COMMIT_BUSY = false
     let free := s.bit F.OXB_RES_BUSY = false
     (free) ∧
     (hwm < (s.reg A.OXB_RES_BASE).toNat) ∧
     (idle)) := by decide +kernel

theorem test_witness_OxbowCompletes_15 :
    let s : State := arranged [padsUp, oxbRuns, Op.setReg A.OXB_TX_ADDR 0x10000003]
    let v : Word := 0x80000400
    (s.Inv) ∧
    (s.powered .oxb = true) ∧
    (s.evq .oxb = []) ∧
    (s.working .rill = true) ∧
    (s.rillEn (rillNo (s.fld F.OXB_RILLS_EVT)) = false) ∧
    (let n := v.toNat % 2 ^ 11
     let a := (s.reg A.OXB_TX_ADDR).toNat / 8 * 8
     (s.bit F.OXB_TX_CTL_BUSY = false) ∧
     (v.getLsbD 31 = true) ∧
     (1 ≤ n) ∧
     (n ≤ 1024) ∧
     ((∀ j < n / 8 + 1, s.readable (a + 8 * j)))) := by decide +kernel

theorem test_witness_OxbowCompletes_16 :
    let s : State := arranged
        [padsUp, oxbRuns, cfg [(F.OXB_STAT_STATE, 4), (F.OXB_STAT_REVERTREADY, 1), (F.OXB_YIELD_EN, 128), (F.OXB_PEER_FLAGS, 2)],
        Op.oxb fun o => { o with fwDropped := true, report := some 99999 }]
    let b : Fin 8 := 7
    (s.Inv) ∧
    (s.powered .oxb = true) ∧
    (s.evq .oxb = []) ∧
    (s.working .rill = true) ∧
    (s.rillEn (rillNo (s.fld F.OXB_RILLS_EVT)) = false) ∧
    (let o := s.oxb
     let st := s.fld F.OXB_STAT_STATE
     let heard (p : Option Nat) (n : Nat) : Prop := p.any (fun p => decide ((s.pulses - p) * 1000 < n * 32768)) = true
     let recent := o.report.any (fun p => decide ((s.pulses - p) * 1000 ≤ 250 * 32768)) = true
     (st = 4) ∧
     ((s.bit F.OXB_STAT_REVERTREADY = true) ∧
      (recent)) ∧
     ((natBits (s.fld F.OXB_YIELD_EN) b 1 = 1) ∧
      (s.condition b = true) ∧
      ((2 ≤ b.val → b.val ≤ 5 → o.cond[b].any (fun p => 1000 * 32768 ≤ (s.pulses - p) * 1000) = true)) ∧
      (heard o.report 250) ∧
      (natBits (s.fld F.OXB_PEER_FLAGS) 1 1 = 1))) := by decide +kernel

theorem test_witness_OxbowCompletes_17 :
    let s : State := arranged [padsUp, oxbRuns, cfg [(F.OXB_STAT_STATE, 4), (F.OXB_YIELD_EN, 128)], Op.oxb fun o => { o with fwDropped := true }]
    let b : Fin 8 := 7
    (s.Inv) ∧
    (s.powered .oxb = true) ∧
    (s.evq .oxb = []) ∧
    (s.working .rill = true) ∧
    (s.rillEn (rillNo (s.fld F.OXB_RILLS_EVT)) = false) ∧
    (let o := s.oxb
     let st := s.fld F.OXB_STAT_STATE
     let heard (p : Option Nat) (n : Nat) : Prop := p.any (fun p => decide ((s.pulses - p) * 1000 < n * 32768)) = true
     (st = 4) ∧
     (natBits (s.fld F.OXB_YIELD_EN) b 1 = 1) ∧
     (s.condition b = true) ∧
     ((2 ≤ b.val → b.val ≤ 5 → o.cond[b].any (fun p => 1000 * 32768 ≤ (s.pulses - p) * 1000) = true)) ∧
     (¬ heard o.report 250) ∧
     (o.held.getLsbD b = false)) := by decide +kernel

theorem test_witness_OxbowCompletes_18 :
    let s : State := arranged [padsUp, oxbRuns, cfg [(F.OXB_STAT_STATE, 3)]]
    let periods : BitVec 16 := 1
    (s.Inv) ∧
    (s.powered .oxb = true) ∧
    (s.evq .oxb = []) ∧
    (s.working .rill = true) ∧
    (s.rillEn (rillNo (s.fld F.OXB_RILLS_EVT)) = false) ∧
    (periods.toNat < 2 ∨ s.bankA = false) := by decide +kernel

theorem test_witness_OxbowCompletes_19 :
    let s : State := arranged [padsUp, oxbRuns, cfg [(F.OXB_STAT_STATE, 3)]]
    let periods : BitVec 16 := 2
    (s.Inv) ∧
    (s.powered .oxb = true) ∧
    (s.evq .oxb = []) ∧
    (s.working .rill = true) ∧
    (s.rillEn (rillNo (s.fld F.OXB_RILLS_EVT)) = false) ∧
    (2 ≤ periods.toNat) ∧
    (s.bankA = true) := by decide +kernel

theorem test_witness_OxbowCompletes_20 :
    let s : State := arranged [padsUp, oxbRuns, pulsesAre 1966080, cfg [(F.OXB_STAT_STATE, 2), (F.OXB_ST_PERIOD, 1)]]
    (s.Inv) ∧
    (s.powered .oxb = true) ∧
    (s.evq .oxb = []) ∧
    (s.working .rill = true) ∧
    (s.rillEn (rillNo (s.fld F.OXB_RILLS_EVT)) = false) ∧
    (let o := s.oxb
     let st := s.fld F.OXB_STAT_STATE
     let ms (p n : Nat) : Prop := n * 32768 ≤ (s.pulses - p) * 1000
     (st = 2) ∧
     (s.bit F.OXB_STAT_STBUSY = false) ∧
     (s.fld F.MEM_MAINT_STAT_GRANT = 0) ∧
     ((∀ a ∈ [1, 2, 3], s.maintQueued a = false)) ∧
     (s.bit F.OXB_CTRL_RUN = true) ∧
     (s.fld F.OXB_ST_PERIOD ≠ 0) ∧
     (ms o.tested (s.fld F.OXB_ST_PERIOD * 60000))) := by decide +kernel

theorem test_witness_OxbowCompletes_21 :
    let s : State := arranged [padsUp, oxbRuns, Op.clk fun c => { c with frac := 999868928 }]
    (s.Inv) ∧
    (s.powered .oxb = true) ∧
    (s.evq .oxb = []) ∧
    (s.working .rill = true) ∧
    (s.rillEn (rillNo (s.fld F.OXB_RILLS_EVT)) = false) ∧
    (s.pending = []) ∧
    (s.blk.clk.frac < 1000000000) ∧
    (1000000000 ≤ s.blk.clk.frac + 131072) ∧
    (s.domOn 0 = true) := by decide +kernel

theorem test_witness_OxbowCompletes_22 :
    let s : State := arranged
        [padsUp, oxbRuns, cfg [(F.OXB_STAT_STATE, 2), (F.BON_STAT_COMMIT_BUSY, 1)], Op.setReg (A.OXB_HWM 7) 0xFFFFFFFF,
        Op.oxb fun o => { o with linkUp := true }]
    let k : Fin 8 := 7
    let mark : Word := 0xFFFFFFFF
    (s.Inv) ∧
    (s.powered .oxb = true) ∧
    (s.evq .oxb = []) ∧
    (s.working .rill = true) ∧
    (s.rillEn (rillNo (s.fld F.OXB_RILLS_EVT)) = false) ∧
    (let o := s.oxb
     let up := s.bankA = true ∧ s.fld F.OXB_STAT_STATE ≠ 0 ∧ o.linkUp = true ∧ o.linkLost = false
     let hwm := (s.reg (A.OXB_HWM k)).toNat
     (up) ∧
     (s.bit F.BON_STAT_COMMIT_BUSY = true) ∧
     (mark.toNat ≤ hwm)) := by decide +kernel

theorem test_witness_OxbowCompletes_23 :
    let s : State := arranged [padsUp, oxbRuns, cfg [(F.OXB_STAT_STATE, 2)], Op.oxb fun o => { o with linkUp := true, syncSent := false }]
    let marks : Vector Word 8 := Vector.replicate 8 0
    (s.Inv) ∧
    (s.powered .oxb = true) ∧
    (s.evq .oxb = []) ∧
    (s.working .rill = true) ∧
    (s.rillEn (rillNo (s.fld F.OXB_RILLS_EVT)) = false) ∧
    (let o := s.oxb
     let up := s.bankA = true ∧ s.fld F.OXB_STAT_STATE ≠ 0 ∧ o.linkUp = true ∧ o.linkLost = false
     (up) ∧
     ((∀ j : Fin 8, marks[j].toNat ≤ (s.reg (A.OXB_HWM j)).toNat)) ∧
     (o.syncSent = false)) := by decide +kernel

theorem test_witness_OxbowCompletes_24 :
    let s : State := arranged [padsUp, oxbRuns, cfg [(F.OXB_TX_CTL_BUSY, 1)]]
    (s.Inv) ∧
    (s.powered .oxb = true) ∧
    (s.evq .oxb = []) ∧
    (s.working .rill = true) ∧
    (s.rillEn (rillNo (s.fld F.OXB_RILLS_EVT)) = false) ∧
    (s.bit F.OXB_TX_CTL_BUSY = true) := by decide +kernel

theorem test_witness_OxbowCompletes_25 :
    let s : State := arranged [padsUp, oxbRuns, cfg [(F.OXB_STAT_STATE, 3)], Op.oxb fun o => { o with kick := 100000 }]
    (s.Inv) ∧
    (s.powered .oxb = true) ∧
    (s.evq .oxb = []) ∧
    (s.working .rill = true) ∧
    (s.rillEn (rillNo (s.fld F.OXB_RILLS_EVT)) = false) ∧
    (let o := s.oxb
     let st := s.fld F.OXB_STAT_STATE
     let ms (p n : Nat) : Prop := n * 32768 ≤ (s.pulses - p) * 1000
     let alive := ¬ ms o.kick (s.fld F.OXB_WDOG_MS)
     (st = 3) ∧
     (alive) ∧
     (ms o.since (s.fld F.OXB_TIMES_GUARD)) ∧
     ((∀ k < 8, s.bit (F.RAD_KEY_CFG_VALID k) = false))) := by decide +kernel

theorem test_witness_OxbowCompletes_26 :
    let s : State := arranged [padsUp, oxbRuns, cfg [(F.OXB_STAT_STATE, 2)]]
    let tx : Bool := true
    (s.Inv) ∧
    (s.powered .oxb = true) ∧
    (s.evq .oxb = []) ∧
    (s.working .rill = true) ∧
    (s.rillEn (rillNo (s.fld F.OXB_RILLS_EVT)) = false) ∧
    (s.fld F.OXB_STAT_STATE ≠ 0) ∧
    (tx = true ∨ s.bankA = true) := by decide +kernel

theorem test_witness_FirmwareAndBootComplete_1 :
    let s : State := arranged [cfg [(Block.upd.run, 1)], Op.upd fun u => { u with checking := some 1, verified := 2 }]
    let slot : Fin 2 := 1
    let erase : Bool := false
    let off : BitVec 27 := 0x2800000
    let len : BitVec 27 := 5
    let data : List Byte := List.replicate 8 7
    (s.Inv) ∧
    (s.powered .upd = true) ∧
    (s.bit F.UPD_EVT_EN = false) ∧
    ((s.evq .upd).length < 8) ∧
    (let u := s.upd
     let b := u.state
     let n := slot.val
     let idle := s.bit F.BON_STAT_COMMIT_BUSY = false
     ((s.bit F.UPD_STAT_VBUSY = false) ∧
      (s.bit F.UPD_CTRL_RUN = true)) ∧
     ((u.checking = some n)) ∧
     ((idle) ∧
      (u.verified.getLsbD n = true) ∧
      (b.confirmed ≠ some n) ∧
      (u.running ≠ some n) ∧
      (s.bit F.UPD_STAT_TRIAL = false)) ∧
     (let m := if erase then len.toNat else data.length
      let within (k : Nat) : Prop := off.toNat < imageOff k + 0x1800000 ∧ imageOff k < off.toNat + m
      let kept (k : Nat) : Prop := b.confirmed = some k ∨ u.running = some k ∨ s.bit F.UPD_STAT_TRIAL = true
      let at' := 0x0C000000 + off.toNat
      (s.powered .sto = true) ∧
      (m ≠ 0) ∧
      (off.toNat + m ≤ 0x4000000) ∧
      (s.blk.memu.nor = none) ∧
      (0x100000 ≤ off.toNat) ∧
      (¬ (within 0 ∧ kept 0)) ∧
      (¬ (within 1 ∧ kept 1)) ∧
      (s.fld F.MEM_MAINT_STAT_GRANT = 0) ∧
      ((erase = true ∨ ∀ j < m, s.store.byte (at' + j) = 0xFF)))) := by decide +kernel

theorem test_witness_FirmwareAndBootComplete_2 :
    let s : State := arranged
        [cfg [(Block.upd.run, 1)], cfg [(F.UPD_STAT_ARMED, 1), (F.UPD_STAT_TRIAL, 1)], Op.upd fun u => { u with running := some 1 }]
    let slot : Fin 2 := 1
    (s.Inv) ∧
    (s.powered .upd = true) ∧
    (s.bit F.UPD_EVT_EN = false) ∧
    ((s.evq .upd).length < 8) ∧
    (let u := s.upd
     let b := u.state
     let n := slot.val
     let idle := s.bit F.BON_STAT_COMMIT_BUSY = false
     ((u.verified.getLsbD n = false ∨ b.confirmed = some n ∨ u.running = some n)) ∧
     ((idle) ∧
      ((s.bit F.UPD_STAT_ARMED = true)) ∧
      ((s.bit F.UPD_STAT_TRIAL = true)))) := by decide +kernel

theorem test_witness_FirmwareAndBootComplete_3 :
    let s : State := arranged [cfg [(Block.upd.run, 1)], Op.setReg A.UPD_CC_ADDR 0x10000040]
    (s.Inv) ∧
    (s.powered .upd = true) ∧
    (s.bit F.UPD_EVT_EN = false) ∧
    ((s.evq .upd).length < 8) ∧
    (let a := (s.reg A.UPD_CC_ADDR).toNat
     (s.bit F.UPD_CTRL_RUN = true) ∧
     (s.bit F.UPD_STAT_CCBUSY = false) ∧
     (a % 64 = 0) ∧
     ((∀ j < 16, s.readable (a + 8 * j))) ∧
     (regionOf (a + 127) = regionOf a)) := by decide +kernel

theorem test_witness_FirmwareAndBootComplete_4 :
    let s : State := arranged [cfg [(Block.upd.run, 1)], Op.upd fun u => { u with running := some 1 }]
    let erase : Bool := false
    let off : BitVec 27 := 0x2800000
    let len : BitVec 27 := 5
    let data : List Byte := List.replicate 8 7
    (s.Inv) ∧
    (s.powered .upd = true) ∧
    (s.bit F.UPD_EVT_EN = false) ∧
    ((s.evq .upd).length < 8) ∧
    (let u := s.upd
     let b := u.state
     let m := if erase then len.toNat else data.length
     let within (k : Nat) : Prop := off.toNat < imageOff k + 0x1800000 ∧ imageOff k < off.toNat + m
     let kept (k : Nat) : Prop := b.confirmed = some k ∨ u.running = some k ∨ s.bit F.UPD_STAT_TRIAL = true
     (s.powered .sto = true) ∧
     (m ≠ 0) ∧
     (off.toNat + m ≤ 0x4000000) ∧
     (let k : Fin 2 := 1
      (within k) ∧
      (kept k))) := by decide +kernel

theorem test_witness_FirmwareAndBootComplete_5 :
    let valid : Nat → Bool := fun _ => true
    let b : BootState := ⟨some 0, none, 0, 0, 5, 10, false⟩
    let k : Fin 2 := 0
    (b.confirmed = some k.val) ∧
    (b.trial = none) ∧
    (valid k = true) := by decide +kernel

theorem test_witness_FirmwareAndBootComplete_6 :
    let valid : Nat → Bool := fun i => i == 1
    let b : BootState := ⟨some 0, none, 0, 0, 5, 10, false⟩
    let k : Fin 2 := 0
    (b.confirmed = some k.val) ∧
    (b.trial = none) ∧
    (valid k = false) ∧
    (valid (1 - k.val) = true) ∧
    (b.failed.getLsbD (1 - k.val) = false) := by decide +kernel

theorem test_witness_FirmwareAndBootComplete_7 :
    let valid : Nat → Bool := fun _ => false
    let b : BootState := ⟨some 0, none, 0, 0, 5, 10, false⟩
    let k : Fin 2 := 0
    (b.confirmed = some k.val) ∧
    (b.trial = none) ∧
    (valid 0 = false) ∧
    (valid 1 = false) := by decide +kernel

theorem test_witness_FirmwareAndBootComplete_8 :
    let valid : Nat → Bool := fun _ => true
    let b : BootState := onTrial
    let k : Fin 2 := 0
    (b.confirmed = some k.val) ∧
    (b.trial = some (1 - k.val)) ∧
    (valid (1 - k.val) = true) ∧
    (b.tries = 0) ∧
    (b.recovered = false) := by decide +kernel

theorem test_witness_FirmwareAndBootComplete_9 :
    let counts : Bool := true
    let valid : Nat → Bool := fun _ => true
    let b : BootState := { onTrial with tries := 1 }
    let k : Fin 2 := 0
    (b.confirmed = some k.val) ∧
    (b.trial = some (1 - k.val)) ∧
    (valid k = true) ∧
    (b.tries = 1) ∧
    (counts = true) := by decide +kernel

theorem test_witness_FirmwareAndBootComplete_10 :
    let s : State := arranged
        [Op.upd fun u => { u with state := onTrial }, Op.putBytes (csKey 0x400) (bootCopy onTrial 3),
        Op.putBytes (csKey 0x440) (bootCopy onTrial 2)]
    let i : Nat := 3
    let j : Nat := 2
    let b : BootState := onTrial
    let c : BootState := onTrial
    (s.Inv) ∧
    (s.powered .upd = true) ∧
    (s.upd.boot = true) ∧
    (s.bit F.BON_STAT_COMMIT_BUSY = false) ∧
    (s.bit F.UPD_EVT_EN = false) ∧
    ((s.evq .upd).length < 8) ∧
    (s.upd.recover = false) ∧
    (s.life ≠ 4) ∧
    ((∀ w < 32, weight (s.errAt (csKey (0x400 + 4 * w))) = 0)) ∧
    (bootState (s.csBytes 0x400 64) = some (i, b)) ∧
    (bootState (s.csBytes 0x440 64) = some (j, c)) ∧
    (j ≤ i) ∧
    (s.upd.state.floor = b.floor) := by decide +kernel

theorem test_witness_FirmwareAndBootComplete_11 :
    let s : State := arranged [cfg [(Block.upd.run, 1)], pulsesAre 32768, Op.upd fun u => { u with recovery := some ⟨none, none, none, some 0⟩ }]
    let r : Recovery := ⟨none, none, none, some 0⟩
    let eth : Bool := false
    let seq : BitVec 8 := 0
    let len : Word := 0x1800000
    (s.Inv) ∧
    (s.powered .upd = true) ∧
    (s.upd.recovery = some r) ∧
    (s.fld F.MEM_MAINT_STAT_GRANT = 0) ∧
    ([1, 2, 3].find? s.maintQueued = none) ∧
    (s.bit F.BON_STAT_COMMIT_BUSY = false) ∧
    (s.life ≠ 4) ∧
    (let hasIface := 1 ≤ (s.factory 0x15 1).headD 0 ∧ (s.factory 0x15 1).headD 0 ≤ 3
     let rif := eth = false ∨ hasIface
     let inOrder := r.seq.all (fun p => (p + 1) % 256 == seq.toNat) = true
     (r.path = none) ∧
     ((r.hello.all (· + 32768 ≤ s.pulses) = true)) ∧
     ((rif) ∧
      (inOrder) ∧
      (len.toNat ≤ 0x1800000) ∧
      (s.upd.state.confirmed = none))) := by decide +kernel

theorem test_witness_FirmwareAndBootComplete_12 :
    let s : State := arranged [cfg [(Block.upd.run, 1)], Op.upd fun u => { u with recovery := some ⟨some false, some (1, 1024), some 255, none⟩ }]
    let r : Recovery := ⟨some false, some (1, 1024), some 255, none⟩
    let eth : Bool := false
    let seq : BitVec 8 := 0
    let off : Word := 8
    let bytes : List Byte := List.replicate 1016 7
    (s.Inv) ∧
    (s.powered .upd = true) ∧
    (s.upd.recovery = some r) ∧
    (s.fld F.MEM_MAINT_STAT_GRANT = 0) ∧
    ([1, 2, 3].find? s.maintQueued = none) ∧
    (s.bit F.BON_STAT_COMMIT_BUSY = false) ∧
    (s.life ≠ 4) ∧
    (let hasIface := 1 ≤ (s.factory 0x15 1).headD 0 ∧ (s.factory 0x15 1).headD 0 ≤ 3
     let rif := eth = false ∨ hasIface
     let inOrder := r.seq.all (fun p => (p + 1) % 256 == seq.toNat) = true
     (r.path = some eth) ∧
     (rif) ∧
     (inOrder) ∧
     (let p := (1, 1024)
      (r.slot = some p) ∧
      (let a := 0x0C000000 + imageOff p.1 + off.toNat
       (off.toNat % 8 = 0) ∧
       (8 ≤ bytes.length) ∧
       (bytes.length ≤ 1016) ∧
       (off.toNat + bytes.length ≤ p.2) ∧
       ((∀ j < bytes.length, s.store.byte (a + j) = 0xFF))))) := by decide +kernel

theorem test_witness_FirmwareAndBootComplete_13 :
    let s : State := arranged [cfg [(Block.upd.run, 1)], Op.memu fun u => { u with nor := some ⟨0x3FFFFF8, 8, none⟩ }]
    let erase : Bool := false
    let off : BitVec 27 := 0x3FFFFF8
    let len : BitVec 27 := 5
    let data : List Byte := List.replicate 8 7
    (s.Inv) ∧
    (s.powered .upd = true) ∧
    (s.bit F.UPD_EVT_EN = false) ∧
    ((s.evq .upd).length < 8) ∧
    (let m := if erase then len.toNat else data.length
     (s.powered .sto = true) ∧
     (m ≠ 0) ∧
     (off.toNat + m ≤ 0x4000000) ∧
     (let o := ⟨0x3FFFFF8, 8, none⟩
      (s.blk.memu.nor = some o) ∧
      (s.norProtected off.toNat m = false))) := by decide +kernel

theorem test_witness_GauntletServicesComplete_1 :
    let services : List (Nat × (Fin 16 → Instr)) :=
      [ (0x01, .random), (0x02, .hash), (0x03, .gntVerify), (0x10, .encrypt), (0x11, .decrypt), (0x20, .keyGen), (0x21, .keyLoad),
        (0x22, .wrap), (0x23, .unwrap), (0x24, .derive), (0x25, .ecdh), (0x26, .pubkey), (0x27, .destroy), (0x30, .credLoad),
        (0x31, .credSeal), (0x32, .sessChallenge), (0x33, .sessOpen), (0x34, .sessClose), (0x40, .lcAdvance) ]
    ∀ p ∈ services,
    let s : State := arranged [gauntlet 1 [] (callOf p.1 [(0x39, [7])])]
    let n : Fin 16 := 0
    let c : Call := callOf p.1 [(0x39, [7])]
    (s.Inv) ∧
    (s.serves n c) ∧
    (c.svc = p.1) ∧
    ((s.callCheck c).1 ≠ 0) ∧
    (¬ (p.1 = 0x40 ∧ n = 0 ∧ s.bit F.GNT_STAT_TRANSIT = true)) := by decide +kernel

theorem test_witness_GauntletServicesComplete_2 :
    let s : State := arranged [gauntlet 1 ([]) (callOf 0x1 [(0x14, leBytes 4 0x1000), (0x18, leBytes 4 0x10030000)])]
    let n : Fin 16 := 0
    let c : Call := callOf 0x1 [(0x14, leBytes 4 0x1000), (0x18, leBytes 4 0x10030000)]
    (s.Inv) ∧
    (let room (m : Nat) : Prop :=
       (∀ j < (m + 7) / 8, s.reaches (c.dst + 8 * j) = true) ∧ (c.dst + (m + 7) / 8 * 8 ≤ c.blk ∨ c.blk + 64 ≤ c.dst)
     let passes (svc : Nat) : Prop := s.serves n c ∧ c.svc = svc ∧ s.callCheck c = (0, 0)
     (passes 1) ∧
     (s.bit F.GNT_STAT_DRBG_OK = true) ∧
     (room c.len)) := by decide +kernel

theorem test_witness_GauntletServicesComplete_3 :
    let s : State := arranged [gauntlet 1 ([]) (callOf 0x1 [(0x14, leBytes 4 0x1), (0x18, leBytes 4 0x10030000)]), cfg [(F.GNT_STAT_DRBG_OK, 0)]]
    let n : Fin 16 := 0
    let c : Call := callOf 0x1 [(0x14, leBytes 4 0x1), (0x18, leBytes 4 0x10030000)]
    (s.Inv) ∧
    (let passes (svc : Nat) : Prop := s.serves n c ∧ c.svc = svc ∧ s.callCheck c = (0, 0)
     (passes 1) ∧
     (s.bit F.GNT_STAT_DRBG_OK = false)) := by decide +kernel

theorem test_witness_GauntletServicesComplete_4 :
    let s : State := arranged [gauntlet 1 ([]) (callOf 0x2 [(0x10, leBytes 4 0x10010007), (0x14, leBytes 4 0x41), (0x18, leBytes 4 0x10030000)])]
    let n : Fin 16 := 0
    let c : Call := callOf 0x2 [(0x10, leBytes 4 0x10010007), (0x14, leBytes 4 0x41), (0x18, leBytes 4 0x10030000)]
    (s.Inv) ∧
    (let given (a m : Nat) : Prop := ∀ j < (a % 8 + m + 7) / 8, s.readable (a / 8 * 8 + 8 * j)
     let room (m : Nat) : Prop :=
       (∀ j < (m + 7) / 8, s.reaches (c.dst + 8 * j) = true) ∧ (c.dst + (m + 7) / 8 * 8 ≤ c.blk ∨ c.blk + 64 ≤ c.dst)
     let passes (svc : Nat) : Prop := s.serves n c ∧ c.svc = svc ∧ s.callCheck c = (0, 0)
     (passes 2) ∧
     (given c.src c.len) ∧
     (room 32)) := by decide +kernel

theorem test_witness_GauntletServicesComplete_5 :
    let s : State := arranged
        [gauntlet 1 ([]) (callOf 0x3 [(0xF, [2]), (0x10, leBytes 4 0x10010007), (0x20, leBytes 4 0x10020007), (0x18, leBytes 4 0x10030000)])]
    let n : Fin 16 := 0
    let c : Call := callOf 0x3 [(0xF, [2]), (0x10, leBytes 4 0x10010007), (0x20, leBytes 4 0x10020007), (0x18, leBytes 4 0x10030000)]
    (s.Inv) ∧
    (let given (a m : Nat) : Prop := ∀ j < (a % 8 + m + 7) / 8, s.readable (a / 8 * 8 + 8 * j)
     let passes (svc : Nat) : Prop := s.serves n c ∧ c.svc = svc ∧ s.callCheck c = (0, 0)
     (passes 3) ∧
     (given c.src 32) ∧
     (given c.aux 64) ∧
     ((c.index = 2 → given c.dst 64))) := by decide +kernel

theorem test_witness_GauntletServicesComplete_6 :
    let s : State := arranged
        [gauntlet 1 (keyed 0x81) (callOf 0x10
        [(0x8, [239, 0, 1, 16]), (0x10, leBytes 4 0x10010007), (0x14, leBytes 4 0x21), (0x20, leBytes 4 0x10020007), (0x24, leBytes 4 0x14),
        (0x28, List.replicate 12 7), (0x18, leBytes 4 0x10030000)])]
    let n : Fin 16 := 0
    let c : Call := callOf 0x10
        [(0x8, [239, 0, 1, 16]), (0x10, leBytes 4 0x10010007), (0x14, leBytes 4 0x21), (0x20, leBytes 4 0x10020007), (0x24, leBytes 4 0x14),
        (0x28, List.replicate 12 7), (0x18, leBytes 4 0x10030000)]
    (s.Inv) ∧
    (let given (a m : Nat) : Prop := ∀ j < (a % 8 + m + 7) / 8, s.readable (a / 8 * 8 + 8 * j)
     let room (m : Nat) : Prop :=
       (∀ j < (m + 7) / 8, s.reaches (c.dst + 8 * j) = true) ∧ (c.dst + (m + 7) / 8 * 8 ≤ c.blk ∨ c.blk + 64 ≤ c.dst)
     let passes (svc : Nat) : Prop := s.serves n c ∧ c.svc = svc ∧ s.callCheck c = (0, 0)
     (passes 0x10) ∧
     (given c.src c.len) ∧
     (given c.aux (if c.mode ≤ 2 then c.auxLen else 0)) ∧
     (c.mode = 1) ∧
     (room (c.len + 16))) := by decide +kernel

theorem test_witness_GauntletServicesComplete_7 :
    let s : State := arranged
        [gauntlet 1 (keyed 0x82) (callOf 0x10
        [(0x8, [239, 0, 2, 8]), (0x10, leBytes 4 0x10010007), (0x14, leBytes 4 0x21), (0x20, leBytes 4 0x10020007), (0x24, leBytes 4 0x14),
        (0x28, List.replicate 13 7), (0x18, leBytes 4 0x10030000)])]
    let n : Fin 16 := 0
    let c : Call := callOf 0x10
        [(0x8, [239, 0, 2, 8]), (0x10, leBytes 4 0x10010007), (0x14, leBytes 4 0x21), (0x20, leBytes 4 0x10020007), (0x24, leBytes 4 0x14),
        (0x28, List.replicate 13 7), (0x18, leBytes 4 0x10030000)]
    (s.Inv) ∧
    (let given (a m : Nat) : Prop := ∀ j < (a % 8 + m + 7) / 8, s.readable (a / 8 * 8 + 8 * j)
     let room (m : Nat) : Prop :=
       (∀ j < (m + 7) / 8, s.reaches (c.dst + 8 * j) = true) ∧ (c.dst + (m + 7) / 8 * 8 ≤ c.blk ∨ c.blk + 64 ≤ c.dst)
     let passes (svc : Nat) : Prop := s.serves n c ∧ c.svc = svc ∧ s.callCheck c = (0, 0)
     (passes 0x10) ∧
     (given c.src c.len) ∧
     (given c.aux (if c.mode ≤ 2 then c.auxLen else 0)) ∧
     (c.mode = 2) ∧
     (room (c.len + c.tag))) := by decide +kernel

theorem test_witness_GauntletServicesComplete_8 :
    let s : State := arranged
        [gauntlet 1 (keyed 0x81) (callOf 0x10
        [(0x8, [239, 0, 3, 0]), (0x10, leBytes 4 0x10010007), (0x14, leBytes 4 0x21), (0x20, leBytes 4 0x10020007), (0x24, leBytes 4 0x14),
        (0x28, List.replicate 16 7), (0x18, leBytes 4 0x10030000)])]
    let n : Fin 16 := 0
    let c : Call := callOf 0x10
        [(0x8, [239, 0, 3, 0]), (0x10, leBytes 4 0x10010007), (0x14, leBytes 4 0x21), (0x20, leBytes 4 0x10020007), (0x24, leBytes 4 0x14),
        (0x28, List.replicate 16 7), (0x18, leBytes 4 0x10030000)]
    (s.Inv) ∧
    (let given (a m : Nat) : Prop := ∀ j < (a % 8 + m + 7) / 8, s.readable (a / 8 * 8 + 8 * j)
     let room (m : Nat) : Prop :=
       (∀ j < (m + 7) / 8, s.reaches (c.dst + 8 * j) = true) ∧ (c.dst + (m + 7) / 8 * 8 ≤ c.blk ∨ c.blk + 64 ≤ c.dst)
     let passes (svc : Nat) : Prop := s.serves n c ∧ c.svc = svc ∧ s.callCheck c = (0, 0)
     (passes 0x10) ∧
     (given c.src c.len) ∧
     (given c.aux (if c.mode ≤ 2 then c.auxLen else 0)) ∧
     (c.mode = 3) ∧
     (room c.len)) := by decide +kernel

theorem test_witness_GauntletServicesComplete_9 :
    let s : State := arranged
        [gauntlet 1 (keyed 0x81) (callOf 0x10
        [(0x8, [239, 0, 4, 4]), (0x10, leBytes 4 0x10010007), (0x14, leBytes 4 0x21), (0x20, leBytes 4 0x10020007), (0x24, leBytes 4 0x14),
        (0x28, List.replicate 0 7), (0x18, leBytes 4 0x10030000)])]
    let n : Fin 16 := 0
    let c : Call := callOf 0x10
        [(0x8, [239, 0, 4, 4]), (0x10, leBytes 4 0x10010007), (0x14, leBytes 4 0x21), (0x20, leBytes 4 0x10020007), (0x24, leBytes 4 0x14),
        (0x28, List.replicate 0 7), (0x18, leBytes 4 0x10030000)]
    (s.Inv) ∧
    (let given (a m : Nat) : Prop := ∀ j < (a % 8 + m + 7) / 8, s.readable (a / 8 * 8 + 8 * j)
     let room (m : Nat) : Prop :=
       (∀ j < (m + 7) / 8, s.reaches (c.dst + 8 * j) = true) ∧ (c.dst + (m + 7) / 8 * 8 ≤ c.blk ∨ c.blk + 64 ≤ c.dst)
     let passes (svc : Nat) : Prop := s.serves n c ∧ c.svc = svc ∧ s.callCheck c = (0, 0)
     (passes 0x10) ∧
     (given c.src c.len) ∧
     (given c.aux (if c.mode ≤ 2 then c.auxLen else 0)) ∧
     (c.mode = 4) ∧
     (room c.tag)) := by decide +kernel

theorem test_witness_GauntletServicesComplete_10 :
    let s : State := arranged
        [gauntlet 1 (keyed 0x83) (callOf 0x10
        [(0x8, [239, 0, 5, 16]), (0x10, leBytes 4 0x10010007), (0x14, leBytes 4 0x21), (0x20, leBytes 4 0x10020007), (0x24, leBytes 4 0x14),
        (0x28, List.replicate 0 7), (0x18, leBytes 4 0x10030000)])]
    let n : Fin 16 := 0
    let c : Call := callOf 0x10
        [(0x8, [239, 0, 5, 16]), (0x10, leBytes 4 0x10010007), (0x14, leBytes 4 0x21), (0x20, leBytes 4 0x10020007), (0x24, leBytes 4 0x14),
        (0x28, List.replicate 0 7), (0x18, leBytes 4 0x10030000)]
    (s.Inv) ∧
    (let given (a m : Nat) : Prop := ∀ j < (a % 8 + m + 7) / 8, s.readable (a / 8 * 8 + 8 * j)
     let room (m : Nat) : Prop :=
       (∀ j < (m + 7) / 8, s.reaches (c.dst + 8 * j) = true) ∧ (c.dst + (m + 7) / 8 * 8 ≤ c.blk ∨ c.blk + 64 ≤ c.dst)
     let passes (svc : Nat) : Prop := s.serves n c ∧ c.svc = svc ∧ s.callCheck c = (0, 0)
     (passes 0x10) ∧
     (given c.src c.len) ∧
     (given c.aux (if c.mode ≤ 2 then c.auxLen else 0)) ∧
     (c.mode = 5) ∧
     (room c.tag)) := by decide +kernel

theorem test_witness_GauntletServicesComplete_11 :
    let s : State := arranged
        [gauntlet 1 (keyed 0x84) (callOf 0x10
        [(0x8, [239, 0, 6, 0]), (0x10, leBytes 4 0x10010007), (0x14, leBytes 4 0x20), (0x20, leBytes 4 0x10020007), (0x24, leBytes 4 0x14),
        (0x28, List.replicate 0 7), (0x18, leBytes 4 0x10030000)])]
    let n : Fin 16 := 0
    let c : Call := callOf 0x10
        [(0x8, [239, 0, 6, 0]), (0x10, leBytes 4 0x10010007), (0x14, leBytes 4 0x20), (0x20, leBytes 4 0x10020007), (0x24, leBytes 4 0x14),
        (0x28, List.replicate 0 7), (0x18, leBytes 4 0x10030000)]
    (s.Inv) ∧
    (let given (a m : Nat) : Prop := ∀ j < (a % 8 + m + 7) / 8, s.readable (a / 8 * 8 + 8 * j)
     let room (m : Nat) : Prop :=
       (∀ j < (m + 7) / 8, s.reaches (c.dst + 8 * j) = true) ∧ (c.dst + (m + 7) / 8 * 8 ≤ c.blk ∨ c.blk + 64 ≤ c.dst)
     let passes (svc : Nat) : Prop := s.serves n c ∧ c.svc = svc ∧ s.callCheck c = (0, 0)
     (passes 0x10) ∧
     (given c.src c.len) ∧
     (given c.aux (if c.mode ≤ 2 then c.auxLen else 0)) ∧
     (c.mode = 6) ∧
     (room 64)) := by decide +kernel

theorem test_witness_GauntletServicesComplete_12 :
    let s : State := arranged
        [gauntlet 1 (keyed 0x91) (callOf 0x11
        [(0x8, [239, 0, 1, 16]), (0x10, leBytes 4 0x10010007), (0x14, leBytes 4 0x10), (0x20, leBytes 4 0x10020007), (0x24, leBytes 4 0x14),
        (0x28, List.replicate 12 7), (0x18, leBytes 4 0x10030000)])]
    let n : Fin 16 := 0
    let c : Call := callOf 0x11
        [(0x8, [239, 0, 1, 16]), (0x10, leBytes 4 0x10010007), (0x14, leBytes 4 0x10), (0x20, leBytes 4 0x10020007), (0x24, leBytes 4 0x14),
        (0x28, List.replicate 12 7), (0x18, leBytes 4 0x10030000)]
    (s.Inv) ∧
    (let given (a m : Nat) : Prop := ∀ j < (a % 8 + m + 7) / 8, s.readable (a / 8 * 8 + 8 * j)
     let room (m : Nat) : Prop :=
       (∀ j < (m + 7) / 8, s.reaches (c.dst + 8 * j) = true) ∧ (c.dst + (m + 7) / 8 * 8 ≤ c.blk ∨ c.blk + 64 ≤ c.dst)
     let passes (svc : Nat) : Prop := s.serves n c ∧ c.svc = svc ∧ s.callCheck c = (0, 0)
     (passes 0x11) ∧
     (given c.src c.len) ∧
     (given c.aux (if c.mode ≤ 2 then c.auxLen else 0)) ∧
     (c.mode = 1) ∧
     (room (c.len - 16))) := by decide +kernel

theorem test_witness_GauntletServicesComplete_13 :
    let s : State := arranged
        [gauntlet 1 (keyed 0x92) (callOf 0x11
        [(0x8, [239, 0, 2, 8]), (0x10, leBytes 4 0x10010007), (0x14, leBytes 4 0x8), (0x20, leBytes 4 0x10020007), (0x24, leBytes 4 0x14),
        (0x28, List.replicate 13 7), (0x18, leBytes 4 0x10030000)])]
    let n : Fin 16 := 0
    let c : Call := callOf 0x11
        [(0x8, [239, 0, 2, 8]), (0x10, leBytes 4 0x10010007), (0x14, leBytes 4 0x8), (0x20, leBytes 4 0x10020007), (0x24, leBytes 4 0x14),
        (0x28, List.replicate 13 7), (0x18, leBytes 4 0x10030000)]
    (s.Inv) ∧
    (let given (a m : Nat) : Prop := ∀ j < (a % 8 + m + 7) / 8, s.readable (a / 8 * 8 + 8 * j)
     let room (m : Nat) : Prop :=
       (∀ j < (m + 7) / 8, s.reaches (c.dst + 8 * j) = true) ∧ (c.dst + (m + 7) / 8 * 8 ≤ c.blk ∨ c.blk + 64 ≤ c.dst)
     let passes (svc : Nat) : Prop := s.serves n c ∧ c.svc = svc ∧ s.callCheck c = (0, 0)
     (passes 0x11) ∧
     (given c.src c.len) ∧
     (given c.aux (if c.mode ≤ 2 then c.auxLen else 0)) ∧
     (c.mode = 2) ∧
     (room (c.len - c.tag))) := by decide +kernel

theorem test_witness_GauntletServicesComplete_14 :
    let s : State := arranged
        [gauntlet 1 (keyed 0x91) (callOf 0x11
        [(0x8, [239, 0, 3, 0]), (0x10, leBytes 4 0x10010007), (0x14, leBytes 4 0x21), (0x20, leBytes 4 0x10020007), (0x24, leBytes 4 0x14),
        (0x28, List.replicate 16 7), (0x18, leBytes 4 0x10030000)])]
    let n : Fin 16 := 0
    let c : Call := callOf 0x11
        [(0x8, [239, 0, 3, 0]), (0x10, leBytes 4 0x10010007), (0x14, leBytes 4 0x21), (0x20, leBytes 4 0x10020007), (0x24, leBytes 4 0x14),
        (0x28, List.replicate 16 7), (0x18, leBytes 4 0x10030000)]
    (s.Inv) ∧
    (let given (a m : Nat) : Prop := ∀ j < (a % 8 + m + 7) / 8, s.readable (a / 8 * 8 + 8 * j)
     let room (m : Nat) : Prop :=
       (∀ j < (m + 7) / 8, s.reaches (c.dst + 8 * j) = true) ∧ (c.dst + (m + 7) / 8 * 8 ≤ c.blk ∨ c.blk + 64 ≤ c.dst)
     let passes (svc : Nat) : Prop := s.serves n c ∧ c.svc = svc ∧ s.callCheck c = (0, 0)
     (passes 0x11) ∧
     (given c.src c.len) ∧
     (given c.aux (if c.mode ≤ 2 then c.auxLen else 0)) ∧
     (c.mode = 3) ∧
     (room c.len)) := by decide +kernel

theorem test_witness_GauntletServicesComplete_15 :
    let s : State := arranged
        [gauntlet 1 (keyed 0x91) (callOf 0x11
        [(0x8, [239, 0, 4, 4]), (0x10, leBytes 4 0x10010007), (0x14, leBytes 4 0x4), (0x20, leBytes 4 0x10020007), (0x24, leBytes 4 0x14),
        (0x28, List.replicate 0 7)])]
    let n : Fin 16 := 0
    let c : Call := callOf 0x11
        [(0x8, [239, 0, 4, 4]), (0x10, leBytes 4 0x10010007), (0x14, leBytes 4 0x4), (0x20, leBytes 4 0x10020007), (0x24, leBytes 4 0x14),
        (0x28, List.replicate 0 7)]
    (s.Inv) ∧
    (let given (a m : Nat) : Prop := ∀ j < (a % 8 + m + 7) / 8, s.readable (a / 8 * 8 + 8 * j)
     let passes (svc : Nat) : Prop := s.serves n c ∧ c.svc = svc ∧ s.callCheck c = (0, 0)
     (passes 0x11) ∧
     (given c.src c.len) ∧
     (given c.aux (if c.mode ≤ 2 then c.auxLen else 0)) ∧
     (c.mode = 4 ∨ c.mode = 5)) := by decide +kernel

theorem test_witness_GauntletServicesComplete_16 :
    let s : State := arranged
        [gauntlet 1 ((238, ⟨0xC1, List.replicate 16 0⟩) :: keyed 0xA2) (callOf 0x22 [(0x8, [239, 238]), (0x18, leBytes 4 0x10030000)])]
    let n : Fin 16 := 0
    let c : Call := callOf 0x22 [(0x8, [239, 238]), (0x18, leBytes 4 0x10030000)]
    (s.Inv) ∧
    (let room (m : Nat) : Prop :=
       (∀ j < (m + 7) / 8, s.reaches (c.dst + 8 * j) = true) ∧ (c.dst + (m + 7) / 8 * 8 ≤ c.blk ∨ c.blk + 64 ≤ c.dst)
     let passes (svc : Nat) : Prop := s.serves n c ∧ c.svc = svc ∧ s.callCheck c = (0, 0)
     (passes 0x22) ∧
     (room 48)) := by decide +kernel

theorem test_witness_GauntletServicesComplete_17 :
    let s : State := arranged [gauntlet 1 (keyed 0x84) (callOf 0x26 [(0x8, [239]), (0x18, leBytes 4 0x10030000)])]
    let n : Fin 16 := 0
    let c : Call := callOf 0x26 [(0x8, [239]), (0x18, leBytes 4 0x10030000)]
    (s.Inv) ∧
    (let room (m : Nat) : Prop :=
       (∀ j < (m + 7) / 8, s.reaches (c.dst + 8 * j) = true) ∧ (c.dst + (m + 7) / 8 * 8 ≤ c.blk ∨ c.blk + 64 ≤ c.dst)
     let passes (svc : Nat) : Prop := s.serves n c ∧ c.svc = svc ∧ s.callCheck c = (0, 0)
     (passes 0x26) ∧
     (room 64)) := by decide +kernel

theorem test_witness_GauntletServicesComplete_18 :
    let s : State := arranged [rillUp 63 0, gauntlet 1 [] { callOf 1 [] with answer := some 5, rill := some 63 }]
    let n : Fin 16 := 0
    let c : Call := { callOf 1 [] with answer := some 5, rill := some 63 }
    let r : RillNo := 63
    let st : DWord := 5
    (s.Inv) ∧
    (s.powered .gnt = true) ∧
    (s.gnt.calls[n.val]? = some c) ∧
    (c.answer = some st) ∧
    (c.rill = some r) ∧
    (s.takes r) ∧
    (s.reaches c.blk = true) ∧
    (s.unawaited) ∧
    ((s.nextSlot r + 8 ≤ c.blk ∨ c.blk + 8 ≤ s.nextSlot r)) := by decide +kernel

theorem test_witness_GauntletKeyServicesComplete_1 :
    let s : State := arranged
        [gauntlet 1 ([]) (callOf 0x20 [(0x9, [238]), (0xC, [0x81])]), Op.setEvq .gnt (List.replicate 7 5), cfg
        [(F.RAD_KEY_CFG_VALID 7, 1), (F.RAD_KEY_CFG_ENC_SLOT 7, 238)], cfg [(F.GNT_STAT_DRBG_OK, 0)]]
    let n : Fin 16 := 0
    let c : Call := callOf 0x20 [(0x9, [238]), (0xC, [0x81])]
    (s.Inv) ∧
    (s.powered .rad = true) ∧
    (s.evHeld gntEvt = true) ∧
    ((s.evq .gnt).length < 8) ∧
    (let passes (svc : Nat) : Prop := s.serves n c ∧ c.svc = svc ∧ s.callCheck c = (0, 0)
     (passes 0x20) ∧
     (s.bit F.GNT_STAT_DRBG_OK = false)) := by decide +kernel

theorem test_witness_GauntletKeyServicesComplete_2 :
    let s : State := arranged
        [gauntlet 1 ([]) (callOf 0x20 [(0x9, [238]), (0xC, [0x81])]), Op.setEvq .gnt (List.replicate 7 5), cfg
        [(F.RAD_KEY_CFG_VALID 7, 1), (F.RAD_KEY_CFG_ENC_SLOT 7, 238)]]
    let n : Fin 16 := 0
    let c : Call := callOf 0x20 [(0x9, [238]), (0xC, [0x81])]
    (s.Inv) ∧
    (s.powered .rad = true) ∧
    (s.evHeld gntEvt = true) ∧
    ((s.evq .gnt).length < 8) ∧
    (let passes (svc : Nat) : Prop := s.serves n c ∧ c.svc = svc ∧ s.callCheck c = (0, 0)
     (passes 0x20) ∧
     (s.bit F.GNT_STAT_DRBG_OK = true)) := by decide +kernel

theorem test_witness_GauntletKeyServicesComplete_3 :
    let s : State := arranged
        [gauntlet 1 ([]) (callOf 0x21 [(0x9, [238]), (0xC, [0x81]), (0x10, leBytes 4 0x10010007), (0x14, leBytes 4 0x10)]),
        Op.setEvq .gnt (List.replicate 7 5), cfg [(F.RAD_KEY_CFG_VALID 7, 1), (F.RAD_KEY_CFG_ENC_SLOT 7, 238)]]
    let n : Fin 16 := 0
    let c : Call := callOf 0x21 [(0x9, [238]), (0xC, [0x81]), (0x10, leBytes 4 0x10010007), (0x14, leBytes 4 0x10)]
    (s.Inv) ∧
    (s.powered .rad = true) ∧
    (s.evHeld gntEvt = true) ∧
    ((s.evq .gnt).length < 8) ∧
    (let given (a m : Nat) : Prop := ∀ j < (a % 8 + m + 7) / 8, s.readable (a / 8 * 8 + 8 * j)
     let passes (svc : Nat) : Prop := s.serves n c ∧ c.svc = svc ∧ s.callCheck c = (0, 0)
     (passes 0x21) ∧
     (given c.src c.len)) := by decide +kernel

theorem test_witness_GauntletKeyServicesComplete_4 :
    let s : State := arranged
        [gauntlet 1 (keyed 0xA2) (callOf 0x23 [(0x8, [239, 238]), (0x10, leBytes 4 0x10010007)]), Op.setEvq .gnt (List.replicate 7 5), cfg
        [(F.RAD_KEY_CFG_VALID 7, 1), (F.RAD_KEY_CFG_ENC_SLOT 7, 238)]]
    let n : Fin 16 := 0
    let c : Call := callOf 0x23 [(0x8, [239, 238]), (0x10, leBytes 4 0x10010007)]
    (s.Inv) ∧
    (s.powered .rad = true) ∧
    (s.evHeld gntEvt = true) ∧
    ((s.evq .gnt).length < 8) ∧
    (let given (a m : Nat) : Prop := ∀ j < (a % 8 + m + 7) / 8, s.readable (a / 8 * 8 + 8 * j)
     let passes (svc : Nat) : Prop := s.serves n c ∧ c.svc = svc ∧ s.callCheck c = (0, 0)
     (passes 0x23) ∧
     (given c.src 48)) := by decide +kernel

theorem test_witness_GauntletKeyServicesComplete_5 :
    let s : State := arranged
        [gauntlet 1 (keyed 0xB3) (callOf 0x24 [(0x8, [239, 238]), (0xC, [0x81]), (0x10, leBytes 4 0x10010007), (0x14, leBytes 4 0x100)]),
        Op.setEvq .gnt (List.replicate 7 5), cfg [(F.RAD_KEY_CFG_VALID 7, 1), (F.RAD_KEY_CFG_ENC_SLOT 7, 238)]]
    let n : Fin 16 := 0
    let c : Call := callOf 0x24 [(0x8, [239, 238]), (0xC, [0x81]), (0x10, leBytes 4 0x10010007), (0x14, leBytes 4 0x100)]
    (s.Inv) ∧
    (s.powered .rad = true) ∧
    (s.evHeld gntEvt = true) ∧
    ((s.evq .gnt).length < 8) ∧
    (let given (a m : Nat) : Prop := ∀ j < (a % 8 + m + 7) / 8, s.readable (a / 8 * 8 + 8 * j)
     let passes (svc : Nat) : Prop := s.serves n c ∧ c.svc = svc ∧ s.callCheck c = (0, 0)
     (passes 0x24) ∧
     (given c.src c.len)) := by decide +kernel

theorem test_witness_GauntletKeyServicesComplete_6 :
    let s : State := arranged
        [gauntlet 1 (keyOne 0xB4) (callOf 0x25
        [(0x8, [239, 238]), (0xC, [0x81]), (0x10, leBytes 4 0x10010007), (0x20, leBytes 4 0x10020007), (0x24, leBytes 4 0x14)]),
        Op.setEvq .gnt (List.replicate 7 5), cfg [(F.RAD_KEY_CFG_VALID 7, 1), (F.RAD_KEY_CFG_ENC_SLOT 7, 238)]]
    let n : Fin 16 := 0
    let c : Call := callOf 0x25
        [(0x8, [239, 238]), (0xC, [0x81]), (0x10, leBytes 4 0x10010007), (0x20, leBytes 4 0x10020007), (0x24, leBytes 4 0x14)]
    (s.Inv) ∧
    (s.powered .rad = true) ∧
    (s.evHeld gntEvt = true) ∧
    ((s.evq .gnt).length < 8) ∧
    (let bytes (a m : Nat) : List Nat := (List.range m).map fun j => s.byteAt (a + j)
     let given (a m : Nat) : Prop := ∀ j < (a % 8 + m + 7) / 8, s.readable (a / 8 * 8 + 8 * j)
     let passes (svc : Nat) : Prop := s.serves n c ∧ c.svc = svc ∧ s.callCheck c = (0, 0)
     let key := s.keyOf c.slotA
     (passes 0x25) ∧
     (given c.src 64) ∧
     (given c.aux c.auxLen) ∧
     (ecdhX (cNat key) (bytes c.src 64) = none)) := by decide +kernel

theorem test_witness_GauntletKeyServicesComplete_7 :
    let s : State := arranged
        [gauntlet 1 (keyOne 0xB4) (callOf 0x25
        [(0x8, [239, 238]), (0xC, [0x81]), (0x10, leBytes 4 0x10010000), (0x20, leBytes 4 0x10020007), (0x24, leBytes 4 0x14)]),
        Op.setEvq .gnt (List.replicate 7 5), cfg [(F.RAD_KEY_CFG_VALID 7, 1), (F.RAD_KEY_CFG_ENC_SLOT 7, 238)],
        Op.hwWrite 0x10010000 (octets (cBytes 32 pG.1 ++ cBytes 32 pG.2))]
    let n : Fin 16 := 0
    let c : Call := callOf 0x25
        [(0x8, [239, 238]), (0xC, [0x81]), (0x10, leBytes 4 0x10010000), (0x20, leBytes 4 0x10020007), (0x24, leBytes 4 0x14)]
    (s.Inv) ∧
    (s.powered .rad = true) ∧
    (s.evHeld gntEvt = true) ∧
    ((s.evq .gnt).length < 8) ∧
    (let bytes (a m : Nat) : List Nat := (List.range m).map fun j => s.byteAt (a + j)
     let given (a m : Nat) : Prop := ∀ j < (a % 8 + m + 7) / 8, s.readable (a / 8 * 8 + 8 * j)
     let passes (svc : Nat) : Prop := s.serves n c ∧ c.svc = svc ∧ s.callCheck c = (0, 0)
     let key := s.keyOf c.slotA
     (passes 0x25) ∧
     (given c.src 64) ∧
     (given c.aux c.auxLen) ∧
     (let x := cBytes 32 pG.1
      (ecdhX (cNat key) (bytes c.src 64) = some x))) := by decide +kernel

theorem test_witness_GauntletKeyServicesComplete_8 :
    let s : State := arranged
        [gauntlet 1 ([(238, ⟨0x81, List.replicate 16 0⟩)]) (callOf 0x27 [(0x9, [238])]), Op.setEvq .gnt (List.replicate 7 5), cfg
        [(F.RAD_KEY_CFG_VALID 7, 1), (F.RAD_KEY_CFG_ENC_SLOT 7, 238)]]
    let n : Fin 16 := 0
    let c : Call := callOf 0x27 [(0x9, [238])]
    (s.Inv) ∧
    (s.powered .rad = true) ∧
    (s.evHeld gntEvt = true) ∧
    ((s.evq .gnt).length < 8) ∧
    (let b := c.slotB
     let passes (svc : Nat) : Prop := s.serves n c ∧ c.svc = svc ∧ s.callCheck c = (0, 0)
     (passes 0x27) ∧
     ((s.slot b).isSome)) := by decide +kernel

theorem test_witness_GauntletKeyServicesComplete_9 :
    let s : State := arranged
        [gauntlet 1 ([]) (callOf 0x27 [(0x9, [238])]), Op.setEvq .gnt (List.replicate 7 5), cfg
        [(F.RAD_KEY_CFG_VALID 7, 1), (F.RAD_KEY_CFG_ENC_SLOT 7, 238)]]
    let n : Fin 16 := 0
    let c : Call := callOf 0x27 [(0x9, [238])]
    (s.Inv) ∧
    (s.powered .rad = true) ∧
    (s.evHeld gntEvt = true) ∧
    ((s.evq .gnt).length < 8) ∧
    (let b := c.slotB
     let passes (svc : Nat) : Prop := s.serves n c ∧ c.svc = svc ∧ s.callCheck c = (0, 0)
     (passes 0x27) ∧
     (s.slot b = none)) := by decide +kernel

theorem test_witness_CredentialsAndSessionsComplete_1 :
    let s : State := arranged
        [gauntlet 1 ([]) (callOf 0x30 [(0xE, [0, 15]), (0x10, leBytes 4 0x10010007)]), Op.setEvq .gnt (List.replicate 6 5), cfg
        [(F.RAD_KEY_CFG_VALID 7, 1), (F.RAD_KEY_CFG_ENC_SLOT 7, 238)]]
    let n : Fin 16 := 0
    let c : Call := callOf 0x30 [(0xE, [0, 15]), (0x10, leBytes 4 0x10010007)]
    let k : Fin 16 := 15
    (s.Inv) ∧
    (s.evHeld gntEvt = true) ∧
    ((s.evq .gnt).length < 7) ∧
    ((∀ k < 8, s.bit (F.RAD_KEY_CFG_VALID k) = true → s.fld (F.RAD_KEY_CFG_ENC_SLOT k) < 240 ∧ s.fld (F.RAD_KEY_CFG_DEC_SLOT k) < 240)) ∧
    (let given (a m : Nat) : Prop := ∀ j < (a % 8 + m + 7) / 8, s.readable (a / 8 * 8 + 8 * j)
     let passes (svc : Nat) : Prop := s.serves n c ∧ c.svc = svc ∧ s.callCheck c = (0, 0)
     (passes 0x30) ∧
     (given c.src 160)) := by decide +kernel

theorem test_witness_CredentialsAndSessionsComplete_2 :
    let s : State := arranged
        [gauntlet 2 ([]) (callOf 0x31 [(0x10, leBytes 4 0x10010007), (0x18, leBytes 4 0x10030000)]), Op.setEvq .gnt (List.replicate 6 5), cfg
        [(F.RAD_KEY_CFG_VALID 7, 1), (F.RAD_KEY_CFG_ENC_SLOT 7, 238)]]
    let n : Fin 16 := 0
    let c : Call := callOf 0x31 [(0x10, leBytes 4 0x10010007), (0x18, leBytes 4 0x10030000)]
    let k : Fin 16 := 15
    (s.Inv) ∧
    (s.evHeld gntEvt = true) ∧
    ((s.evq .gnt).length < 7) ∧
    ((∀ k < 8, s.bit (F.RAD_KEY_CFG_VALID k) = true → s.fld (F.RAD_KEY_CFG_ENC_SLOT k) < 240 ∧ s.fld (F.RAD_KEY_CFG_DEC_SLOT k) < 240)) ∧
    (let passes (svc : Nat) : Prop := s.serves n c ∧ c.svc = svc ∧ s.callCheck c = (0, 0)
     let i := c.session
     (passes 0x31) ∧
     (s.life = 2) ∧
     (s.isAdmin i = false)) := by decide +kernel

theorem test_witness_CredentialsAndSessionsComplete_3 :
    let s : State := arranged
        [gauntlet 1 ([]) (callOf 0x31 [(0x10, leBytes 4 0x10010000), (0x18, leBytes 4 0x10030000)]), Op.setEvq .gnt (List.replicate 6 5), cfg
        [(F.RAD_KEY_CFG_VALID 7, 1), (F.RAD_KEY_CFG_ENC_SLOT 7, 238)], Op.hwWrite 0x10010000 ([2, 2, 7, 0] ++ List.replicate 124 0 : List Byte)]
    let n : Fin 16 := 0
    let c : Call := callOf 0x31 [(0x10, leBytes 4 0x10010000), (0x18, leBytes 4 0x10030000)]
    let k : Fin 16 := 15
    (s.Inv) ∧
    (s.evHeld gntEvt = true) ∧
    ((s.evq .gnt).length < 7) ∧
    ((∀ k < 8, s.bit (F.RAD_KEY_CFG_VALID k) = true → s.fld (F.RAD_KEY_CFG_ENC_SLOT k) < 240 ∧ s.fld (F.RAD_KEY_CFG_DEC_SLOT k) < 240)) ∧
    (let bytes (a m : Nat) : List Nat := (List.range m).map fun j => s.byteAt (a + j)
     let given (a m : Nat) : Prop := ∀ j < (a % 8 + m + 7) / 8, s.readable (a / 8 * 8 + 8 * j)
     let room (m : Nat) : Prop :=
       (∀ j < m / 8 + 1, s.reaches (c.dst + 8 * j) = true) ∧ (c.dst + m + 8 ≤ c.blk ∨ c.blk + 64 ≤ c.dst)
     let passes (svc : Nat) : Prop := s.serves n c ∧ c.svc = svc ∧ s.callCheck c = (0, 0)
     let i := c.session
     (passes 0x31) ∧
     (s.life ≠ 2 ∨ s.isAdmin i = true) ∧
     (given c.src 128) ∧
     (room 160) ∧
     (credBad (bytes c.src 128) = false)) := by decide +kernel

theorem test_witness_CredentialsAndSessionsComplete_4 :
    let s : State := arranged
        [gauntlet 1 ([]) (callOf 0x31 [(0x10, leBytes 4 0x10010000), (0x18, leBytes 4 0x10030000)]), Op.setEvq .gnt (List.replicate 6 5), cfg
        [(F.RAD_KEY_CFG_VALID 7, 1), (F.RAD_KEY_CFG_ENC_SLOT 7, 238)], Op.hwWrite 0x10010000 ([2, 1, 7, 0] ++ List.replicate 124 0 : List Byte)]
    let n : Fin 16 := 0
    let c : Call := callOf 0x31 [(0x10, leBytes 4 0x10010000), (0x18, leBytes 4 0x10030000)]
    let k : Fin 16 := 15
    (s.Inv) ∧
    (s.evHeld gntEvt = true) ∧
    ((s.evq .gnt).length < 7) ∧
    ((∀ k < 8, s.bit (F.RAD_KEY_CFG_VALID k) = true → s.fld (F.RAD_KEY_CFG_ENC_SLOT k) < 240 ∧ s.fld (F.RAD_KEY_CFG_DEC_SLOT k) < 240)) ∧
    (let bytes (a m : Nat) : List Nat := (List.range m).map fun j => s.byteAt (a + j)
     let given (a m : Nat) : Prop := ∀ j < (a % 8 + m + 7) / 8, s.readable (a / 8 * 8 + 8 * j)
     let passes (svc : Nat) : Prop := s.serves n c ∧ c.svc = svc ∧ s.callCheck c = (0, 0)
     let i := c.session
     (passes 0x31) ∧
     (s.life ≠ 2 ∨ s.isAdmin i = true) ∧
     (given c.src 128) ∧
     (credBad (bytes c.src 128) = true)) := by decide +kernel

theorem test_witness_CredentialsAndSessionsComplete_5 :
    let s : State := arranged
        [gauntlet 1 ([]) (callOf 0x32 [(0xE, [0, 15]), (0x18, leBytes 4 0x10030000)]), Op.setEvq .gnt (List.replicate 6 5), cfg
        [(F.RAD_KEY_CFG_VALID 7, 1), (F.RAD_KEY_CFG_ENC_SLOT 7, 238)],
        Op.gnt fun g => { g with sessions := Vector.replicate 8 (some (⟨15, 0, false, [], [], 0⟩ : Session)) }]
    let n : Fin 16 := 0
    let c : Call := callOf 0x32 [(0xE, [0, 15]), (0x18, leBytes 4 0x10030000)]
    let k : Fin 16 := 15
    (s.Inv) ∧
    (s.evHeld gntEvt = true) ∧
    ((s.evq .gnt).length < 7) ∧
    ((∀ k < 8, s.bit (F.RAD_KEY_CFG_VALID k) = true → s.fld (F.RAD_KEY_CFG_ENC_SLOT k) < 240 ∧ s.fld (F.RAD_KEY_CFG_DEC_SLOT k) < 240)) ∧
    (let passes (svc : Nat) : Prop := s.serves n c ∧ c.svc = svc ∧ s.callCheck c = (0, 0)
     (passes 0x32) ∧
     (s.bit F.GNT_STAT_DRBG_OK = true) ∧
     ((∀ j < 8, (s.session j).isSome = true))) := by decide +kernel

theorem test_witness_CredentialsAndSessionsComplete_6 :
    let s : State := arranged
        [gauntlet 1 ([]) (callOf 0x32 [(0xE, [0, 15]), (0x18, leBytes 4 0x10030000)]), Op.setEvq .gnt (List.replicate 6 5), cfg
        [(F.RAD_KEY_CFG_VALID 7, 1), (F.RAD_KEY_CFG_ENC_SLOT 7, 238)]]
    let n : Fin 16 := 0
    let c : Call := callOf 0x32 [(0xE, [0, 15]), (0x18, leBytes 4 0x10030000)]
    let e : Fin 8 := 0
    let k : Fin 16 := 15
    (s.Inv) ∧
    (s.evHeld gntEvt = true) ∧
    ((s.evq .gnt).length < 7) ∧
    ((∀ k < 8, s.bit (F.RAD_KEY_CFG_VALID k) = true → s.fld (F.RAD_KEY_CFG_ENC_SLOT k) < 240 ∧ s.fld (F.RAD_KEY_CFG_DEC_SLOT k) < 240)) ∧
    (let passes (svc : Nat) : Prop := s.serves n c ∧ c.svc = svc ∧ s.callCheck c = (0, 0)
     (passes 0x32) ∧
     (s.bit F.GNT_STAT_DRBG_OK = true) ∧
     (s.session e.val = none) ∧
     ((∀ j < e.val, (s.session j).isSome = true)) ∧
     (s.cred c.index = none)) := by decide +kernel

theorem test_witness_CredentialsAndSessionsComplete_7 :
    let s : State := arranged
        [gauntlet 1 ([]) (callOf 0x32 [(0xE, [0, 15]), (0x18, leBytes 4 0x10030000)]), Op.setEvq .gnt (List.replicate 6 5), cfg
        [(F.RAD_KEY_CFG_VALID 7, 1), (F.RAD_KEY_CFG_ENC_SLOT 7, 238)],
        Op.gnt fun g => { g with creds := g.creds.set 15 (some { (⟨([2, 2, 7, 0] ++ List.replicate 124 0 : List Byte), 4, none⟩ : Credential) with locked := some 5 }) }]
    let n : Fin 16 := 0
    let c : Call := callOf 0x32 [(0xE, [0, 15]), (0x18, leBytes 4 0x10030000)]
    let e : Fin 8 := 0
    let k : Fin 16 := 15
    (s.Inv) ∧
    (s.evHeld gntEvt = true) ∧
    ((s.evq .gnt).length < 7) ∧
    ((∀ k < 8, s.bit (F.RAD_KEY_CFG_VALID k) = true → s.fld (F.RAD_KEY_CFG_ENC_SLOT k) < 240 ∧ s.fld (F.RAD_KEY_CFG_DEC_SLOT k) < 240)) ∧
    (let passes (svc : Nat) : Prop := s.serves n c ∧ c.svc = svc ∧ s.callCheck c = (0, 0)
     (passes 0x32) ∧
     (s.bit F.GNT_STAT_DRBG_OK = true) ∧
     (s.session e.val = none) ∧
     ((∀ j < e.val, (s.session j).isSome = true)) ∧
     (let q := ({ (⟨([2, 2, 7, 0] ++ List.replicate 124 0 : List Byte), 4, none⟩ : Credential) with locked := some 5 } : Credential)
      (s.cred c.index = some q) ∧
      (q.locked.isSome))) := by decide +kernel

theorem test_witness_CredentialsAndSessionsComplete_8 :
    let s : State := arranged
        [gauntlet 1 ([]) (callOf 0x32 [(0xE, [0, 15]), (0x38, [0]), (0x18, leBytes 4 0x10030000)]), Op.setEvq .gnt (List.replicate 6 5), cfg
        [(F.RAD_KEY_CFG_VALID 7, 1), (F.RAD_KEY_CFG_ENC_SLOT 7, 238)],
        Op.gnt fun g => { g with creds := g.creds.set 15 (some (⟨([2, 2, 7, 0] ++ List.replicate 124 0 : List Byte), 4, none⟩ : Credential)) }]
    let n : Fin 16 := 0
    let c : Call := callOf 0x32 [(0xE, [0, 15]), (0x38, [0]), (0x18, leBytes 4 0x10030000)]
    let e : Fin 8 := 0
    let k : Fin 16 := 15
    (s.Inv) ∧
    (s.evHeld gntEvt = true) ∧
    ((s.evq .gnt).length < 7) ∧
    ((∀ k < 8, s.bit (F.RAD_KEY_CFG_VALID k) = true → s.fld (F.RAD_KEY_CFG_ENC_SLOT k) < 240 ∧ s.fld (F.RAD_KEY_CFG_DEC_SLOT k) < 240)) ∧
    (let passes (svc : Nat) : Prop := s.serves n c ∧ c.svc = svc ∧ s.callCheck c = (0, 0)
     (passes 0x32) ∧
     (s.bit F.GNT_STAT_DRBG_OK = true) ∧
     (s.session e.val = none) ∧
     ((∀ j < e.val, (s.session j).isSome = true)) ∧
     (let q := (⟨([2, 2, 7, 0] ++ List.replicate 124 0 : List Byte), 4, none⟩ : Credential)
      (s.cred c.index = some q) ∧
      (let transport := c.fld 0x38 1
       let offers := natBits (mf q.bytes 1 1) transport 1 = 1
       (q.locked = none) ∧
       (¬ offers)))) := by decide +kernel

theorem test_witness_CredentialsAndSessionsComplete_9 :
    let s : State := arranged
        [gauntlet 1 ([]) (callOf 0x32 [(0xE, [0, 15]), (0x38, [1]), (0x18, leBytes 4 0x10030000)]), Op.setEvq .gnt (List.replicate 6 5), cfg
        [(F.RAD_KEY_CFG_VALID 7, 1), (F.RAD_KEY_CFG_ENC_SLOT 7, 238)],
        Op.gnt fun g => { g with creds := g.creds.set 15 (some (⟨([2, 2, 7, 0] ++ List.replicate 124 0 : List Byte), 4, none⟩ : Credential)) }]
    let n : Fin 16 := 0
    let c : Call := callOf 0x32 [(0xE, [0, 15]), (0x38, [1]), (0x18, leBytes 4 0x10030000)]
    let e : Fin 8 := 0
    let k : Fin 16 := 15
    (s.Inv) ∧
    (s.evHeld gntEvt = true) ∧
    ((s.evq .gnt).length < 7) ∧
    ((∀ k < 8, s.bit (F.RAD_KEY_CFG_VALID k) = true → s.fld (F.RAD_KEY_CFG_ENC_SLOT k) < 240 ∧ s.fld (F.RAD_KEY_CFG_DEC_SLOT k) < 240)) ∧
    (let room (m : Nat) : Prop :=
       (∀ j < m / 8 + 1, s.reaches (c.dst + 8 * j) = true) ∧ (c.dst + m + 8 ≤ c.blk ∨ c.blk + 64 ≤ c.dst)
     let passes (svc : Nat) : Prop := s.serves n c ∧ c.svc = svc ∧ s.callCheck c = (0, 0)
     (passes 0x32) ∧
     (s.bit F.GNT_STAT_DRBG_OK = true) ∧
     (s.session e.val = none) ∧
     ((∀ j < e.val, (s.session j).isSome = true)) ∧
     (let q := (⟨([2, 2, 7, 0] ++ List.replicate 124 0 : List Byte), 4, none⟩ : Credential)
      (s.cred c.index = some q) ∧
      (let transport := c.fld 0x38 1
       let offers := natBits (mf q.bytes 1 1) transport 1 = 1
       (q.locked = none) ∧
       (offers) ∧
       (room 184)))) := by decide +kernel

theorem test_witness_CredentialsAndSessionsComplete_10 :
    let s : State := arranged
        [gauntlet 1 ([]) (callOf 0x33 [(0xE, [7]), (0x10, leBytes 4 0x10010007), (0x18, leBytes 4 0x10030000)]),
        Op.setEvq .gnt (List.replicate 6 5), cfg [(F.RAD_KEY_CFG_VALID 7, 1), (F.RAD_KEY_CFG_ENC_SLOT 7, 238)]]
    let n : Fin 16 := 0
    let c : Call := callOf 0x33 [(0xE, [7]), (0x10, leBytes 4 0x10010007), (0x18, leBytes 4 0x10030000)]
    let k : Fin 16 := 15
    (s.Inv) ∧
    (s.evHeld gntEvt = true) ∧
    ((s.evq .gnt).length < 7) ∧
    ((∀ k < 8, s.bit (F.RAD_KEY_CFG_VALID k) = true → s.fld (F.RAD_KEY_CFG_ENC_SLOT k) < 240 ∧ s.fld (F.RAD_KEY_CFG_DEC_SLOT k) < 240)) ∧
    (let passes (svc : Nat) : Prop := s.serves n c ∧ c.svc = svc ∧ s.callCheck c = (0, 0)
     let i := c.session
     (passes 0x33) ∧
     ((s.session i).all (fun q => !q.waiting) = true)) := by decide +kernel

theorem test_witness_CredentialsAndSessionsComplete_11 :
    let s : State := arranged
        [gauntlet 1 ([]) (callOf 0x33 [(0xE, [7]), (0x10, leBytes 4 0x10010000), (0x18, leBytes 4 0x10030000)]),
        Op.setEvq .gnt (List.replicate 6 5), cfg [(F.RAD_KEY_CFG_VALID 7, 1), (F.RAD_KEY_CFG_ENC_SLOT 7, 238)],
        Op.gnt fun g => { g with sessions := g.sessions.set 7 (some ⟨15, 0, true, [], (List.replicate 31 0 ++ [1] : List Byte), 0⟩) },
        Op.gnt fun g => { g with creds := g.creds.set 15 (some (⟨([2, 2, 7, 0] ++ List.replicate 124 0 : List Byte), 4, none⟩ : Credential)) },
        Op.hwWrite 0x10010000 (octets (cBytes 32 pG.1 ++ cBytes 32 pG.2 ++
        cBytes 32 2407279316518607147613178870387380207485873819623051516724642038616937593422) ++ List.replicate 32 0)]
    let n : Fin 16 := 0
    let c : Call := callOf 0x33 [(0xE, [7]), (0x10, leBytes 4 0x10010000), (0x18, leBytes 4 0x10030000)]
    let k : Fin 16 := 15
    (s.Inv) ∧
    (s.evHeld gntEvt = true) ∧
    ((s.evq .gnt).length < 7) ∧
    ((∀ k < 8, s.bit (F.RAD_KEY_CFG_VALID k) = true → s.fld (F.RAD_KEY_CFG_ENC_SLOT k) < 240 ∧ s.fld (F.RAD_KEY_CFG_DEC_SLOT k) < 240)) ∧
    (let bytes (a m : Nat) : List Nat := (List.range m).map fun j => s.byteAt (a + j)
     let given (a m : Nat) : Prop := ∀ j < (a % 8 + m + 7) / 8, s.readable (a / 8 * 8 + 8 * j)
     let room (m : Nat) : Prop :=
       (∀ j < m / 8 + 1, s.reaches (c.dst + 8 * j) = true) ∧ (c.dst + m + 8 ≤ c.blk ∨ c.blk + 64 ≤ c.dst)
     let passes (svc : Nat) : Prop := s.serves n c ∧ c.svc = svc ∧ s.callCheck c = (0, 0)
     let i := c.session
     let ms (p : Nat) : Prop := p + 30 * 32768 ≤ s.pulses
     (passes 0x33) ∧
     (given c.src 128) ∧
     (s.powered .rad = true) ∧
     (i < 8) ∧
     (let q := (⟨15, 0, true, [], (List.replicate 31 0 ++ [1] : List Byte), 0⟩ : Session)
      (s.session i = some q) ∧
      (q.waiting = true) ∧
      (let r := (⟨([2, 2, 7, 0] ++ List.replicate 124 0 : List Byte), 4, none⟩ : Credential)
       (s.cred q.cred = some r) ∧
       (let m := bytes c.src 128
        let t0 := nums q.t0
        let z := ecdhX (cNat (nums q.priv)) (m.take 64)
        let good := !(decide (ms q.since)) && z.isSome && proofOk r (sha256 (t0 ++ m.take 64)) (m.drop 64)
        (good = true) ∧
        (room 4))))) := by decide +kernel

theorem test_witness_CredentialsAndSessionsComplete_12 :
    let s : State := arranged
        [gauntlet 1 ([]) (callOf 0x33 [(0xE, [7]), (0x10, leBytes 4 0x10010007), (0x18, leBytes 4 0x10030000)]),
        Op.setEvq .gnt (List.replicate 6 5), cfg [(F.RAD_KEY_CFG_VALID 7, 1), (F.RAD_KEY_CFG_ENC_SLOT 7, 238)],
        Op.gnt fun g => { g with sessions := g.sessions.set 7 (some ⟨15, 0, true, [], (List.replicate 31 0 ++ [1] : List Byte), 0⟩) },
        Op.gnt fun g => { g with creds := g.creds.set 15 (some (⟨([2, 2, 7, 0] ++ List.replicate 124 0 : List Byte), 4, none⟩ : Credential)) }]
    let n : Fin 16 := 0
    let c : Call := callOf 0x33 [(0xE, [7]), (0x10, leBytes 4 0x10010007), (0x18, leBytes 4 0x10030000)]
    let k : Fin 16 := 15
    (s.Inv) ∧
    (s.evHeld gntEvt = true) ∧
    ((s.evq .gnt).length < 7) ∧
    ((∀ k < 8, s.bit (F.RAD_KEY_CFG_VALID k) = true → s.fld (F.RAD_KEY_CFG_ENC_SLOT k) < 240 ∧ s.fld (F.RAD_KEY_CFG_DEC_SLOT k) < 240)) ∧
    (let bytes (a m : Nat) : List Nat := (List.range m).map fun j => s.byteAt (a + j)
     let given (a m : Nat) : Prop := ∀ j < (a % 8 + m + 7) / 8, s.readable (a / 8 * 8 + 8 * j)
     let passes (svc : Nat) : Prop := s.serves n c ∧ c.svc = svc ∧ s.callCheck c = (0, 0)
     let i := c.session
     let ms (p : Nat) : Prop := p + 30 * 32768 ≤ s.pulses
     (passes 0x33) ∧
     (given c.src 128) ∧
     (s.powered .rad = true) ∧
     (i < 8) ∧
     (let q := (⟨15, 0, true, [], (List.replicate 31 0 ++ [1] : List Byte), 0⟩ : Session)
      (s.session i = some q) ∧
      (q.waiting = true) ∧
      (let r := (⟨([2, 2, 7, 0] ++ List.replicate 124 0 : List Byte), 4, none⟩ : Credential)
       (s.cred q.cred = some r) ∧
       (let m := bytes c.src 128
        let t0 := nums q.t0
        let z := ecdhX (cNat (nums q.priv)) (m.take 64)
        let good := !(decide (ms q.since)) && z.isSome && proofOk r (sha256 (t0 ++ m.take 64)) (m.drop 64)
        (good = false))))) := by decide +kernel

theorem test_witness_CredentialsAndSessionsComplete_13 :
    let s : State := arranged
        [gauntlet 1 ([]) (callOf 0x34 [(0xE, [7])]), Op.setEvq .gnt (List.replicate 6 5), cfg
        [(F.RAD_KEY_CFG_VALID 7, 1), (F.RAD_KEY_CFG_ENC_SLOT 7, 238)]]
    let n : Fin 16 := 0
    let c : Call := callOf 0x34 [(0xE, [7])]
    let k : Fin 16 := 15
    (s.Inv) ∧
    (s.evHeld gntEvt = true) ∧
    ((s.evq .gnt).length < 7) ∧
    ((∀ k < 8, s.bit (F.RAD_KEY_CFG_VALID k) = true → s.fld (F.RAD_KEY_CFG_ENC_SLOT k) < 240 ∧ s.fld (F.RAD_KEY_CFG_DEC_SLOT k) < 240)) ∧
    (let passes (svc : Nat) : Prop := s.serves n c ∧ c.svc = svc ∧ s.callCheck c = (0, 0)
     let i := c.session
     (passes 0x34) ∧
     (i < 8) ∧
     (s.session i = none)) := by decide +kernel

theorem test_witness_CredentialsAndSessionsComplete_14 :
    let s : State := arranged
        [gauntlet 1 ([]) (callOf 0x34 [(0xE, [7])]), Op.setEvq .gnt (List.replicate 6 5), cfg
        [(F.RAD_KEY_CFG_VALID 7, 1), (F.RAD_KEY_CFG_ENC_SLOT 7, 238)],
        Op.gnt fun g => { g with sessions := g.sessions.set 7 (some ⟨15, 0, false, [], [], 0⟩) }]
    let n : Fin 16 := 0
    let c : Call := callOf 0x34 [(0xE, [7])]
    let k : Fin 16 := 15
    (s.Inv) ∧
    (s.evHeld gntEvt = true) ∧
    ((s.evq .gnt).length < 7) ∧
    ((∀ k < 8, s.bit (F.RAD_KEY_CFG_VALID k) = true → s.fld (F.RAD_KEY_CFG_ENC_SLOT k) < 240 ∧ s.fld (F.RAD_KEY_CFG_DEC_SLOT k) < 240)) ∧
    (let passes (svc : Nat) : Prop := s.serves n c ∧ c.svc = svc ∧ s.callCheck c = (0, 0)
     let i := c.session
     (passes 0x34) ∧
     (i < 8) ∧
     (let q := (⟨15, 0, false, [], [], 0⟩ : Session)
      (s.session i = some q))) := by decide +kernel

theorem test_witness_CredentialsAndSessionsComplete_15 :
    let s : State := arranged
        [gauntlet 1 ([]) (callOf 0x34 [(0xE, [7])]), Op.setEvq .gnt (List.replicate 6 5), cfg
        [(F.RAD_KEY_CFG_VALID 7, 1), (F.RAD_KEY_CFG_ENC_SLOT 7, 238)],
        Op.gnt fun g => { g with sessions := g.sessions.set 7 (some ⟨15, 0, true, [], [], 0⟩) }]
    let e : Fin 8 := 7
    let k : Fin 16 := 15
    (s.Inv) ∧
    (s.evHeld gntEvt = true) ∧
    ((s.evq .gnt).length < 7) ∧
    ((∀ k < 8, s.bit (F.RAD_KEY_CFG_VALID k) = true → s.fld (F.RAD_KEY_CFG_ENC_SLOT k) < 240 ∧ s.fld (F.RAD_KEY_CFG_DEC_SLOT k) < 240)) ∧
    (s.powered .gnt = true) ∧
    (let q := (⟨15, 0, true, [], [], 0⟩ : Session)
     (s.session e.val = some q) ∧
     (q.waiting = true)) := by decide +kernel

theorem test_witness_CredentialsAndSessionsComplete_16 :
    let s : State := arranged
        [gauntlet 1 ([]) (callOf 0x34 [(0xE, [7])]), Op.setEvq .gnt (List.replicate 6 5), cfg
        [(F.RAD_KEY_CFG_VALID 7, 1), (F.RAD_KEY_CFG_ENC_SLOT 7, 238)],
        Op.gnt fun g => { g with sessions := g.sessions.set 7 (some ⟨15, 0, false, [], [], 0⟩) }]
    let e : Fin 8 := 7
    let k : Fin 16 := 15
    (s.Inv) ∧
    (s.evHeld gntEvt = true) ∧
    ((s.evq .gnt).length < 7) ∧
    ((∀ k < 8, s.bit (F.RAD_KEY_CFG_VALID k) = true → s.fld (F.RAD_KEY_CFG_ENC_SLOT k) < 240 ∧ s.fld (F.RAD_KEY_CFG_DEC_SLOT k) < 240)) ∧
    (s.powered .gnt = true) ∧
    (let q := (⟨15, 0, false, [], [], 0⟩ : Session)
     (s.session e.val = some q) ∧
     (q.waiting = false)) := by decide +kernel

theorem test_witness_CredentialsAndSessionsComplete_17 :
    let s : State := arranged
        [gauntlet 1 ([]) (callOf 0x34 [(0xE, [7])]), Op.setEvq .gnt (List.replicate 6 5), cfg
        [(F.RAD_KEY_CFG_VALID 7, 1), (F.RAD_KEY_CFG_ENC_SLOT 7, 238)],
        Op.gnt fun g => { g with creds := g.creds.set 15 (some { (⟨([2, 2, 7, 0] ++ List.replicate 124 0 : List Byte), 4, none⟩ : Credential) with locked := some 5 }) }]
    let k : Fin 16 := 15
    (s.Inv) ∧
    (s.evHeld gntEvt = true) ∧
    ((s.evq .gnt).length < 7) ∧
    ((∀ k < 8, s.bit (F.RAD_KEY_CFG_VALID k) = true → s.fld (F.RAD_KEY_CFG_ENC_SLOT k) < 240 ∧ s.fld (F.RAD_KEY_CFG_DEC_SLOT k) < 240)) ∧
    (s.powered .gnt = true) ∧
    (let q := ({ (⟨([2, 2, 7, 0] ++ List.replicate 124 0 : List Byte), 4, none⟩ : Credential) with locked := some 5 } : Credential)
     (s.cred k.val = some q) ∧
     (let p := 5
      (q.locked = some p))) := by decide +kernel

theorem test_witness_LifeCycleAndDebugComplete_1 :
    let s : State := arranged
        [gauntlet 3 ([]) (callOf 0x40 [(0xF, [2])]), Op.each (List.range 3) fun r => (Op.burn (3 * r)).andThen (Op.burn (3 * r + 2))]
    let n : Fin 16 := 0
    let c : Call := callOf 0x40 [(0xF, [2])]
    (s.Inv) ∧
    (s.powered .gnt = true) ∧
    (let tgt := c.index
     let from' := s.life
     let allowed := (from', tgt) ∈ [(0, 1), (1, 2), (2, 3), (0, 4), (1, 4), (2, 4), (3, 4)]
     ((s.serves n c) ∧
      (c.svc = 0x40) ∧
      (s.callCheck c = (0, 0)) ∧
      (s.fuseState = from') ∧
      (from' ≤ 4) ∧
      (¬ allowed)) ∧
     ((s.evHeld gntEvt = true) ∧
      ((s.evq .gnt).length < 8))) := by decide +kernel

theorem test_witness_LifeCycleAndDebugComplete_2 :
    let s : State := arranged
        [gauntlet 1 ([]) (callOf 0x40 [(0xF, [2])]), Op.each (List.range 1) fun r => (Op.burn (3 * r)).andThen (Op.burn (3 * r + 2)),
        Op.putBytes 0x0C0000C0 (List.replicate 64 0)]
    let n : Fin 16 := 0
    let c : Call := callOf 0x40 [(0xF, [2])]
    (s.Inv) ∧
    (s.powered .gnt = true) ∧
    (let tgt := c.index
     let from' := s.life
     let rkey := s.factory 0xC0 64
     (s.serves n c) ∧
     (c.svc = 0x40) ∧
     (s.callCheck c = (0, 0)) ∧
     (s.fuseState = from') ∧
     (from' ≤ 4) ∧
     (from' = 1) ∧
     (tgt = 2) ∧
     (rkey.all (· == 0) = true)) := by decide +kernel

theorem test_witness_LifeCycleAndDebugComplete_3 :
    let s : State := arranged
        [gauntlet 1 ([]) (callOf 0x40 [(0xF, [2])]), Op.each (List.range 1) fun r => (Op.burn (3 * r)).andThen (Op.burn (3 * r + 2))]
    let n : Fin 16 := 0
    let c : Call := callOf 0x40 [(0xF, [2])]
    (s.Inv) ∧
    (s.powered .gnt = true) ∧
    (let tgt := c.index
     let from' := s.life
     let rkey := s.factory 0xC0 64
     let allowed := (from', tgt) ∈ [(0, 1), (1, 2), (2, 3), (0, 4), (1, 4), (2, 4), (3, 4)]
     (s.serves n c) ∧
     (c.svc = 0x40) ∧
     (s.callCheck c = (0, 0)) ∧
     (s.fuseState = from') ∧
     (from' ≤ 4) ∧
     (from' ≠ 2) ∧
     (allowed) ∧
     (¬ (tgt = 2 ∧ rkey.all (· == 0) = true))) := by decide +kernel

theorem test_witness_LifeCycleAndDebugComplete_4 :
    let s : State := arranged
        [gauntlet 2 ([]) (callOf 0x40 [(0xF, [4]), (0x10, leBytes 4 0x10010007)]),
        Op.each (List.range 2) fun r => (Op.burn (3 * r)).andThen (Op.burn (3 * r + 2))]
    let n : Fin 16 := 0
    let c : Call := callOf 0x40 [(0xF, [4]), (0x10, leBytes 4 0x10010007)]
    (s.Inv) ∧
    (s.powered .gnt = true) ∧
    (let tgt := c.index
     let from' := s.life
     let allowed := (from', tgt) ∈ [(0, 1), (1, 2), (2, 3), (0, 4), (1, 4), (2, 4), (3, 4)]
     (s.serves n c) ∧
     (c.svc = 0x40) ∧
     (s.callCheck c = (0, 0)) ∧
     (s.fuseState = from') ∧
     (from' ≤ 4) ∧
     (from' = 2) ∧
     (allowed) ∧
     ((∀ j < (c.src % 8 + 71) / 8, s.readable (c.src / 8 * 8 + 8 * j)))) := by decide +kernel

theorem test_witness_LifeCycleAndDebugComplete_5 :
    let s : State := arranged [gauntlet 1 ([]) (callOf 0x40 [(0xF, [2])]), cfg [(F.GNT_STAT_TRANSIT, 1)]]
    let n : Fin 16 := 0
    (s.Inv) ∧
    (s.powered .gnt = true) ∧
    (s.bit F.GNT_STAT_TRANSIT = true) ∧
    (n = 0) := by decide +kernel

theorem test_witness_MemoryUnitCompletes_1 :
    (let s : State := arranged [cfg [(Block.mem.run, 1)], Op.setEvq .mem (List.replicate 6 7)]
     let m : Fin 3 := 0
     (s.Inv) ∧
     (s.evHeld memEvt = true) ∧
     ((s.evq .mem).length < 7) ∧
     (s.running .mem = true) ∧
     (s.domOn (memDomain (memStart m)) = true) ∧
     (s.scrubPaused m = false) ∧
     ((m.val = 2 → s.bit F.MEM_STAT_RETRAIN = false)) ∧
     (s.nextValid m s.blk.memu.scrubAt[m] = none)) ∧
    (let s : State := arranged [cfg [(Block.mem.run, 1)], Op.setEvq .mem (List.replicate 6 7)]
     (s.Inv) ∧
     (s.powered .mem = true) ∧
     (s.evHeld memEvt = true) ∧
     ((s.evq .mem).length < 8) ∧
     (let grant := s.fld F.MEM_MAINT_STAT_GRANT
      let queued (a : Nat) : Bool := s.bit ⟨A.MEM_MAINT_STAT, 7 + a, 1⟩
      (queued 1 = false) ∧
      (grant = 0))) := by decide +kernel

theorem test_witness_MemoryUnitCompletes_2 :
    let s : State := arranged
        [cfg [(Block.mem.run, 1)], Op.setEvq .mem (List.replicate 6 7), Op.storeDw 0x103FFFF8 7, Op.storeDw 0x10000000 7, Op.putErr 0x103FFFF8 0,
        Op.memu fun u => { u with scrubAt := u.scrubAt.set 0 8 }]
    let m : Fin 3 := 0
    (s.Inv) ∧
    (s.evHeld memEvt = true) ∧
    ((s.evq .mem).length < 7) ∧
    (s.running .mem = true) ∧
    (s.domOn (memDomain (memStart m)) = true) ∧
    (s.scrubPaused m = false) ∧
    ((m.val = 2 → s.bit F.MEM_STAT_RETRAIN = false)) ∧
    (let a := 0x103FFFF8
     (s.nextValid m s.blk.memu.scrubAt[m] = some a) ∧
     (weight (s.errAt a) = 0)) := by decide +kernel

theorem test_witness_MemoryUnitCompletes_3 :
    let s : State := arranged
        [cfg [(Block.mem.run, 1)], Op.setEvq .mem (List.replicate 6 7), Op.storeDw 0x103FFFF8 7, Op.storeDw 0x10000000 7, Op.putErr 0x103FFFF8 2,
        Op.memu fun u => { u with scrubAt := u.scrubAt.set 0 8 }]
    let m : Fin 3 := 0
    (s.Inv) ∧
    (s.evHeld memEvt = true) ∧
    ((s.evq .mem).length < 7) ∧
    (s.running .mem = true) ∧
    (s.domOn (memDomain (memStart m)) = true) ∧
    (s.scrubPaused m = false) ∧
    ((m.val = 2 → s.bit F.MEM_STAT_RETRAIN = false)) ∧
    (let a := 0x103FFFF8
     (s.nextValid m s.blk.memu.scrubAt[m] = some a) ∧
     (weight (s.errAt a) = 1)) := by decide +kernel

theorem test_witness_MemoryUnitCompletes_4 :
    let s : State := arranged
        [cfg [(Block.mem.run, 1)], Op.setEvq .mem (List.replicate 6 7), Op.storeDw 0x103FFFF8 7, Op.storeDw 0x10000000 7, Op.putErr 0x103FFFF8 3,
        Op.memu fun u => { u with scrubAt := u.scrubAt.set 0 8 }]
    let m : Fin 3 := 0
    (s.Inv) ∧
    (s.evHeld memEvt = true) ∧
    ((s.evq .mem).length < 7) ∧
    (s.running .mem = true) ∧
    (s.domOn (memDomain (memStart m)) = true) ∧
    (s.scrubPaused m = false) ∧
    ((m.val = 2 → s.bit F.MEM_STAT_RETRAIN = false)) ∧
    (let a := 0x103FFFF8
     (s.nextValid m s.blk.memu.scrubAt[m] = some a) ∧
     (weight (s.errAt a) = 2)) := by decide +kernel

theorem test_witness_MemoryUnitCompletes_5 :
    let s : State := arranged
        [cfg [(Block.mem.run, 1)], Op.setEvq .mem (List.replicate 6 7), Op.memu fun u => { u with writebacks := [(0x10000000, 5, 1, 7)] }]
    (s.Inv) ∧
    (s.evHeld memEvt = true) ∧
    ((s.evq .mem).length < 7) ∧
    (s.powered .mem = true) ∧
    (let w := ((0x10000000, 5, 1, 7) : Nat × DWord × BitVec 72 × DWord)
     let rest := []
     (s.blk.memu.writebacks = w :: rest)) := by decide +kernel

theorem test_witness_MemoryUnitCompletes_6 :
    let s : State := arranged [cfg [(Block.mem.run, 1)], Op.setEvq .mem (List.replicate 6 7)]
    let v : Word := 0x80000002
    let dram : Bool := false
    let e : Fin 16 := 7
    (s.Inv) ∧
    (s.powered .mem = true) ∧
    (s.evHeld memEvt = true) ∧
    ((s.evq .mem).length < 8) ∧
    (let grant := s.fld F.MEM_MAINT_STAT_GRANT
     let act := v.toNat % 8
     let queued (a : Nat) : Bool := s.bit ⟨A.MEM_MAINT_STAT, 7 + a, 1⟩
     let before (n : Nat) : Prop := ∀ a ∈ [1, 2, 3], a < n → queued a = false
     ((v.getLsbD 31 = true) ∧
      (act = 2 ∨ (act = 3 ∧ s.testRegionOk = true)) ∧
      (grant = 0) ∧
      (before act)) ∧
     (let n := v.toNat % 2 ^ 19
      let m := v.toNat / 2 ^ 20 % 4
      let a := (s.reg A.MEM_INIT_BASE).toNat
      let start := [0x10000000, 0x20000000, 0x80000000].getD m 0
      let size := [0x400000, 0x100000, 0x70000000].getD m 0
      (v.getLsbD 31 = true) ∧
      ((m = 1 → s.running .rill = false)) ∧
      (a % 4096 ≠ 0 ∨ n = 0 ∨ m = 3 ∨ a < start ∨ start + size < a + 4096 * n)) ∧
     ((dram = true ∨ e.val < 8))) := by decide +kernel

theorem test_witness_MemoryUnitCompletes_7 :
    let s : State := arranged [cfg [(Block.mem.run, 1)], Op.setEvq .mem (List.replicate 6 7), cfg [(F.MEM_MAINT_STAT_GRANT, 5)]]
    let v : Word := 0x80000003
    (s.Inv) ∧
    (s.powered .mem = true) ∧
    (s.evHeld memEvt = true) ∧
    ((s.evq .mem).length < 8) ∧
    (let grant := s.fld F.MEM_MAINT_STAT_GRANT
     let act := v.toNat % 8
     (v.getLsbD 31 = true) ∧
     (act = 2 ∨ act = 3) ∧
     (grant ≠ 0)) := by decide +kernel

theorem test_witness_MemoryUnitCompletes_8 :
    let s : State := arranged [cfg [(Block.mem.run, 1)], Op.setEvq .mem (List.replicate 6 7)]
    let v : Word := 0x80000003
    (s.Inv) ∧
    (s.powered .mem = true) ∧
    (s.evHeld memEvt = true) ∧
    ((s.evq .mem).length < 8) ∧
    (let grant := s.fld F.MEM_MAINT_STAT_GRANT
     let act := v.toNat % 8
     let queued (a : Nat) : Bool := s.bit ⟨A.MEM_MAINT_STAT, 7 + a, 1⟩
     let before (n : Nat) : Prop := ∀ a ∈ [1, 2, 3], a < n → queued a = false
     (v.getLsbD 31 = true) ∧
     ((act ≠ 2 ∧ act ≠ 3) ∨ (act = 3 ∧ grant = 0 ∧ before 3 ∧ s.testRegionOk = false))) := by decide +kernel

theorem test_witness_MemoryUnitCompletes_9 :
    let s : State := arranged [cfg [(Block.mem.run, 1)], Op.setEvq .mem (List.replicate 6 7), cfg [(F.MEM_MAINT_STAT_GRANT, 1)]]
    (s.Inv) ∧
    (s.powered .mem = true) ∧
    (s.evHeld memEvt = true) ∧
    ((s.evq .mem).length < 8) ∧
    (let grant := s.fld F.MEM_MAINT_STAT_GRANT
     let queued (a : Nat) : Bool := s.bit ⟨A.MEM_MAINT_STAT, 7 + a, 1⟩
     (queued 1 = false) ∧
     (grant = 1) ∧
     (s.blk.memu.norq = [])) := by decide +kernel

theorem test_witness_MemoryUnitCompletes_10 :
    let s : State := arranged [cfg [(Block.mem.run, 1)], Op.setEvq .mem (List.replicate 6 7), cfg [(F.MEM_MAINT_STAT_GRANT, 2)]]
    (s.Inv) ∧
    (s.powered .mem = true) ∧
    (s.evHeld memEvt = true) ∧
    ((s.evq .mem).length < 8) ∧
    (let grant := s.fld F.MEM_MAINT_STAT_GRANT
     let queued (a : Nat) : Bool := s.bit ⟨A.MEM_MAINT_STAT, 7 + a, 1⟩
     (queued 1 = false) ∧
     (grant = 2) ∧
     (s.domOn 14 = true)) := by decide +kernel

theorem test_witness_MemoryUnitCompletes_11 :
    let s : State := arranged [cfg [(Block.mem.run, 1)], Op.setEvq .mem (List.replicate 6 7), Op.domDown 13, cfg [(F.MEM_MAINT_STAT_GRANT, 4)]]
    (s.Inv) ∧
    (s.powered .mem = true) ∧
    (s.evHeld memEvt = true) ∧
    ((s.evq .mem).length < 8) ∧
    (let grant := s.fld F.MEM_MAINT_STAT_GRANT
     let queued (a : Nat) : Bool := s.bit ⟨A.MEM_MAINT_STAT, 7 + a, 1⟩
     (queued 1 = false) ∧
     (grant = 4) ∧
     (s.powered .rad = false)) := by decide +kernel

theorem test_witness_MemoryUnitCompletes_12 :
    let s : State := arranged
        [cfg [(Block.mem.run, 1)], Op.setEvq .mem (List.replicate 6 7), cfg [(F.MEM_MAINT_STAT_GRANT, 2), (F.MEM_STAT_RETRAIN, 1)]]
    (s.Inv) ∧
    (s.powered .mem = true) ∧
    (s.evHeld memEvt = true) ∧
    ((s.evq .mem).length < 8) ∧
    (let grant := s.fld F.MEM_MAINT_STAT_GRANT
     let queued (a : Nat) : Bool := s.bit ⟨A.MEM_MAINT_STAT, 7 + a, 1⟩
     (queued 1 = false) ∧
     (s.bit F.MEM_STAT_RETRAIN = true) ∧
     (grant = 2)) := by decide +kernel

theorem test_witness_MemoryUnitCompletes_13 :
    let s : State := arranged
        [cfg [(Block.mem.run, 1)], Op.setEvq .mem (List.replicate 6 7), cfg [(F.MEM_MAINT_STAT_GRANT, 3), (F.MEM_STAT_STBUSY, 1)]]
    (s.Inv) ∧
    (s.powered .mem = true) ∧
    (s.evHeld memEvt = true) ∧
    ((s.evq .mem).length < 8) ∧
    (let grant := s.fld F.MEM_MAINT_STAT_GRANT
     let queued (a : Nat) : Bool := s.bit ⟨A.MEM_MAINT_STAT, 7 + a, 1⟩
     (queued 1 = false) ∧
     (s.bit F.MEM_STAT_STBUSY = true) ∧
     (grant = 3)) := by decide +kernel

theorem test_witness_MemoryUnitCompletes_14 :
    let s : State := arranged [cfg [(Block.mem.run, 1)], Op.setEvq .mem (List.replicate 6 7), Op.setReg A.MEM_INIT_BASE 0x103FF000]
    let v : Word := 0x80000001
    (s.Inv) ∧
    (s.powered .mem = true) ∧
    (s.evHeld memEvt = true) ∧
    ((s.evq .mem).length < 8) ∧
    (let n := v.toNat % 2 ^ 19
     let m := v.toNat / 2 ^ 20 % 4
     let a := (s.reg A.MEM_INIT_BASE).toNat
     let start := [0x10000000, 0x20000000, 0x80000000].getD m 0
     let size := [0x400000, 0x100000, 0x70000000].getD m 0
     (v.getLsbD 31 = true) ∧
     ((m = 1 → s.running .rill = false)) ∧
     (a % 4096 = 0) ∧
     (n ≠ 0) ∧
     (m ≠ 3) ∧
     (start ≤ a) ∧
     (a + 4096 * n ≤ start + size)) := by decide +kernel

theorem test_witness_MemoryUnitCompletes_15 :
    let s : State := arranged
        [cfg [(Block.mem.run, 1)], Op.setEvq .mem (List.replicate 6 7), cfg [(F.MEM_MAINT_STAT_GRANT, 1)],
        Op.memu fun u => { u with norq := [⟨0x3FFFFF8, 8, none⟩] }]
    (s.Inv) ∧
    (s.powered .mem = true) ∧
    (s.evHeld memEvt = true) ∧
    ((s.evq .mem).length < 8) ∧
    (let grant := s.fld F.MEM_MAINT_STAT_GRANT
     let queued (a : Nat) : Bool := s.bit ⟨A.MEM_MAINT_STAT, 7 + a, 1⟩
     (queued 1 = false) ∧
     (let o := ⟨0x3FFFFF8, 8, none⟩
      (grant = 1) ∧
      (s.blk.memu.norq = [o]) ∧
      (s.norProtected o.off o.len = false) ∧
      (o.data = none))) := by decide +kernel

theorem test_witness_MemoryUnitCompletes_16 :
    let s : State := arranged [cfg [(Block.mem.run, 1)], Op.setEvq .mem (List.replicate 6 7), cfg [(⟨A.MEM_MAINT_STAT, 10, 1⟩, 1)]]
    let v : Word := 0x80000002
    (s.Inv) ∧
    (s.powered .mem = true) ∧
    (s.evHeld memEvt = true) ∧
    ((s.evq .mem).length < 8) ∧
    (let grant := s.fld F.MEM_MAINT_STAT_GRANT
     let act := v.toNat % 8
     let queued (a : Nat) : Bool := s.bit ⟨A.MEM_MAINT_STAT, 7 + a, 1⟩
     (queued 1 = false) ∧
     (grant = 0 ∨ (grant = 4 ∧ s.powered .rad = false)) ∧
     (queued 2 = false) ∧
     (queued 3 = true) ∧
     (act = 2) ∧
     (v.getLsbD 31 = true)) := by decide +kernel

theorem test_witness_MemoryUnitCompletes_17 :
    let s : State := arranged
        [cfg [(Block.mem.run, 1)], Op.setEvq .mem (List.replicate 7 7), cfg
        [(F.MEM_STAT_RETRAIN, 1), (F.MEM_STAT_INITBUSY, 1), (F.MEM_MAINT_STAT_GRANT, 2)], regs 23 [(1, 0xEFFFFFF8)],
        Op.memu fun u => { u with inits := [(0xEFFFF000, 4096)] }]
    (s.Inv) ∧
    (s.powered .mem = true) ∧
    (s.evHeld memEvt = true) ∧
    ((s.evq .mem).length < 8) ∧
    (let c : CoreId := 23
     let d : RegNo := 4
     let a : RegNo := 1
     let imm : BitVec 16 := 0
     (s.ready c = true) ∧
     (isPair d = true) ∧
     (let k := s.fed c [d, d + 1, a]
      let x := (k.rd a + imm.signExtend 32).toNat
      (regionOf x = .dram) ∧
      (x % 8 = 0) ∧
      (s.domOn 14 = true) ∧
      (k.storeSlots < 8) ∧
      ((s.setCore c k).transactions < 192))) := by decide +kernel

theorem test_witness_MemoryUnitCompletes_18 :
    let s : State := arranged [Op.setEvq .mem (List.replicate 7 7)]
    let v : Word := 0xFFFFFEFF
    (s.Inv) ∧
    (s.powered .mem = true) ∧
    (s.evHeld memEvt = true) ∧
    ((s.evq .mem).length < 8) ∧
    (let c : CoreId := 23
     ((s.core c).storeSlots < 8) ∧
     (s.transactions < 192) ∧
     (s.running .mem = false) ∧
     (v.getLsbD 8 = false)) := by decide +kernel

theorem test_witness_BonnetCompletes_1 :
    let s : State := arranged [Op.setEvq .bon (List.replicate 7 7)]
    (s.Inv) ∧
    (s.powered .bon = true) ∧
    (s.evHeld bonEvt = true) ∧
    ((s.evq .bon).length < 8) ∧
    (s.blk.pwr.vinGood = true) := by decide +kernel

theorem test_witness_BonnetCompletes_2 :
    let s : State := arranged
        [Op.setEvq .bon (List.replicate 7 7), cfg [(F.BON_STAT_COMMIT_BUSY, 1)],
        Op.bon fun b => { b with waits := [(4092, 5)], image := List.replicate 512 7 }]
    (s.Inv) ∧
    (s.powered .bon = true) ∧
    (s.evHeld bonEvt = true) ∧
    ((s.evq .bon).length < 8) ∧
    (let b := s.blk.bon
     let p := ((4092, 5) : Nat × Word)
     (b.waits = [p]) ∧
     (p.1 % 4 = 0) ∧
     (0x600 ≤ p.1) ∧
     (p.1 < 4096) ∧
     (b.image.length = 512) ∧
     (s.bit F.BON_STAT_COMMIT_BUSY = true) ∧
     (s.blk.pwr.vinGood = true) ∧
     (s.oxb.acts = [])) := by decide +kernel

theorem test_witness_BonnetCompletes_3 :
    let s : State := arranged [Op.setEvq .bon (List.replicate 7 7), Op.pwr fun p => { p with vinGood := false }]
    (s.Inv) ∧
    (s.powered .bon = true) ∧
    (s.evHeld bonEvt = true) ∧
    ((s.evq .bon).length < 8) ∧
    (let b := s.blk.bon
     (s.blk.pwr.vinGood = false) ∧
     (b.armed = true) ∧
     (s.bit F.BON_STAT_COMMIT_BUSY = false)) := by decide +kernel

theorem test_witness_BonnetCompletes_4 :
    let s : State := arranged
        [Op.setEvq .bon (List.replicate 7 7), cfg [(F.BON_STAT_COMMIT_BUSY, 1)], Op.bon fun b => { b with image := List.replicate 512 7 },
        Op.oxb fun o => { o with acts := [.resAck 7 0xFFFFFFFF] }]
    (s.Inv) ∧
    (s.powered .bon = true) ∧
    (s.evHeld bonEvt = true) ∧
    ((s.evq .bon).length < 8) ∧
    (let b := s.blk.bon
     let k := 7
     let mark := 0xFFFFFFFF
     (s.oxb.acts = [.resAck k mark]) ∧
     (s.powered .oxb = true) ∧
     (s.bit F.BON_STAT_COMMIT_BUSY = true) ∧
     (s.blk.pwr.vinGood = true) ∧
     (b.waits = []) ∧
     (b.image.length = 512)) := by decide +kernel

theorem test_witness_BonnetCompletes_5 :
    let s : State := arranged [Op.setEvq .bon (List.replicate 3 7), cfg [(F.BON_ALARM_CTL_EN 0, 1), (F.BON_ALARM_CTL_EN 3, 1)]]
    let a : Fin 4 := 3
    (s.Inv) ∧
    (s.powered .bon = true) ∧
    (s.rtc < 2 ^ 63) ∧
    (let b := s.blk.bon
     let at' (t : State) (i : Nat) : Nat :=
       ((t.reg (A.BON_ALARM_SEC_HI i)).toNat % 2 ^ 16 * 2 ^ 32 + (t.reg (A.BON_ALARM_SEC_LO i)).toNat) * 32768 +
         (t.reg (A.BON_ALARM_SUB i)).toNat % 2 ^ 15
     let due (i : Nat) : Prop := s.bit (F.BON_ALARM_CTL_EN i) = true ∧ s.bit (F.BON_ALARM_CTL_FIRED i) = false ∧ at' s i ≤ s.rtc
     let with' (i : Nat) : Prop := b.late.getLsbD i = b.late.getLsbD a ∧ (b.late.getLsbD a = true ∨ at' s i = at' s a)
     let i := 0
     (due i) ∧
     (with' i) ∧
     ((∀ j < i, ¬ (due j ∧ with' j))) ∧
     (due a) ∧
     (s.evHeld bonEvt = true) ∧
     ((s.evq .bon).length < 4)) := by decide +kernel

theorem test_witness_BonnetCompletes_6 :
    let s : State := arranged [Op.setEvq .bon (List.replicate 7 7)]
    let a : Fin 4 := 3
    (s.Inv) ∧
    (s.powered .bon = true) ∧
    (s.rtc < 2 ^ 63) ∧
    (let at' (t : State) (i : Nat) : Nat :=
       ((t.reg (A.BON_ALARM_SEC_HI i)).toNat % 2 ^ 16 * 2 ^ 32 + (t.reg (A.BON_ALARM_SEC_LO i)).toNat) * 32768 +
         (t.reg (A.BON_ALARM_SUB i)).toNat % 2 ^ 15
     ((∀ i < a.val, s.bit (F.BON_ALARM_CTL_EN i) = false ∨ s.bit (F.BON_ALARM_CTL_FIRED i) = true ∨ s.rtc < at' s i)) ∧
     (s.evHeld bonEvt = true) ∧
     ((s.evq .bon).length < 8)) := by decide +kernel

theorem test_witness_BonnetCompletes_7 :
    let s : State := arranged
        [Op.setEvq .bon (List.replicate 7 7), Op.pwr fun p => { p with vinGood := false }, Op.bon fun b => { b with armed := false }]
    (s.Inv) ∧
    (s.powered .bon = true) ∧
    (s.evHeld bonEvt = true) ∧
    ((s.evq .bon).length < 8) ∧
    (let b := s.blk.bon
     (s.blk.pwr.vinGood = false) ∧
     (b.armed = false) ∧
     (s.bit F.BON_STAT_COMMIT_BUSY = false)) := by decide +kernel

theorem test_witness_BonnetCompletes_8 :
    let s : State := arranged
        [Op.setEvq .bon (List.replicate 7 7), Op.pwr fun p => { p with vinGood := false }, cfg [(F.BON_STAT_COMMIT_BUSY, 1)],
        Op.bon fun b => { b with image := List.replicate 512 7 }]
    (s.Inv) ∧
    (s.powered .bon = true) ∧
    (s.evHeld bonEvt = true) ∧
    ((s.evq .bon).length < 8) ∧
    (let b := s.blk.bon
     (b.waits = []) ∧
     (b.image.length = 512) ∧
     (s.bit F.BON_STAT_COMMIT_BUSY = true) ∧
     (s.blk.pwr.vinGood = false) ∧
     (s.oxb.acts = [])) := by decide +kernel

theorem test_witness_RecorderCompletes :
    let s : State := arranged [Op.rcd fun q => { q with queue := [⟨7, 5, 3, 1, 2, 0⟩], next := 255, dropped := 65536 }]
    (s.Inv) ∧
    (s.powered .recd = true) ∧
    (let q := s.blk.rcd
     (let r := ⟨7, 5, 3, 1, 2, 0⟩
      let rest := []
      (q.queue = r :: rest)) ∧
     ((q.closed = false))) := by decide +kernel

theorem test_witness_SupplyAndResetsComplete_1 :
    let s : State := arranged [Op.setEvq .sys (List.replicate 7 7)]
    (s.Inv) ∧
    (let p := s.blk.pwr
     ((s.powered .sys = true) ∧
      (s.evHeld sysEvt = true) ∧
      ((s.evq .sys).length < 8)) ∧
     ((p.vinGood = true) ∧
      (s.bit F.BON_STAT_VBATLOW = false)) ∧
     ((s.powered .lcs = true)) ∧
     ((s.powered .upd = true))) := by decide +kernel

theorem test_witness_SupplyAndResetsComplete_2 :
    let s : State := arranged [Op.pwr fun p => { p with vinGood := false }]
    (s.Inv) ∧
    (let p := s.blk.pwr
     (p.vinGood = false) ∧
     (p.railLost = false)) := by decide +kernel

theorem test_witness_SupplyAndResetsComplete_3 :
    let s : State := arranged [Op.pwr fun p => { p with vinGood := false, railLost := true }]
    (s.Inv) ∧
    (let p := s.blk.pwr
     (p.railLost = true)) := by decide +kernel

theorem test_witness_SupplyAndResetsComplete_4 :
    let s : State := arranged [Op.pwr fun p => { p with expired := some 0 }, pulsesAre 33]
    (s.Inv) ∧
    (let p := s.blk.pwr
     (s.powered .sys = true) ∧
     (let e := 0
      (p.expired = some e))) := by decide +kernel

theorem test_witness_SupplyAndResetsComplete_5 :
    let s : State := arranged [Op.pwr fun p => { p with dom := 0 }]
    (s.Inv) ∧
    (s.powered .sys = false) := by decide +kernel

theorem test_witness_SupervisionCompletes :
    let s : State := arranged [cfg [(Block.sys.run, 1)], Op.setEvq .sys (List.replicate 7 7)]
    (s.Inv) ∧
    (s.powered .sys = true) ∧
    (s.evHeld sysEvt = true) ∧
    ((s.evq .sys).length < 8) := by decide +kernel

theorem test_witness_RegisterBlocksComplete_1 :
    (let s : State := arranged [Op.domDown 11]
     let c : CoreId := 23
     let b : Block := .pxp
     let a : Nat := A.PXP_CFG 15
     let r : RegD := (regAt (A.PXP_CFG 15)).get (by decide)
     let f : FieldD := ((regAt (A.PXP_CFG 15)).get (by decide)).fields.head (by decide)
     (s.Inv) ∧
     (blockAt a = some b) ∧
     (a % 4 = 0) ∧
     (a ≠ b.base) ∧
     (regAt a = some r) ∧
     (f ∈ r.fields) ∧
     ((s.core c).storeSlots < 8) ∧
     (s.transactions < 192) ∧
     ((b = .gnt ∨ (b = .flk ∧ a ≠ A.FLK_SRC) ∨ (b = .pxp ∧ ∀ p < 16, a ≠ A.PXP_RDM_CTL p))) ∧
     (s.powered b = false)) ∧
    (let s : State := arranged [Op.domDown 11]
     let c : CoreId := 23
     (s.Inv) ∧
     ((s.core c).storeSlots < 8) ∧
     (s.transactions < 192) ∧
     ((s.powered .gpio = true)) ∧
     ((s.powered .mem = true)) ∧
     ((s.powered .sys = true))) := by decide +kernel

theorem test_witness_RegisterBlocksComplete_2 :
    let s : State := arranged [cfg [(Block.pxp.run, 1)]]
    let c : CoreId := 23
    let b : Block := .pxp
    let a : Nat := A.PXP_CFG 15
    let r : RegD := (regAt (A.PXP_CFG 15)).get (by decide)
    let f : FieldD := ((regAt (A.PXP_CFG 15)).get (by decide)).fields.head (by decide)
    (s.Inv) ∧
    (blockAt a = some b) ∧
    (a % 4 = 0) ∧
    (a ≠ b.base) ∧
    (regAt a = some r) ∧
    (f ∈ r.fields) ∧
    ((s.core c).storeSlots < 8) ∧
    (s.transactions < 192) ∧
    ((b = .gnt ∨ (b = .flk ∧ a ≠ A.FLK_SRC) ∨ (b = .pxp ∧ ∀ p < 16, a ≠ A.PXP_RDM_CTL p))) ∧
    (s.powered b = true) := by decide +kernel

theorem test_witness_RegisterBlocksComplete_3 :
    let s : State := arranged []
    let b : Block := .gpio
    (s.Inv) ∧
    (s.powered b = true) ∧
    (let plain := [Block.sys, .mem, .gnt, .bon].contains b
     let free := [Block.lcs, .recd, .gpio].contains b
     let evt : Fld × Fld × Fld := match b with
       | .sys => (F.SYS_EVT_EN, F.SYS_EVT_RILL, F.SYS_ERR_CFG_CAUSE)
       | .mem => (F.MEM_EVT_EN, F.MEM_EVT_RILL, F.MEM_ERR_CFG_CAUSE)
       | .gnt => (F.GNT_EVT_EN, F.GNT_EVT_RILL, F.GNT_ERR_CFG_CAUSE)
       | _ => (F.BON_CFG_EN, F.BON_CFG_RILL, F.BON_ERR_CFG_CAUSE)
     let rill := s.fld evt.2.1
     let usable := 4 ≤ rill ∧ s.bit (F.RILL_CFG_FEED (rillNo rill)) = false
     (s.bit b.run = false) ∧
     (free = true ∨ (plain = true ∧ (s.bit evt.1 = false ∨ usable)))) := by decide +kernel

theorem test_witness_RegisterBlocksComplete_4 :
    let s : State := arranged [cfg [(F.BON_CFG_EN, 1), (F.BON_CFG_RILL, 3)]]
    let b : Block := .bon
    (s.Inv) ∧
    (s.powered b = true) ∧
    (let plain := [Block.sys, .mem, .gnt, .bon].contains b
     let evt : Fld × Fld × Fld := match b with
       | .sys => (F.SYS_EVT_EN, F.SYS_EVT_RILL, F.SYS_ERR_CFG_CAUSE)
       | .mem => (F.MEM_EVT_EN, F.MEM_EVT_RILL, F.MEM_ERR_CFG_CAUSE)
       | .gnt => (F.GNT_EVT_EN, F.GNT_EVT_RILL, F.GNT_ERR_CFG_CAUSE)
       | _ => (F.BON_CFG_EN, F.BON_CFG_RILL, F.BON_ERR_CFG_CAUSE)
     let rill := s.fld evt.2.1
     let usable := 4 ≤ rill ∧ s.bit (F.RILL_CFG_FEED (rillNo rill)) = false
     (s.bit b.run = false) ∧
     (plain = true) ∧
     (s.bit evt.1 = true) ∧
     (¬ usable)) := by decide +kernel

theorem test_witness_RegisterBlocksComplete_5 :
    let s : State := arranged [cfg [(Block.sys.run, 1)]]
    let b : Block := .sys
    (s.Inv) ∧
    (s.powered b = true) ∧
    (let plain := [Block.sys, .mem, .gnt, .bon].contains b
     let free := [Block.lcs, .recd, .gpio].contains b
     (plain = true ∨ free = true) ∧
     (s.bit b.run = true) ∧
     ((∀ q, (s.rill q).pkt ≠ some (.block b.num)))) := by decide +kernel

theorem test_witness_RegisterBlocksComplete_6 :
    let s : State := arranged [cfg [(Block.oxb.run, 1)]]
    let b : Block := .oxb
    (s.Inv) ∧
    (s.powered b = true) ∧
    (b = .oxb) ∧
    (s.bit b.run = true) ∧
    (s.blk.stopping.getLsbD 14 = false) := by decide +kernel

theorem test_witness_RegisterBlocksComplete_7 :
    let s : State := arranged []
    let b : Block := .weir
    (s.Inv) ∧
    (s.powered b = true) ∧
    (b = .weir) ∧
    (s.bit b.run = false) ∧
    (s.bit F.WEIR_MISS_CFG_EN = false) := by decide +kernel

theorem test_witness_RegisterBlocksComplete_8 :
    let s : State := arranged [Op.core 23 fun k => { k with run := .halted, stores := [⟨5, 0xFF, 0⟩, ⟨7, 8, 1⟩] }]
    let c : CoreId := 23
    let b : Block := .recd
    (s.Inv) ∧
    (s.powered b = true) ∧
    (let k := s.core c
     let f := ⟨5, 0xFF, 0⟩
     let rest := [⟨7, 8, 1⟩]
     (k.stores = f :: rest) ∧
     (k.faults = []) ∧
     (s.issues c = false)) := by decide +kernel

theorem test_witness_RegisterBlocksComplete_9 :
    let s : State := arranged [Op.core 23 fun k => { k with run := .running, stores := [⟨5, 0xFF, 0⟩, ⟨7, 8, 1⟩] }]
    let c : CoreId := 23
    let b : Block := .recd
    (s.Inv) ∧
    (s.powered b = true) ∧
    (let k := s.core c
     let f := ⟨5, 0xFF, 0⟩
     let rest := [⟨7, 8, 1⟩]
     (k.stores = f :: rest) ∧
     (k.faults = []) ∧
     (s.issues c = true) ∧
     (k.exl = false) ∧
     (f.code < 2 ^ 8)) := by decide +kernel

theorem test_witness_RegisterBlocksComplete_10 :
    let s : State := arranged
        [regs 23 [(1, BitVec.ofNat 32 (A.PXP_CFG 15))], Op.core 23 fun k => { k with loads := List.replicate 7 ⟨[(9, 1)], .near, 0⟩ }]
    let c : CoreId := 23
    let d : RegNo := 4
    let a : RegNo := 1
    let imm : BitVec 16 := 0
    (s.Inv) ∧
    (s.ready c = true) ∧
    (s.memIdle) ∧
    (let k := s.fed c [d, a]
     let x := (k.rd a + imm.signExtend 32).toNat
     (k.loads.length < 8) ∧
     ((s.setCore c k).transactions < 192) ∧
     (k.sys = true) ∧
     (x % 4 = 0) ∧
     (let b : Block := .pxp
      let r : RegD := (regAt (A.PXP_CFG 15)).get (by decide)
      let f : FieldD := ((regAt (A.PXP_CFG 15)).get (by decide)).fields.head (by decide)
      (blockAt x = some b) ∧
      (regAt x = some r) ∧
      (f ∈ r.fields) ∧
      (s.powered b = true) ∧
      ([Block.weir, .rill, .pmap, .pxp, .etha, .ethb, .oxb, .upd, .gnt, .lcs, .mem, .sto, .svc, .drc].contains b = true))) := by decide +kernel

theorem test_witness_RegisterBlocksComplete_11 :
    let s : State := arranged [regs 23 [(1, BitVec.ofNat 32 (A.TSU_TIME_LO))], timeIs 0xFFFFFFFF]
    let c : CoreId := 23
    let d : RegNo := 4
    let a : RegNo := 1
    let imm : BitVec 16 := 0
    (s.Inv) ∧
    (s.ready c = true) ∧
    (s.memIdle) ∧
    (let k := s.fed c [d, a]
     let x := (k.rd a + imm.signExtend 32).toNat
     (k.loads.length < 8) ∧
     ((s.setCore c k).transactions < 192) ∧
     (k.sys = true) ∧
     (x % 4 = 0) ∧
     (let p := ((Block.tsu, A.TSU_TIME_LO, A.TSU_TIME_HI, s.now) : Block × Nat × Nat × Nat)
      (x = p.2.1) ∧
      (s.powered p.1 = true))) := by decide +kernel

theorem test_witness_RegisterBlocksComplete_12 :
    let s : State := arranged [regs 23 [(1, BitVec.ofNat 32 (A.PXP_CFG 15))], Op.domDown 11]
    let c : CoreId := 23
    let d : RegNo := 4
    let a : RegNo := 1
    let imm : BitVec 16 := 0
    (s.Inv) ∧
    (s.ready c = true) ∧
    (s.memIdle) ∧
    (let k := s.fed c [d, a]
     let x := (k.rd a + imm.signExtend 32).toNat
     (k.loads.length < 8) ∧
     ((s.setCore c k).transactions < 192) ∧
     (k.sys = true) ∧
     (x % 4 = 0) ∧
     (let b := .pxp
      (blockAt x = some b) ∧
      (s.powered b = false))) := by decide +kernel

theorem test_witness_OutputPads_1 :
    (let s : State := arranged
        [cfg [(Block.pxp.run, 1)], Op.shw fun h => { h with ports := h.ports.set 15 ⟨0, 0, none, 0, [], true, false, .idle⟩ }, timeIs 7]
     let p : Fin 16 := 15
     (s.powered .pxp = true) ∧
     ((s.port p).driven = true) ∧
     (s.bankB = false)) ∧
    (let s : State := arranged
        [cfg [(Block.pxp.run, 1)], Op.shw fun h => { h with ports := h.ports.set 15 ⟨0, 0, none, 0, [], true, false, .idle⟩ }, timeIs 7]
     ((s.bankA = false)) ∧
     ((s.domOn 12 = true))) := by decide +kernel

theorem test_witness_OutputPads_2 :
    (let s : State := arranged
        [padsUp, cfg [(Block.pxp.run, 1)], Op.shw fun h => { h with ports := h.ports.set 15 ⟨0, 0, none, 0, [], true, false, .idle⟩ }, timeIs 7]
     let p : Fin 16 := 15
     (s.powered .pxp = true) ∧
     ((s.port p).driven = true) ∧
     (let q := s.port p
      (s.bankB = true) ∧
      (q.sends = none) ∧
      (q.rdm = .idle))) ∧
    (let s : State := arranged
        [padsUp, cfg [(Block.pxp.run, 1)], Op.shw fun h => { h with ports := h.ports.set 15 ⟨0, 0, none, 0, [], true, false, .idle⟩ }, timeIs 7]
     (s.bankA = true) ∧
     (let owner := s.powered .oxb = true ∧ (s.fld F.OXB_STAT_STATE = 3 ∨ s.fld F.OXB_STAT_STATE = 4) ∧
        (s.pulses - s.blk.oxb.kick) * 1000 < s.fld F.OXB_WDOG_MS * 32768
      ((¬ owner)) ∧
      ((s.powered .met = true) ∧
       (s.running .met = false)))) := by decide +kernel

theorem test_witness_OutputPads_3 :
    let s : State := arranged
        [padsUp, cfg [(Block.pxp.run, 1), (F.PXP_NRZ_TBIT 15, 125)],
        Op.shw fun h => { h with ports := h.ports.set 15 ⟨0, 0, some 100000000, 0, [1, 0x80], true, false, .idle⟩ }, timeIs 19999]
    let p : Fin 16 := 15
    let i : Nat := 1
    let j : Nat := 7
    (s.powered .pxp = true) ∧
    ((s.port p).driven = true) ∧
    (let q := s.port p
     let t := ((s.now : Int) - q.began).toNat / 10
     let mode := s.fld (F.PXP_CFG_MODE p)
     let sends := q.sends.isSome = true ∧ i < q.wire.length
     (s.bankB = true) ∧
     (sends) ∧
     (mode = 0) ∧
     (j < 8) ∧
     (t / s.fld (F.PXP_NRZ_TBIT p) = 8 * i + j)) := by decide +kernel

theorem test_witness_OutputPads_4 :
    let s : State := arranged
        [padsUp, cfg [(Block.pxp.run, 1), (F.PXP_CFG_MODE 15, 1), (F.PXP_CLK_DIV 15, 3)],
        Op.shw fun h => { h with ports := h.ports.set 15 ⟨0, 0, some 100000000, 0, [1, 0x80], true, false, .idle⟩ }, timeIs 479]
    let p : Fin 16 := 15
    let i : Nat := 1
    let j : Nat := 7
    (s.powered .pxp = true) ∧
    ((s.port p).driven = true) ∧
    (let q := s.port p
     let t := ((s.now : Int) - q.began).toNat / 10
     let mode := s.fld (F.PXP_CFG_MODE p)
     let sends := q.sends.isSome = true ∧ i < q.wire.length
     (s.bankB = true) ∧
     (sends) ∧
     (mode = 1) ∧
     (j < 8) ∧
     (t / s.fld (F.PXP_CLK_DIV p) = 8 * i + j)) := by decide +kernel

theorem test_witness_OutputPads_5 :
    let s : State := arranged
        [padsUp, cfg [(Block.pxp.run, 1), (F.PXP_CFG_MODE 15, 2), (F.PXP_DMX_BREAK 15, 92), (F.PXP_DMX_MAB 15, 12)],
        Op.shw fun h => { h with ports := h.ports.set 15 ⟨0, 0, some 100000000, 0, [1, 0x80], true, false, .idle⟩ }, timeIs 91999]
    let p : Fin 16 := 15
    let i : Nat := 0
    (s.powered .pxp = true) ∧
    ((s.port p).driven = true) ∧
    (let q := s.port p
     let t := ((s.now : Int) - q.began).toNat / 10
     let us := t / 100
     let mode := s.fld (F.PXP_CFG_MODE p)
     let sends := q.sends.isSome = true ∧ i < q.wire.length
     (s.bankB = true) ∧
     (sends) ∧
     (2 ≤ mode) ∧
     (us < s.fld (F.PXP_DMX_BREAK p))) := by decide +kernel

theorem test_witness_OutputPads_6 :
    let s : State := arranged
        [padsUp, cfg [(Block.pxp.run, 1), (F.PXP_CFG_MODE 15, 2), (F.PXP_DMX_BREAK 15, 92), (F.PXP_DMX_MAB 15, 12)],
        Op.shw fun h => { h with ports := h.ports.set 15 ⟨0, 0, some 100000000, 0, [1, 0x80], true, false, .idle⟩ }, timeIs 92000]
    let p : Fin 16 := 15
    let i : Nat := 0
    (s.powered .pxp = true) ∧
    ((s.port p).driven = true) ∧
    (let q := s.port p
     let t := ((s.now : Int) - q.began).toNat / 10
     let us := t / 100
     let start := s.fld (F.PXP_DMX_BREAK p) + s.fld (F.PXP_DMX_MAB p)
     let mode := s.fld (F.PXP_CFG_MODE p)
     let sends := q.sends.isSome = true ∧ i < q.wire.length
     (s.bankB = true) ∧
     (sends) ∧
     (2 ≤ mode) ∧
     (s.fld (F.PXP_DMX_BREAK p) ≤ us) ∧
     (us < start)) := by decide +kernel

theorem test_witness_OutputPads_7 :
    let s : State := arranged
        [padsUp, cfg [(Block.pxp.run, 1), (F.PXP_CFG_MODE 15, 2), (F.PXP_DMX_BREAK 15, 92), (F.PXP_DMX_MAB 15, 12)],
        Op.shw fun h => { h with ports := h.ports.set 15 ⟨0, 0, some 100000000, 0, [1, 0x80], true, false, .idle⟩ }, timeIs 191999]
    let p : Fin 16 := 15
    let i : Nat := 1
    let j : Nat := 10
    (s.powered .pxp = true) ∧
    ((s.port p).driven = true) ∧
    (let q := s.port p
     let t := ((s.now : Int) - q.began).toNat / 10
     let us := t / 100
     let start := s.fld (F.PXP_DMX_BREAK p) + s.fld (F.PXP_DMX_MAB p)
     let mode := s.fld (F.PXP_CFG_MODE p)
     let sends := q.sends.isSome = true ∧ i < q.wire.length
     (s.bankB = true) ∧
     (sends) ∧
     (2 ≤ mode) ∧
     (j < 11) ∧
     (start + 44 * i + 4 * j ≤ us) ∧
     (us < start + 44 * i + 4 * j + 4)) := by decide +kernel

theorem test_witness_OutputPads_8 :
    let s : State := arranged
        [padsUp, cfg [(Block.pxp.run, 1), (F.PXP_CFG_MODE 15, 2), (F.PXP_DMX_BREAK 15, 92), (F.PXP_DMX_MAB 15, 12)],
        Op.shw fun h => { h with ports := h.ports.set 15 ⟨0, 0, none, 0, [], true, false, .running 5⟩ }, timeIs 5]
    let p : Fin 16 := 15
    (s.powered .pxp = true) ∧
    ((s.port p).driven = true) ∧
    (let q := s.port p
     let mode := s.fld (F.PXP_CFG_MODE p)
     (s.bankB = true) ∧
     (let fin := 5
      (q.sends = none) ∧
      (q.rdm = .running fin) ∧
      (fin ≤ s.now) ∧
      (2 ≤ mode))) := by decide +kernel

theorem test_witness_OutputPads_9 :
    let s : State := arranged [padsUp, cfg [(F.OXB_STAT_STATE, 4)], pulsesAre 31, Op.oxb fun o => { o with toggles := 0, kick := 31 }]
    (s.bankA = true) ∧
    (let owner := s.powered .oxb = true ∧ (s.fld F.OXB_STAT_STATE = 3 ∨ s.fld F.OXB_STAT_STATE = 4) ∧
       (s.pulses - s.blk.oxb.kick) * 1000 < s.fld F.OXB_WDOG_MS * 32768
     (owner) ∧
     (let n := 31
      (s.pulses = s.blk.oxb.toggles + n))) := by decide +kernel

theorem test_witness_OutputPads_10 :
    let s : State := arranged [padsUp, cfg [(Block.met.run, 1)]]
    (s.bankA = true) ∧
    (s.running .met = true) := by decide +kernel

theorem test_witness_OutputPads_11 :
    let s : State := arranged [padsUp, Op.pwr fun p => { p with dom := p.dom &&& 0xFFFD }]
    (s.bankA = true) ∧
    (s.powered .met = false) := by decide +kernel

theorem test_witness_OutputPads_12 :
    let s : State := arranged [Op.pwr fun p => { p with dom := p.dom &&& 0x6FFF }]
    ((s.powered .svc = false)) ∧
    ((s.domOn 12 = false)) := by decide +kernel

theorem test_witness_OutputPads_13 :
    let s : State := arranged [Op.pwr fun p => { p with vbus := true }]
    (s.usbPull = true) := by decide +kernel

theorem test_witness_BonnetCompletes_edge :
    let s : State := arranged
      [Op.clk fun c => { c with rtc := 2 ^ 63 - 1, frac := 999999999 }]
    (s.Inv) ∧
    (s.powered .bon = true) ∧
    (s.rtc < 2 ^ 63) ∧
    (s.pending = []) ∧
    (s.blk.clk.frac < 1000000000) ∧
    (1000000000 ≤ s.blk.clk.frac + 131072) ∧
    (let b := s.blk.bon
     (b.trim = 0) ∧
     (s.fld F.BON_TRIM_STEPS = 0) ∧
     (s.fld F.MEM_MAINT_STAT_GRANT ≠ 0 ∨ ∀ a ∈ [1, 2, 3], s.maintQueued a = false) ∧
     (b.due = none)) := by decide +kernel

theorem test_witness_BonnetCompletes_set :
    let s : State := arranged
      [Op.clk fun c => { c with rtc := 2 ^ 63 - 1, frac := 999999999 },
       Op.bon fun b => { b with due := some .set }]
    (s.Inv) ∧
    (s.powered .bon = true) ∧
    (s.rtc < 2 ^ 63) ∧
    (s.pending = []) ∧
    (s.blk.clk.frac < 1000000000) ∧
    (1000000000 ≤ s.blk.clk.frac + 131072) ∧
    (let b := s.blk.bon
     (b.trim = 0) ∧
     (s.fld F.BON_TRIM_STEPS = 0) ∧
     (s.fld F.MEM_MAINT_STAT_GRANT ≠ 0 ∨ ∀ a ∈ [1, 2, 3], s.maintQueued a = false) ∧
     (b.due = some .set)) := by decide +kernel

theorem test_witness_BonnetCompletes_sync :
    let s : State := arranged
      [Op.clk fun c => { c with rtc := 2 ^ 63 - 1, frac := 999999999 },
       Op.bon fun b => { b with due := some .sync }, cfg [(F.TSU_STAT_SET, 1)]]
    (s.Inv) ∧
    (s.powered .bon = true) ∧
    (s.rtc < 2 ^ 63) ∧
    (s.pending = []) ∧
    (s.blk.clk.frac < 1000000000) ∧
    (1000000000 ≤ s.blk.clk.frac + 131072) ∧
    (let b := s.blk.bon
     (b.trim = 0) ∧
     (s.fld F.BON_TRIM_STEPS = 0) ∧
     (s.fld F.MEM_MAINT_STAT_GRANT ≠ 0 ∨ ∀ a ∈ [1, 2, 3], s.maintQueued a = false) ∧
     (b.due = some .sync) ∧
     (s.timeSet = true)) := by decide +kernel

/-- A video frame of 16 × 16 pixels in buffer 1, one point on it, one entry of the output table to port 15. -/
def walkScene : State :=
  arranged
    [ showRuns 5000000, videoIn, lampRecord 3 false,
      cfg [(F.PMAP_CTRL_PXP_EN, 1), (F.PMAP_OCNT_COUNT 0, 1), (F.PMAP_PCNT_COUNT 0, 1)],
      Op.setReg (A.PMAP_OTAB 0) 0x10000000, Op.setReg (A.PMAP_PLIST 0) 0x10001000,
      dws 0x10000000 [2 + 2 ^ 16 + 15 * 2 ^ 32, 0], dws 0x10001000 [0xFF + 0xFF * 2 ^ 16 + 3 * 2 ^ 32] ]

theorem walkScene_hyps :
    (walkScene.Inv) ∧
    (walkScene.flk.next = some (5000000, 77)) ∧
    (walkScene.running .flk = true) ∧
    (walkScene.working .pmap = true) ∧
    (walkScene.blk.shows.walk = none) ∧
    (walkScene.blk.shows.walked ≠ some 77) ∧
    (5000000 ≤ walkScene.now + (walkScene.reg A.FLK_LAT).toNat) ∧
    (walkScene.now ≤ 5000000) ∧
    (walkScene.bit F.FLK_SYNC_EN = false) ∧
    (walkScene.bit F.PMAP_CTRL_PXP_EN = true) ∧
    (walkScene.powered .pxp = true) ∧
    (walkScene.lampTakes = true) ∧
    (let s := walkScene
     let bank := s.fld F.PMAP_BANK_NEXT
     let table := (s.reg (A.PMAP_OTAB bank)).toNat
     let point (j : Nat) : Nat := (s.reg (A.PMAP_PLIST bank)).toNat + 8 * j
     let e := outEntry (s.dword table) (s.dword (table + 8))
     let stream (j : Nat) : Fin 2 := Fin.ofNat 2 ((s.dword (point j)).toNat / 2 ^ 48)
     let record (j : Nat) : Nat := (s.dword (point j)).toNat / 2 ^ 32 % 2 ^ 16
     let frame (n : Fin 2) : Nat := (s.ingest n).newest.getD 0
     (s.readable table) ∧ (s.readable (table + 8)) ∧ (s.fld (F.PMAP_OCNT_COUNT bank) = 1) ∧
     (s.fld (F.PMAP_PCNT_COUNT bank) = e.count) ∧ (e.count ≤ 2097152) ∧ (e.ok = true) ∧ (e.kind = 2) ∧ (e.dest = (15 : Fin 16).val) ∧ (e.count * e.size ≤ 16384) ∧
     (∀ j < e.count, s.readable (point j) ∧ s.vidOn (stream j) = true ∧ (s.ingest (stream j)).newest.isSome = true ∧ s.lampClean (record j)) ∧
     (∀ n : Fin 2, s.vidBuf n (frame n) % 8 = 0) ∧
     (∀ n : Fin 2, s.vidOn n = true → 16 ≤ s.vidW n ∧ 16 ≤ s.vidH n ∧ (s.vidRgb n = true ∨ s.vidW n % 2 = 0))) := by decide +kernel

theorem walkScene_buffer : ∀ a, 0x10000000 ≤ a → a < 0x10400000 → walkScene.readable a := by
  intro a h h'
  have hr : regionOf a = .basin := by
    rw [regionOf, if_neg (by omega), if_neg (by omega), if_neg (by omega), if_neg (by omega), if_pos (by omega)]
  have hd : walkScene.domOn 9 = true := by decide +kernel
  have he : walkScene.store.errs = [] := by decide +kernel
  refine ⟨by simp [State.reaches, memDomain, hr, hd], ?_⟩
  rw [State.errAt, he]
  exact ⟨(by decide : weight (0 : BitVec 72) = 0), by decide +kernel⟩

theorem walkScene_size : ∀ n : Fin 2, walkScene.vidOn n = true → walkScene.vidSize n / 8 = 8192 ∧
    walkScene.vidBuf n ((walkScene.ingest n).newest.getD 0) / 8 * 8 = 0x10110000 := by decide +kernel

theorem test_witness_WalksAndVideoComplete_walk :
    (walkScene.Inv) ∧
    (walkScene.flk.next = some (5000000, 77)) ∧
    (walkScene.running .flk = true) ∧
    (walkScene.working .pmap = true) ∧
    (walkScene.blk.shows.walk = none) ∧
    (walkScene.blk.shows.walked ≠ some 77) ∧
    (5000000 ≤ walkScene.now + (walkScene.reg A.FLK_LAT).toNat) ∧
    (walkScene.now ≤ 5000000) ∧
    (walkScene.bit F.FLK_SYNC_EN = false) ∧
    (walkScene.bit F.PMAP_CTRL_PXP_EN = true) ∧
    (walkScene.powered .pxp = true) ∧
    (walkScene.lampTakes = true) ∧
    (let s := walkScene
     let bank := s.fld F.PMAP_BANK_NEXT
     let table := (s.reg (A.PMAP_OTAB bank)).toNat
     let point (j : Nat) : Nat := (s.reg (A.PMAP_PLIST bank)).toNat + 8 * j
     let e := outEntry (s.dword table) (s.dword (table + 8))
     let stream (j : Nat) : Fin 2 := Fin.ofNat 2 ((s.dword (point j)).toNat / 2 ^ 48)
     let record (j : Nat) : Nat := (s.dword (point j)).toNat / 2 ^ 32 % 2 ^ 16
     let frame (n : Fin 2) : Nat := (s.ingest n).newest.getD 0
     (s.readable table) ∧ (s.readable (table + 8)) ∧ (s.fld (F.PMAP_OCNT_COUNT bank) = 1) ∧
     (s.fld (F.PMAP_PCNT_COUNT bank) = e.count) ∧ (e.count ≤ 2097152) ∧ (e.ok = true) ∧ (e.kind = 2) ∧ (e.dest = (15 : Fin 16).val) ∧ (e.count * e.size ≤ 16384) ∧
     (∀ j < e.count, s.readable (point j) ∧ s.vidOn (stream j) = true ∧ (s.ingest (stream j)).newest.isSome = true ∧ s.lampClean (record j)) ∧
     (∀ n : Fin 2, s.vidBuf n (frame n) % 8 = 0) ∧
     (∀ n : Fin 2, s.vidOn n = true → 16 ≤ s.vidW n ∧ 16 ≤ s.vidH n ∧ (s.vidRgb n = true ∨ s.vidW n % 2 = 0) ∧
       ∀ j < s.vidSize n / 8, s.readable (s.vidBuf n (frame n) / 8 * 8 + 8 * j))) := by
  obtain ⟨h1, h2, h3, h4, h5, h6, h7, h8, h9, h10, h11, h12, g1, g2, g3, g4, g5, g6, g7, g8, g9, g10, g11, g12⟩ := walkScene_hyps
  refine ⟨h1, h2, h3, h4, h5, h6, h7, h8, h9, h10, h11, h12, g1, g2, g3, g4, g5, g6, g7, g8, g9, g10, g11, fun n hn => ?_⟩
  refine ⟨(g12 n hn).1, (g12 n hn).2.1, (g12 n hn).2.2, fun j hj => ?_⟩
  obtain ⟨h13, h14⟩ := walkScene_size n hn
  have h (x : Nat) (hx : x = 0x10110000) : walkScene.readable (x + 8 * j) :=
    walkScene_buffer _ (by omega) (by have : j < 8192 := h13 ▸ hj; omega)
  exact h _ h14

/-! The checksum of 464 zeros, in eight parts. -/

def zeros : Nat → List Nat
  | 0 => []
  | n + 1 => List.replicate 58 0 ++ zeros n

theorem zeros_eq : ∀ n, zeros n = List.replicate (58 * n) 0
  | 0 => rfl
  | n + 1 => by rw [zeros, zeros_eq n, List.replicate_append_replicate, Nat.mul_succ, Nat.add_comm]

theorem zeros_1 : (List.replicate 58 0).foldl crcByte 4294967295 = 958504419 := by decide +kernel
theorem zeros_2 : (List.replicate 58 0).foldl crcByte 958504419 = 270545485 := by decide +kernel
theorem zeros_3 : (List.replicate 58 0).foldl crcByte 270545485 = 233995318 := by decide +kernel
theorem zeros_4 : (List.replicate 58 0).foldl crcByte 233995318 = 1881837607 := by decide +kernel
theorem zeros_5 : (List.replicate 58 0).foldl crcByte 1881837607 = 2613883234 := by decide +kernel
theorem zeros_6 : (List.replicate 58 0).foldl crcByte 2613883234 = 400198206 := by decide +kernel
theorem zeros_7 : (List.replicate 58 0).foldl crcByte 400198206 = 3208891473 := by decide +kernel
theorem zeros_8 : (List.replicate 58 0).foldl crcByte 3208891473 = 1044825616 := by decide +kernel

theorem crc_zeros (n : Nat) (h : n = 58 * 8) : crc32 (List.replicate n 0) = 3250141679 := by
  rw [h, ← zeros_eq, crc32]
  simp only [zeros, List.foldl_append, zeros_1, zeros_2, zeros_3, zeros_4, zeros_5, zeros_6, zeros_7, zeros_8, List.foldl_nil]
  decide

/-- The metering block restores, with no image in the commit store, or with an image of zeros in its second area. -/
def restoreScene (image : Bool) : State :=
  arranged
    ((if image then [Op.putBytes (csKey 0x200 + 464) (leBytes 4 3250141679)] else []) ++ [Op.met fun m => { m with restore := true }])

theorem zeros_image (tail : List Byte) (n : Nat) (h : n = 464) :
    metSeq (some (List.replicate n 0 ++ tail)) = if leNat (tail.take 4) = 3250141679 then some 0 else none := by
  have l : (List.replicate n (0 : Byte)).length = 464 := by rw [List.length_replicate, h]
  have e : ((List.replicate n (0 : Byte) ++ tail).take 464).map (·.toNat) = List.replicate n 0 := by
    rw [List.take_left' l, List.map_replicate]; rfl
  have d : (List.replicate n (0 : Byte) ++ tail).drop 464 = tail := List.drop_left' l
  have q : ((List.replicate n (0 : Byte) ++ tail).drop 460).take 4 = List.replicate 4 0 := by
    rw [List.drop_append_of_le_length (by omega), List.drop_replicate, List.take_append_of_le_length (by rw [List.length_replicate]; omega),
      List.take_replicate, h]
    rfl
  rw [metSeq, e, d, q, crc_zeros n (by omega)]
  rfl

theorem restoreScene_waits (image : Bool) :
    (restoreScene image).Inv ∧ (restoreScene image).powered .met = true ∧
    ((restoreScene image).bit F.MET_RILLS_EVT_EN = false ∧ ((restoreScene image).evq .met).length < 16) ∧ (restoreScene image).met.restore = true ∧
    ∀ j < 256, weight ((restoreScene image).errAt (csKey (4 * j))) = 0 := by
  cases image <;> decide +kernel

theorem restoreScene_images :
    (restoreScene false).store.bytes (csKey 0) 512 = List.replicate 464 0 ++ List.replicate 48 0 ∧
    (restoreScene false).store.bytes (csKey 0x200) 512 = List.replicate 464 0 ++ List.replicate 48 0 ∧
    (restoreScene true).store.bytes (csKey 0) 512 = List.replicate 464 0 ++ List.replicate 48 0 ∧
    (restoreScene true).store.bytes (csKey 0x200) 512 = List.replicate 464 0 ++ (leBytes 4 3250141679 ++ List.replicate 44 0) := by decide +kernel

theorem restoreScene_seqs :
    metSeq (some ((restoreScene false).store.bytes (csKey 0) 512)) = none ∧ metSeq (some ((restoreScene false).store.bytes (csKey 0x200) 512)) = none ∧
    metSeq (some ((restoreScene true).store.bytes (csKey 0) 512)) = none ∧
    metSeq (some ((restoreScene true).store.bytes (csKey 0x200) 512)) = some 0 := by
  obtain ⟨a, b, c, d⟩ := restoreScene_images
  rw [a, b, c, d, zeros_image _ _ rfl, zeros_image _ _ rfl]
  decide

theorem test_witness_MeteringCompletes_fails :
    let s := restoreScene false
    let image (o : Nat) : List Byte := s.store.bytes (csKey o) 512
    s.Inv ∧ s.powered .met = true ∧ (s.bit F.MET_RILLS_EVT_EN = false ∧ (s.evq .met).length < 16) ∧ s.met.restore = true ∧
    (∀ j < 256, weight (s.errAt (csKey (4 * j))) = 0) ∧ metSeq (some (image 0)) = none ∧ metSeq (some (image 0x200)) = none := by
  obtain ⟨h1, h2, h3, h4, h5⟩ := restoreScene_waits false
  exact ⟨h1, h2, h3, h4, h5, restoreScene_seqs.1, restoreScene_seqs.2.1⟩

theorem test_witness_MeteringCompletes_restores :
    let s := restoreScene true
    let image (o : Nat) : List Byte := s.store.bytes (csKey o) 512
    let o := 0x200
    let a := 0
    s.Inv ∧ s.powered .met = true ∧ (s.bit F.MET_RILLS_EVT_EN = false ∧ (s.evq .met).length < 16) ∧ s.met.restore = true ∧
    (∀ j < 256, weight (s.errAt (csKey (4 * j))) = 0) ∧ metSeq (some (image o)) = some a ∧
    (metSeq (some (image (0x200 - o)))).all (fun b => b < a ∨ (o = 0 ∧ b = a)) = true := by
  obtain ⟨h1, h2, h3, h4, h5⟩ := restoreScene_waits true
  refine ⟨h1, h2, h3, h4, h5, restoreScene_seqs.2.2.2, ?_⟩
  show (metSeq (some ((restoreScene true).store.bytes (csKey 0) 512))).all _ = true
  rw [restoreScene_seqs.2.2.1]
  rfl

end Sys2Proof.Tests
end

section
/-!
PROOFS. Division (R63) and the conditional branches (R75 to R77): the reading rules for flags, for an issued core and for the operand
forms, then the two statements.
-/
namespace Sys2Proof.Machine

variable {s : State} {c : CoreId}

/-! ### The flags of `st` (R61) -/

/-- Of the bits of `st`, a flag that is written reads as the value; the others stay. -/
theorem getLsbD_setFlag (st : Word) (i j : Nat) (b : Bool) (hj : j < 32) :
    (setFlag st i b).getLsbD j = if j = i then b else st.getLsbD j := by
  have hmask : (fieldMask i 1).getLsbD j = decide (j = i) := by
    rw [fieldMask_bit _ _ _ hj, ← Bool.decide_and, decide_eq_decide]
    omega
  simp only [setFlag, withField, BitVec.getLsbD_or, BitVec.getLsbD_and, BitVec.getLsbD_not, hmask, BitVec.getLsbD_ofNat,
    Nat.testBit_mul_two_pow, hj]
  by_cases h : j = i
  · cases b <;> simp [h, bit01]
  · simp [h]

/-- V after a division says that the divisor is zero. -/
@[simp] theorem flagV_divFlags (st r y : Word) : flagV (divFlags st r y) = (y == 0) :=
  (getLsbD_setFlag _ 3 3 _ (by decide)).trans (if_pos rfl)

/-! ### The core that an instruction finds (R44) -/

@[simp] theorem Core.wrs_pc (l : List (RegNo × Word)) (k : Core) : (k.wrs l).pc = k.pc := by
  unfold Core.wrs
  induction l generalizing k with
  | nil => rfl
  | cons p l ih => rw [List.foldl_cons, ih, Core.wr_pc]

/-- Loads that return move no pc. -/
@[simp] theorem Core.settleLoads_pc (k : Core) : k.settleLoads.pc = k.pc := by
  have step (l : List Load) (q : Core) :
      (l.foldl (fun k l => { k.wrs l.writes with lstat := k.lstat ||| l.lstat }) q).pc = q.pc := by
    induction l generalizing q with
    | nil => rfl
    | cons x l ih => rw [List.foldl_cons, ih]; exact Core.wrs_pc _ _
  exact step _ _

@[simp] theorem Core.need_pc (k : Core) (uses : List RegNo) : (k.need uses).pc = k.pc := Core.settleLoads_pc _

@[simp] theorem State.fed_pc (s : State) (c : CoreId) (uses : List RegNo) : (s.fed c uses).pc = (s.core c).pc := Core.need_pc _ _

/-- A core that is ready stands at a multiple of 4. -/
theorem State.ready_pc (h : s.ready c = true) : (s.core c).pc.toNat % 4 = 0 := by
  simp only [State.ready, State.fetches, Bool.and_eq_true, beq_iff_eq] at h
  exact h.2.1

/-! ### A result in a word register -/

@[simp] theorem Core.wr_cause (k : Core) (r : RegNo) (v : Word) : (k.wr r v).cause = k.cause := by unfold Core.wr; split <;> rfl
@[simp] theorem Core.retire_cause (k : Core) (b : Bool) (p : Word) : (k.retire b p).cause = k.cause := rfl
@[simp] theorem Core.retire_exl (k : Core) (b : Bool) (p : Word) : (k.retire b p).exl = k.exl := rfl
@[simp] theorem Core.putW_cause (k : Core) (d : RegNo) (S : Bool) (r st : Word) : (k.putW d S r st).cause = k.cause := Core.wr_cause _ _ _
@[simp] theorem Core.putW_st (k : Core) (d : RegNo) (S : Bool) (r st : Word) : (k.putW d S r st).st = if S then st else k.st := rfl

@[simp] theorem Core.putW_exl (k : Core) (d : RegNo) (S : Bool) (r st : Word) : (k.putW d S r st).exl = k.exl :=
  congrArg (fun m : Word => m.getLsbD 1) (Core.wr_mode k d r)

theorem Core.putW_rd_same (k : Core) (d : RegNo) (S : Bool) (r st : Word) (h : d ≠ 0) : (k.putW d S r st).rd d = r :=
  Core.rd_wr_same k d r h

/-- The core after an instruction that retires. -/
@[simp] theorem State.core_retires (uses : List RegNo) (f : Core → Core) :
    (s.retires c uses f).core c = (f (s.fed c uses)).retire (s.fed c uses).budgeted ((s.fed c uses).pc + 4) :=
  State.core_setCore _ _ _

/-- An instruction whose result is a word retires with its result and its flags. -/
theorem Op.aluW_run (d : RegNo) (uses : List RegNo) (S : Bool) (f : Core → Word × Word) (h : s.ready c = true) :
    (Op.aluW c d uses S f).run s = s.retires c (d :: uses) fun k => k.putW d S (f k).1 (f k).2 :=
  Op.issue_finish _ _ h

/-! ### Division (R63) -/

/-- The result of a divide instruction on its operands, `quot` for a quotient and `signed` for signed operands: what it is where the
divisor is zero, and where the quotient overflows. -/
structure DivRule (f : Word → Word → Word) (quot signed : Bool) : Prop where
  byZero : ∀ x, f x 0 = if quot then 0xFFFFFFFF else x
  overflow : signed = true → f 0x80000000 0xFFFFFFFF = if quot then 0x80000000 else 0

theorem divS_rule : DivRule divS true true := ⟨fun _ => rfl, fun _ => by decide⟩
theorem divU_rule : DivRule divU true false := ⟨fun _ => rfl, nofun⟩
theorem remS_rule : DivRule remS false true := ⟨fun _ => rfl, fun _ => by decide⟩
theorem remU_rule : DivRule remU false false := ⟨fun _ => rfl, nofun⟩

/-- A divide instruction: the result by `f`, and the flags of a division. -/
def Op.divide (f : Word → Word → Word) (c : CoreId) (d a b : RegNo) (S : Bool) : Op :=
  Op.aluW c d [a, b] S fun k => let y := k.rd b; let r := f (k.rd a) y; (r, divFlags k.st r y)

theorem exec_div (c : CoreId) (d a b : RegNo) (S : Bool) (s : State) :
    exec (.div c d a b S) s = .next ((Op.divide divS c d a b S).run s) := rfl

theorem exec_divu (c : CoreId) (d a b : RegNo) (S : Bool) (s : State) :
    exec (.divu c d a b S) s = .next ((Op.divide divU c d a b S).run s) := rfl

theorem exec_rem (c : CoreId) (d a b : RegNo) (S : Bool) (s : State) :
    exec (.rem c d a b S) s = .next ((Op.divide remS c d a b S).run s) := rfl

theorem exec_remu (c : CoreId) (d a b : RegNo) (S : Bool) (s : State) :
    exec (.remu c d a b S) s = .next ((Op.divide remU c d a b S).run s) := rfl

/-- A divide instruction retires with its result and, under S, its flags. -/
theorem Op.divide_core (f : Word → Word → Word) (d a b : RegNo) (S : Bool) (h : s.ready c = true) :
    let k := s.fed c [d, a, b]
    let r := f (k.rd a) (k.rd b)
    ((Op.divide f c d a b S).run s).core c = (k.putW d S r (divFlags k.st r (k.rd b))).retire k.budgeted (k.pc + 4) := by
  rw [Op.divide, Op.aluW_run _ _ _ _ h, State.core_retires]

/-- What R63 says of a divide instruction whose results follow `DivRule`: the core has gone on without an exception, and its result and
its V are the stated ones. -/
theorem Op.divide_corners {f : Word → Word → Word} {quot signed : Bool} (hf : DivRule f quot signed) (d a b : RegNo) (S : Bool)
    (h : s.ready c = true) (hd : d ≠ 0) :
    let k := s.fed c [d, a, b]
    let t := ((Op.divide f c d a b S).run s).core c
    t.cause = k.cause ∧ t.pc = k.pc + 4 ∧ t.exl = k.exl ∧
    (k.rd b = 0 → t.rd d = (if quot then 0xFFFFFFFF else k.rd a) ∧ (S = true → flagV t.st = true)) ∧
    (signed = true → k.rd a = 0x80000000 → k.rd b = 0xFFFFFFFF → t.rd d = if quot then 0x80000000 else 0) ∧
    (S = true → k.rd b ≠ 0 → flagV t.st = false) ∧ (S = false → t.st = k.st) := by
  intro k t
  have ht : t = _ := Op.divide_core f d a b S h
  have hrd : t.rd d = f (k.rd a) (k.rd b) := by rw [ht, Core.retire_rd, Core.putW_rd_same _ _ _ _ _ hd]
  have hV (hS : S = true) : flagV t.st = (k.rd b == 0) := by rw [ht, Core.retire_st, Core.putW_st, if_pos hS, flagV_divFlags]
  refine ⟨?_, ?_, ?_, fun hy => ⟨?_, fun hS => ?_⟩, fun hs hx hy => ?_, fun hS hy => ?_, fun hS => ?_⟩
  · rw [ht, Core.retire_cause, Core.putW_cause]
  · rw [ht, Core.retire_pc]
  · rw [ht, Core.retire_exl, Core.putW_exl]
  · rw [hrd, hy, hf.byZero]
  · rw [hV hS, hy, beq_self_eq_true]
  · rw [hrd, hx, hy, hf.overflow hs]
  · rw [hV hS, beq_eq_false_iff_ne.2 hy]
  · rw [ht, Core.retire_st, Core.putW_st, hS, if_neg Bool.false_ne_true]

/-! ### Conditions (R76, R77) -/

/-- The decoded condition of `BC`, for each defined value. -/
theorem bcHolds_defined (n : Nat) (st : Word) (h : n ≤ 16) : bcHolds n st = some (condHolds n st) := by
  match n with
  | 0 | 1 | 2 | 3 | 4 | 5 | 6 | 7 | 8 | 9 | 10 | 11 | 12 | 13 | 14 | 15 | 16 => simp [bcHolds, condHolds, bne]
  | n + 17 => omega

theorem bcHolds_undefined (n : Nat) (st : Word) (h : 16 < n) : bcHolds n st = none := by
  obtain ⟨m, rfl⟩ : ∃ m, n = m + 17 := ⟨n - 17, by omega⟩
  rfl

/-- The decoded test of `BR`, for each defined value. -/
theorem brHolds_defined (n : Nat) (x : Word) (h : n ≤ 5) : brHolds n x = some (testHolds n x.toInt) := by
  match n with
  | 0 | 1 | 2 | 3 | 4 | 5 => simp [brHolds, testHolds, bne, Bool.beq_eq_decide_eq]
  | n + 6 => omega

theorem brHolds_undefined (n : Nat) (x : Word) (h : 5 < n) : brHolds n x = none := by
  obtain ⟨m, rfl⟩ : ∃ m, n = m + 6 := ⟨n - 6, by omega⟩
  rfl

/-! ### Branches (R75, R78) -/

/-- A branch from a multiple of 4 goes to a multiple of 4. -/
theorem branchTarget_aligned (pc : Word) (off : BitVec 16) (h : pc.toNat % 4 = 0) : (branchTarget pc off).toNat % 4 = 0 := by
  have h4 : (4 : Word).toNat = 4 := rfl
  rw [branchTarget, BitVec.toNat_add, BitVec.toNat_mul, h4]
  omega

theorem fetchable_of_contains (r : Region) (h : [Region.localI, .rom, .nor].contains r = true) : fetchable r = true := by
  obtain rfl | rfl | rfl : r = .localI ∨ r = .rom ∨ r = .nor := by simpa using h
  all_goals rfl

/-- A jump without a link to a target that can be fetched from. -/
theorem Op.jump_run (target : Word) (h4 : target.toNat % 4 = 0) (hf : fetchable (regionOf target.toNat) = true) :
    (Op.jump c target none).run s = s.setCore c ((s.core c).retire (s.core c).budgeted target) := by
  simp [Op.jump, h4, hf]

/-- An undefined condition raises ILLEGAL with reason 5. -/
theorem Op.branch_undefined (uses : List RegNo) (off : BitVec 16) (cond : Core → Option Bool) (h : s.ready c = true)
    (hc : cond (s.fed c uses) = none) :
    (Op.issue c uses fun k => Op.branch c k (cond k) off).run s = s.raises c uses 0x01 5 0 := by
  rw [Op.issue_run _ _ h, hc]
  rfl

/-- A defined condition retires the branch: to its target where it holds and the target can be fetched from, and to the next
instruction where it does not hold. -/
theorem Op.branch_defined (uses : List RegNo) (off : BitVec 16) (cond : Core → Option Bool) (taken : Bool) (h : s.ready c = true)
    (hc : cond (s.fed c uses) = some taken)
    (hf : taken = true → [Region.localI, .rom, .nor].contains (regionOf (branchTarget (s.core c).pc off).toNat) = true) :
    (Op.issue c uses fun k => Op.branch c k (cond k) off).run s =
      s.setCore c ((s.fed c uses).retire (s.fed c uses).budgeted
        (if taken then branchTarget (s.core c).pc off else (s.fed c uses).pc + 4)) := by
  rw [Op.issue_run _ _ h, hc]
  cases taken with
  | false => simp [Op.branch]
  | true =>
    have h4 := branchTarget_aligned _ off (State.ready_pc h)
    simp only [Op.branch, State.fed_pc, if_true]
    rw [Op.jump_run _ h4 (fetchable_of_contains _ (hf rfl))]
    simp

end Sys2Proof.Machine

namespace Sys2Proof.Proofs
open Sys2Proof.Machine

/-- Settles O11: each of the four instructions is `Op.divide` of a result that meets `DivRule`. -/
theorem divisionCorners : Obligations.DivisionCorners := by
  unfold Obligations.DivisionCorners
  intro p hp c d a b S s h hd
  simp only [List.mem_cons, List.not_mem_nil, or_false] at hp
  obtain rfl | rfl | rfl | rfl := hp
  · exact ⟨_, exec_div .., Op.divide_corners divS_rule d a b S h hd⟩
  · exact ⟨_, exec_divu .., Op.divide_corners divU_rule d a b S h hd⟩
  · exact ⟨_, exec_rem .., Op.divide_corners remS_rule d a b S h hd⟩
  · exact ⟨_, exec_remu .., Op.divide_corners remU_rule d a b S h hd⟩

/-- Settles O19: the conditions are those of R76 and R77, and a branch from the aligned pc of a ready core reaches an aligned target. -/
theorem branchesComplete : Obligations.BranchesComplete := by
  unfold Obligations.BranchesComplete
  intro c cond a off s h
  refine ⟨⟨fun hc hf => ?_, fun hc => ?_⟩, fun hc hf => ?_, fun hc => ?_⟩ <;> refine congrArg Host.Outcome.next ?_
  · exact Op.branch_defined [] off (fun k => bcHolds cond.toNat k.st) _ h (bcHolds_defined _ _ hc) hf
  · exact Op.branch_undefined [] off (fun k => bcHolds cond.toNat k.st) h (bcHolds_undefined _ _ hc)
  · exact Op.branch_defined [a] off (fun k => brHolds cond.toNat (k.rd a)) _ h (brHolds_defined _ _ hc) hf
  · exact Op.branch_undefined [a] off (fun k => brHolds cond.toNat (k.rd a)) h (brHolds_undefined _ _ hc)

end Sys2Proof.Proofs
end
